-- ==== Sys2Proof/Word.lean ====
section
/-! DEFINITION. Bytes, words, the numbering of heads, houses and sides, and the two fixed-size containers of the model. -/

namespace Sys2Proof

/-- One byte of a telegram. -/
abbrev Byte := BitVec 8

/-- A two-byte value, sent high byte first (section 4.8). -/
abbrev Word := BitVec 16

/-- A head's side in its house (section 4.1). -/
inductive Side where
  | a | b
  deriving DecidableEq, Repr

/-- The two houses. -/
inductive House where
  | one | two
  deriving DecidableEq, Repr

/-- The four projector heads. -/
inductive Head where
  | h1 | h2 | h3 | h4
  deriving DecidableEq, Repr

/-- The three fire zones (section 4.2). -/
inductive Zone where
  | z1 | z2 | z3
  deriving DecidableEq, Repr

/-- The house a head stands in (section 4.1). -/
def Head.house : Head → House
  | .h1 => .one
  | .h2 => .one
  | .h3 => .two
  | .h4 => .two

/-- The side a head stands on (section 4.1). -/
def Head.side : Head → Side
  | .h1 => .a
  | .h2 => .b
  | .h3 => .a
  | .h4 => .b

/-- The head of a house's side (section 4.1). -/
def House.head : House → Side → Head
  | .one, .a => .h1
  | .one, .b => .h2
  | .two, .a => .h3
  | .two, .b => .h4

/-- The heads of a house, side A first. -/
def House.heads (k : House) : List Head := [k.head .a, k.head .b]

/-- The other head of the same house (section 4.1). -/
def Head.partner : Head → Head
  | .h1 => .h2
  | .h2 => .h1
  | .h3 => .h4
  | .h4 => .h3

/-- Head numbers 1 to 4. -/
def Head.num : Head → Nat
  | .h1 => 1
  | .h2 => 2
  | .h3 => 3
  | .h4 => 4

/-- House numbers 1 and 2. -/
def House.num : House → Nat
  | .one => 1
  | .two => 2

/-- Zone numbers 1 to 3. -/
def Zone.num : Zone → Nat
  | .z1 => 1
  | .z2 => 2
  | .z3 => 3

/-- Whether a zone concerns a house (section 4.2). -/
def Zone.concerns : Zone → House → Bool
  | .z1, .one => true
  | .z1, .two => false
  | .z2, .one => false
  | .z2, .two => true
  | .z3, _ => true

/-- One value for each head. -/
structure PerHead (α : Type) where
  h1 : α
  h2 : α
  h3 : α
  h4 : α
  deriving DecidableEq, Repr

/-- The value of one head. -/
def PerHead.get {α : Type} (p : PerHead α) : Head → α
  | .h1 => p.h1
  | .h2 => p.h2
  | .h3 => p.h3
  | .h4 => p.h4

/-- The four values with one replaced. -/
def PerHead.set {α : Type} (p : PerHead α) (h : Head) (x : α) : PerHead α :=
  match h with
  | .h1 => { p with h1 := x }
  | .h2 => { p with h2 := x }
  | .h3 => { p with h3 := x }
  | .h4 => { p with h4 := x }

/-- The same value for every head. -/
def PerHead.all {α : Type} (x : α) : PerHead α := ⟨x, x, x, x⟩

/-- A function applied to each head's value. -/
def PerHead.map {α β : Type} (f : α → β) (p : PerHead α) : PerHead β := ⟨f p.h1, f p.h2, f p.h3, f p.h4⟩

/-- The four values, Head 1 first. -/
def PerHead.toList {α : Type} (p : PerHead α) : List α := [p.h1, p.h2, p.h3, p.h4]

/-- One value for each house. -/
structure PerHouse (α : Type) where
  one : α
  two : α
  deriving DecidableEq, Repr

/-- The value of one house. -/
def PerHouse.get {α : Type} (p : PerHouse α) : House → α
  | .one => p.one
  | .two => p.two

/-- The two values with one replaced. -/
def PerHouse.set {α : Type} (p : PerHouse α) (k : House) (x : α) : PerHouse α :=
  match k with
  | .one => { p with one := x }
  | .two => { p with two := x }

/-- The same value for both houses. -/
def PerHouse.all {α : Type} (x : α) : PerHouse α := ⟨x, x⟩

/-- A function applied to each house's value. -/
def PerHouse.map {α β : Type} (f : α → β) (p : PerHouse α) : PerHouse β := ⟨f p.one, f p.two⟩

/-- The two values, House 1 first. -/
def PerHouse.toList {α : Type} (p : PerHouse α) : List α := [p.one, p.two]

/-- A table of a fixed number of entries: the entries in index order, with their number. -/
structure Table (α : Type) (n : Nat) where
  cells : List α
  size : cells.length = n
  deriving DecidableEq, Repr

namespace Table
variable {α β : Type} {n : Nat}

/-- The entry at an index. -/
def get (t : Table α n) (i : Fin n) : α := t.cells[i.val]'(by rw [t.size]; exact i.isLt)

/-- The table with one entry replaced. -/
def set (t : Table α n) (i : Fin n) (x : α) : Table α n :=
  ⟨t.cells.set i.val x, by rw [List.length_set, t.size]⟩

/-- The table with a function applied to every entry. -/
def map (f : α → β) (t : Table α n) : Table β n := ⟨t.cells.map f, by rw [List.length_map, t.size]⟩

/-- The table holding one value in every entry. -/
def replicate (n : Nat) (x : α) : Table α n := ⟨List.replicate n x, List.length_replicate⟩

/-- The table whose entries are given by their index. -/
def ofIndex (n : Nat) (f : Nat → α) : Table α n := ⟨(List.range n).map f, by rw [List.length_map, List.length_range]⟩

end Table

/-- A natural number as an index below `n`, when it is one. -/
def toIndex (n : Nat) (i : Nat) : Option (Fin n) := if h : i < n then some ⟨i, h⟩ else none

/-- The entry at an index given as a number, none beyond the table's ends. -/
def Table.get? {α : Type} {n : Nat} (t : Table α n) (i : Nat) : Option α := (toIndex n i).map t.get

end Sys2Proof
end

