-- ==== Sys2Proof/Config.lean ====
section
/-! DEFINITION. The fixed codes and delivered values of the manual, and the one value it leaves open. -/

namespace Sys2Proof.Config

/-- The class byte that READ of a map entry answers for an entry that is not dirty. R38 gives a class only to a
dirty entry and no rule says what stands in its place, so the value is free (log entry 9). The argument is the
model's own counter, so that two readings need not agree. -/
opaque cleanClassByte : Nat → Byte

/-- The lead byte of a telegram (R2). -/
def lead : Byte := 0xA5#8

/-- Kind codes (R3). -/
def kindOrder : Byte := 0x20#8
/-- Kind code of ANSWER (R3). -/
def kindAnswer : Byte := 0x21#8
/-- Kind code of NOTICE (R3). -/
def kindNotice : Byte := 0x22#8
/-- Kind code of DRIVE (R3). -/
def kindDrive : Byte := 0x30#8

/-- The address that means all stations (section 4.3). -/
def broadcast : Byte := 31#8

/-- The dwell of SEARCH on each rate, ms (R10). -/
def dwellMs : Nat := 600

/-- The limit without a sample that makes a burning lamp stale, ms (R70, R72, R77). -/
def staleMs : Nat := 3000

/-- The shortest interval that is not bounce, tenths of a millisecond (R47). -/
def bounceTenths : Nat := 100

/-- The greatest frame counter (section 4.9, R48). -/
def maxFrames : Nat := 16777215

/-- The greatest diagnostic counter (section 4.9). -/
def maxCounter : Nat := 65535

/-- Own address as delivered (section 4.3, R188). -/
def ownAddress : Byte := 24#8

/-- Console address as delivered (section 4.3, R192). -/
def consoleAddress : Byte := 1#8

end Sys2Proof.Config
end

