-- ==== Sys2Proof/Syntax.lean ====
section
/-! DEFINITION. The commands of the part: one constructor of `Instr` for each row of the opcode table, and the telegrams
and orders they carry. -/

namespace Sys2Proof

/-- A telegram as it is received or sent (R2, R191). The lead byte and the count byte are not held: the lead is fixed and
the count is the number of payload bytes. -/
structure Frame where
  dst : Byte
  src : Byte
  kind : Byte
  payload : List Byte
  check : Byte
  deriving DecidableEq, Repr

/-- What breaks off a telegram under assembly (R5): a gap, with the byte that ended it, or a framing fault. -/
inductive BreakCause where
  | gap (ended : Byte)
  | framing
  deriving DecidableEq, Repr

/-- The 20 drive entries (R38). -/
inductive DriveId where
  | motor (h : Head)
  | douser (h : Head)
  | lamp (h : Head)
  | feed (h : Head)
  | sound (k : House)
  | dim (k : House)
  deriving DecidableEq, Repr

/-- The parameters of WRITE REACT, bytes 1 to 8 (R191). -/
structure ReactParams where
  index : Byte
  flags : Byte
  source : Byte
  kind : Byte
  selValue : Byte
  selMask : Byte
  action : Byte
  target : Byte
  deriving DecidableEq, Repr

/-- The parameters of WRITE REEL, bytes 1 to 11 (R191). -/
structure ReelParams where
  index : Byte
  flags : Byte
  last : Word
  motorCue : Word
  changeCue : Word
  window : Byte
  lightPos : Byte
  lightFade : Byte
  deriving DecidableEq, Repr

/-- An order with its parameters as the payload of an ORDER telegram lays them out (section 10.7, R191). `bad` is a
payload whose structure R182 refuses, with the order code its answer echoes. -/
inductive Order where
  | read (sec a b page : Byte)
  | writeReact (p : ReactParams)
  | writeMap (index station code : Byte)
  | writeReel (p : ReelParams)
  | writeLamp (head item : Byte) (value : Word)
  | setup (item index : Byte) (value : Word)
  | curvePoint (house entry : Byte)
  | curveData (house : House) (bytes : List Byte)
  | trim (head : Byte) (length : Option Word)
  | splitPoint (s : Byte)
  | address (a lockFlag : Byte)
  | lock
  | showFn (fn target : Byte) (start : Option Byte)
  | ack (marks : Word)
  | endAlert
  | mask (marks : Word)
  | leave
  | join
  | clearCounters
  | restart
  | bad (code : Byte)
  deriving DecidableEq, Repr

/-- The commands, one for each row of the opcode table. Every command carries `dt`, the time since the command before it in
tenths of a millisecond (log entry 1). An order's command is the arrival of the good ORDER telegram, addressed to the part,
that carries it; `src` is that telegram's source (log entry 6). -/
inductive Instr where
  -- Chapter 1: the loop unit
  | telegramComplete (dt : Nat) (f : Frame)
  | lineBreak (dt : Nat) (cause : BreakCause)
  | lengthError (dt : Nat)
  | lengthIdleEnd (dt : Nat)
  | searchDwellExpiry (dt : Nat)
  | loopGuardExpiry (dt : Nat)
  | returnDeadlineExpiry (dt : Nat)
  | loopOutFree (dt : Nat)
  | lastByteSent (dt : Nat)
  -- Chapter 2: the tables
  | writeReact (dt : Nat) (src : Byte) (p : ReactParams)
  | lock (dt : Nat) (src : Byte)
  | refreshDue (dt : Nat) (d : DriveId)
  | writeMap (dt : Nat) (src index station code : Byte)
  -- Chapter 3: the head monitors
  | framePulse (dt : Nat) (h : Head)
  | slowTimerExpiry (dt : Nat) (h : Head)
  | stopTimerExpiry (dt : Nat) (h : Head)
  | idleTimerExpiry (dt : Nat) (h : Head)
  -- Chapter 4: the lamps
  | strikeTimerExpiry (dt : Nat) (h : Head)
  | staleTimerExpiry (dt : Nat) (h : Head)
  | writeLamp (dt : Nat) (src head item : Byte) (value : Word)
  | trim (dt : Nat) (src head : Byte) (length : Option Word)
  -- Chapter 5: the programme store
  | writeReel (dt : Nat) (src : Byte) (p : ReelParams)
  | splitPoint (dt : Nat) (src s : Byte)
  -- Chapter 6: the changeover engines
  | showArm (dt : Nat) (src target : Byte) (start : Option Byte)
  | showThread (dt : Nat) (src target : Byte) (start : Option Byte)
  | runupDeadlineExpiry (dt : Nat) (k : House)
  | showStart (dt : Nat) (src target : Byte) (start : Option Byte)
  | showHalt (dt : Nat) (src target : Byte) (start : Option Byte)
  | showResume (dt : Nat) (src target : Byte) (start : Option Byte)
  | showChange (dt : Nat) (src target : Byte) (start : Option Byte)
  | showLightsUp (dt : Nat) (src target : Byte) (start : Option Byte)
  | showLightsDown (dt : Nat) (src target : Byte) (start : Option Byte)
  | showLightsAuto (dt : Nat) (src target : Byte) (start : Option Byte)
  | showStrike (dt : Nat) (src target : Byte) (start : Option Byte)
  | showFireDrop (dt : Nat) (src target : Byte) (start : Option Byte)
  | showFireReset (dt : Nat) (src target : Byte) (start : Option Byte)
  | showBadFunction (dt : Nat) (src fn target : Byte) (start : Option Byte)
  -- Chapter 7: the house lights
  | curvePoint (dt : Nat) (src house entry : Byte)
  | curveDataHouse1 (dt : Nat) (src : Byte) (bytes : List Byte)
  | curveDataHouse2 (dt : Nat) (src : Byte) (bytes : List Byte)
  | fadeStep (dt : Nat) (k : House)
  -- Chapter 8: fire
  | linkChange (dt : Nat) (k : House) (opened : Bool)
  | detectorExpiry (dt : Nat) (k : House) (source : Byte)
  -- Chapter 9: the panel and the notices
  | panelGuardExpiry (dt : Nat)
  | ack (dt : Nat) (src : Byte) (marks : Word)
  | mask (dt : Nat) (src : Byte) (marks : Word)
  | endAlert (dt : Nat) (src : Byte)
  | quietTimerExpiry (dt : Nat)
  -- Chapter 10: orders
  | leave (dt : Nat) (src : Byte)
  | join (dt : Nat) (src : Byte)
  | unknownOrder (dt : Nat) (src : Byte) (payload : List Byte)
  | readReactionEntry (dt : Nat) (src a b page : Byte)
  | readMapEntry (dt : Nat) (src a b page : Byte)
  | readReelRecord (dt : Nat) (src a b page : Byte)
  | readLampRecord (dt : Nat) (src a b page : Byte)
  | readLampState (dt : Nat) (src a b page : Byte)
  | readCurveEntry (dt : Nat) (src a b page : Byte)
  | readSettingsItem (dt : Nat) (src a b page : Byte)
  | readCounters (dt : Nat) (src a b page : Byte)
  | readLoopState (dt : Nat) (src a b page : Byte)
  | readHouseState (dt : Nat) (src a b page : Byte)
  | readHeadMonitor (dt : Nat) (src a b page : Byte)
  | readFireState (dt : Nat) (src a b page : Byte)
  | readNoticeSet (dt : Nat) (src a b page : Byte)
  | setupLoopGuardTime (dt : Nat) (src index : Byte) (value : Word)
  | setupReturnLimit (dt : Nat) (src index : Byte) (value : Word)
  | setupRefreshPeriod (dt : Nat) (src index : Byte) (value : Word)
  | setupConsoleAddress (dt : Nat) (src index : Byte) (value : Word)
  | setupServiceFlag (dt : Nat) (src index : Byte) (value : Word)
  | setupNominalRate (dt : Nat) (src index : Byte) (value : Word)
  | setupStopLimit (dt : Nat) (src index : Byte) (value : Word)
  | setupIdleLimit (dt : Nat) (src index : Byte) (value : Word)
  | setupRunupLimit (dt : Nat) (src index : Byte) (value : Word)
  | setupStrikeLead (dt : Nat) (src index : Byte) (value : Word)
  | setupRunout (dt : Nat) (src index : Byte) (value : Word)
  | setupIdlePosition (dt : Nat) (src index : Byte) (value : Word)
  | setupFaultPosition (dt : Nat) (src index : Byte) (value : Word)
  | setupIntervalPosition (dt : Nat) (src index : Byte) (value : Word)
  | setupEndPosition (dt : Nat) (src index : Byte) (value : Word)
  | setupFastFadeTime (dt : Nat) (src index : Byte) (value : Word)
  | setupDetectorHoldTime (dt : Nat) (src index : Byte) (value : Word)
  | setupConfirmWindow (dt : Nat) (src index : Byte) (value : Word)
  | setupPanelGuardTime (dt : Nat) (src index : Byte) (value : Word)
  | setupQuietTime (dt : Nat) (src index : Byte) (value : Word)
  | setupBadItem (dt : Nat) (src item index : Byte) (value : Word)
  | address (dt : Nat) (src a lockFlag : Byte)
  | clearCounters (dt : Nat) (src : Byte)
  | restart (dt : Nat) (src : Byte)
  -- Chapter 11: start and stop
  | supplyFail (dt : Nat)
  | resetAssert (dt : Nat)
  | supplyReturn (dt : Nat) (clear : Bool)
  | resetRelease (dt : Nat) (clear : Bool)
  deriving DecidableEq, Repr

end Sys2Proof
end

