-- ==== Sys2Proof/WellFormed.lean ====
section
/-! DEFINITION. Which commands are well formed: what a sender on the ring or a line of the part can produce. The meanings are
total and do not rest on these checks. -/

namespace Sys2Proof

/-- A station address, 1 to 30 (section 4.3). -/
def isStation (a : Byte) : Bool := decide (1 ≤ a.toNat ∧ a.toNat ≤ 30)

/-- A telegram carries at most 12 payload bytes; a greater count is a length error and never completes (R2, R6). -/
def Frame.wf (f : Frame) : Bool := decide (f.payload.length ≤ 12)

/-- CURVE DATA carries 1 to 11 bytes (R139, section 10.7). -/
def curveBytesOk (bs : List Byte) : Bool := decide (1 ≤ bs.length ∧ bs.length ≤ 11)

/-- The parameter lengths each order code allows (section 10.7); an empty list for a code that names no order. -/
def paramLengths (code : Nat) : List Nat :=
  match code with
  | 0x01 => [4]
  | 0x02 => [8]
  | 0x03 => [3]
  | 0x04 => [11]
  | 0x05 => [4]
  | 0x06 => [4]
  | 0x07 => [2]
  | 0x08 => [1, 2, 3, 4, 5, 6, 7, 8, 9, 10, 11]
  | 0x09 => [1, 2, 3, 4, 5, 6, 7, 8, 9, 10, 11]
  | 0x0A => [1, 3]
  | 0x0B => [1]
  | 0x0C => [2]
  | 0x0D => [0]
  | 0x0E => [2, 3]
  | 0x0F => [2]
  | 0x10 => [0]
  | 0x11 => [2]
  | 0x12 => [0]
  | 0x13 => [0]
  | 0x14 => [0]
  | 0x15 => [0]
  | _ => []

/-- A payload whose structure R182 refuses, of a length a telegram can carry. -/
def badPayload (payload : List Byte) : Bool :=
  decide (payload.length ≤ 12) &&
    match payload with
    | [] => true
    | c :: ps => !(paramLengths c.toNat).contains ps.length

/-- The well-formedness of a command: a sender that is a station, operand lengths a telegram carries, and for the three rows
that stand for refused forms an operand of that form. -/
def Instr.wf : Instr → Bool
  | .telegramComplete _ f => f.wf
  | .lineBreak _ _ => true
  | .lengthError _ => true
  | .lengthIdleEnd _ => true
  | .searchDwellExpiry _ => true
  | .loopGuardExpiry _ => true
  | .returnDeadlineExpiry _ => true
  | .loopOutFree _ => true
  | .lastByteSent _ => true
  | .writeReact _ src _ => isStation src
  | .lock _ src => isStation src
  | .refreshDue _ _ => true
  | .writeMap _ src _ _ _ => isStation src
  | .framePulse _ _ => true
  | .slowTimerExpiry _ _ => true
  | .stopTimerExpiry _ _ => true
  | .idleTimerExpiry _ _ => true
  | .strikeTimerExpiry _ _ => true
  | .staleTimerExpiry _ _ => true
  | .writeLamp _ src _ _ _ => isStation src
  | .trim _ src _ _ => isStation src
  | .writeReel _ src _ => isStation src
  | .splitPoint _ src _ => isStation src
  | .showArm _ src _ _ => isStation src
  | .showThread _ src _ _ => isStation src
  | .runupDeadlineExpiry _ _ => true
  | .showStart _ src _ _ => isStation src
  | .showHalt _ src _ _ => isStation src
  | .showResume _ src _ _ => isStation src
  | .showChange _ src _ _ => isStation src
  | .showLightsUp _ src _ _ => isStation src
  | .showLightsDown _ src _ _ => isStation src
  | .showLightsAuto _ src _ _ => isStation src
  | .showStrike _ src _ _ => isStation src
  | .showFireDrop _ src _ _ => isStation src
  | .showFireReset _ src _ _ => isStation src
  | .showBadFunction _ src fn _ _ => isStation src && !decide (1 ≤ fn.toNat ∧ fn.toNat ≤ 12)
  | .curvePoint _ src _ _ => isStation src
  | .curveDataHouse1 _ src bs => isStation src && curveBytesOk bs
  | .curveDataHouse2 _ src bs => isStation src && curveBytesOk bs
  | .fadeStep _ _ => true
  | .linkChange _ _ _ => true
  | .detectorExpiry _ _ source => isStation source
  | .panelGuardExpiry _ => true
  | .ack _ src _ => isStation src
  | .mask _ src _ => isStation src
  | .endAlert _ src => isStation src
  | .quietTimerExpiry _ => true
  | .leave _ src => isStation src
  | .join _ src => isStation src
  | .unknownOrder _ src payload => isStation src && badPayload payload
  | .readReactionEntry _ src _ _ _ => isStation src
  | .readMapEntry _ src _ _ _ => isStation src
  | .readReelRecord _ src _ _ _ => isStation src
  | .readLampRecord _ src _ _ _ => isStation src
  | .readLampState _ src _ _ _ => isStation src
  | .readCurveEntry _ src _ _ _ => isStation src
  | .readSettingsItem _ src _ _ _ => isStation src
  | .readCounters _ src _ _ _ => isStation src
  | .readLoopState _ src _ _ _ => isStation src
  | .readHouseState _ src _ _ _ => isStation src
  | .readHeadMonitor _ src _ _ _ => isStation src
  | .readFireState _ src _ _ _ => isStation src
  | .readNoticeSet _ src _ _ _ => isStation src
  | .setupLoopGuardTime _ src _ _ => isStation src
  | .setupReturnLimit _ src _ _ => isStation src
  | .setupRefreshPeriod _ src _ _ => isStation src
  | .setupConsoleAddress _ src _ _ => isStation src
  | .setupServiceFlag _ src _ _ => isStation src
  | .setupNominalRate _ src _ _ => isStation src
  | .setupStopLimit _ src _ _ => isStation src
  | .setupIdleLimit _ src _ _ => isStation src
  | .setupRunupLimit _ src _ _ => isStation src
  | .setupStrikeLead _ src _ _ => isStation src
  | .setupRunout _ src _ _ => isStation src
  | .setupIdlePosition _ src _ _ => isStation src
  | .setupFaultPosition _ src _ _ => isStation src
  | .setupIntervalPosition _ src _ _ => isStation src
  | .setupEndPosition _ src _ _ => isStation src
  | .setupFastFadeTime _ src _ _ => isStation src
  | .setupDetectorHoldTime _ src _ _ => isStation src
  | .setupConfirmWindow _ src _ _ => isStation src
  | .setupPanelGuardTime _ src _ _ => isStation src
  | .setupQuietTime _ src _ _ => isStation src
  | .setupBadItem _ src item _ _ => isStation src && !decide (1 ≤ item.toNat ∧ item.toNat ≤ 20)
  | .address _ src _ _ => isStation src
  | .clearCounters _ src => isStation src
  | .restart _ src => isStation src
  | .supplyFail _ => true
  | .resetAssert _ => true
  | .supplyReturn _ _ => true
  | .resetRelease _ _ => true

end Sys2Proof
end

