-- ==== Sys2Proof/Decode.lean ====
section
/-! DEFINITION. From bits to telegrams, orders and commands, and back. -/

namespace Sys2Proof

/-- The row of the opcode table that a word spells. No row of this part's table gives bits, so no word spells one. -/
def decodeTableWord (_nbits _w : Nat) : Option Instr := none

/-- The bytes from destination through the last payload byte: what the check byte completes to 0 (R2). -/
def Frame.body (f : Frame) : List Byte :=
  f.dst :: f.src :: f.kind :: BitVec.ofNat 8 f.payload.length :: f.payload

/-- The telegram as it stands on the line, lead to check (R2). -/
def Frame.bytes (f : Frame) : List Byte := Config.lead :: (f.body ++ [f.check])

/-- The sum of a run of bytes modulo 256. -/
def byteSum (bs : List Byte) : Byte := bs.foldl (· + ·) 0

/-- Whether the check byte makes the sum from destination through check 0 (R2, R7). -/
def Frame.checkOk (f : Frame) : Bool := byteSum f.body + f.check == 0

/-- Whether source and destination lie in their ranges (R7). -/
def Frame.addressOk (f : Frame) : Bool :=
  decide (1 ≤ f.src.toNat ∧ f.src.toNat ≤ 30 ∧ 1 ≤ f.dst.toNat ∧ f.dst.toNat ≤ 31)

/-- A telegram with its check byte computed (R2). -/
def Frame.make (dst src kind : Byte) (payload : List Byte) : Frame :=
  { dst, src, kind, payload, check := 0 - byteSum (dst :: src :: kind :: BitVec.ofNat 8 payload.length :: payload) }

/-- Two bytes as one value, high byte first (section 4.8). -/
def wordOf (hi lo : Byte) : Word := hi ++ lo

/-- The high byte of a value. -/
def hiByte (w : Word) : Byte := w.extractLsb' 8 8

/-- The low byte of a value. -/
def loByte (w : Word) : Byte := w.extractLsb' 0 8

/-- The order a payload carries (R182, section 10.7): the code byte, then parameters of a length the order allows. Any other
payload is `bad`, with the code its answer echoes, 0 for an empty payload. -/
def decodeOrder (payload : List Byte) : Order :=
  match payload with
  | [] => .bad 0
  | c :: ps =>
    match c.toNat, ps with
    | 0x01, [sec, a, b, page] => .read sec a b page
    | 0x02, [i, fl, so, k, v, m, ac, t] => .writeReact ⟨i, fl, so, k, v, m, ac, t⟩
    | 0x03, [i, st, fc] => .writeMap i st fc
    | 0x04, [i, fl, l1, l0, m1, m0, c1, c0, w, p, t] =>
        .writeReel ⟨i, fl, wordOf l1 l0, wordOf m1 m0, wordOf c1 c0, w, p, t⟩
    | 0x05, [h, it, v1, v0] => .writeLamp h it (wordOf v1 v0)
    | 0x06, [it, ix, v1, v0] => .setup it ix (wordOf v1 v0)
    | 0x07, [k, e] => .curvePoint k e
    | 0x08, bs => if 1 ≤ bs.length ∧ bs.length ≤ 11 then .curveData .one bs else .bad c
    | 0x09, bs => if 1 ≤ bs.length ∧ bs.length ≤ 11 then .curveData .two bs else .bad c
    | 0x0A, [h] => .trim h none
    | 0x0A, [h, n1, n0] => .trim h (some (wordOf n1 n0))
    | 0x0B, [s] => .splitPoint s
    | 0x0C, [a, l] => .address a l
    | 0x0D, [] => .lock
    | 0x0E, [f, t] => .showFn f t none
    | 0x0E, [f, t, s] => .showFn f t (some s)
    | 0x0F, [m1, m0] => .ack (wordOf m1 m0)
    | 0x10, [] => .endAlert
    | 0x11, [m1, m0] => .mask (wordOf m1 m0)
    | 0x12, [] => .leave
    | 0x13, [] => .join
    | 0x14, [] => .clearCounters
    | 0x15, [] => .restart
    | _, _ => .bad c

/-- The order code an answer echoes (R182, section 10.7). -/
def Order.code : Order → Byte
  | .read _ _ _ _ => 0x01
  | .writeReact _ => 0x02
  | .writeMap _ _ _ => 0x03
  | .writeReel _ => 0x04
  | .writeLamp _ _ _ => 0x05
  | .setup _ _ _ => 0x06
  | .curvePoint _ _ => 0x07
  | .curveData .one _ => 0x08
  | .curveData .two _ => 0x09
  | .trim _ _ => 0x0A
  | .splitPoint _ => 0x0B
  | .address _ _ => 0x0C
  | .lock => 0x0D
  | .showFn _ _ _ => 0x0E
  | .ack _ => 0x0F
  | .endAlert => 0x10
  | .mask _ => 0x11
  | .leave => 0x12
  | .join => 0x13
  | .clearCounters => 0x14
  | .restart => 0x15
  | .bad c => c

/-- The parameter bytes of an order (section 10.7). -/
def Order.params : Order → List Byte
  | .read sec a b page => [sec, a, b, page]
  | .writeReact p => [p.index, p.flags, p.source, p.kind, p.selValue, p.selMask, p.action, p.target]
  | .writeMap i st fc => [i, st, fc]
  | .writeReel p =>
      [p.index, p.flags, hiByte p.last, loByte p.last, hiByte p.motorCue, loByte p.motorCue, hiByte p.changeCue,
        loByte p.changeCue, p.window, p.lightPos, p.lightFade]
  | .writeLamp h it v => [h, it, hiByte v, loByte v]
  | .setup it ix v => [it, ix, hiByte v, loByte v]
  | .curvePoint k e => [k, e]
  | .curveData _ bs => bs
  | .trim h none => [h]
  | .trim h (some n) => [h, hiByte n, loByte n]
  | .splitPoint s => [s]
  | .address a l => [a, l]
  | .showFn f t none => [f, t]
  | .showFn f t (some s) => [f, t, s]
  | .ack m => [hiByte m, loByte m]
  | .mask m => [hiByte m, loByte m]
  | .lock => []
  | .endAlert => []
  | .leave => []
  | .join => []
  | .clearCounters => []
  | .restart => []
  | .bad _ => []

/-- The payload of the ORDER telegram that carries an order (section 10.7). -/
def encodeOrder (o : Order) : List Byte := o.code :: o.params

/-- The command that is the arrival of an order: its row of the opcode table. A READ of a section that does not exist has no row of
its own, and neither has a payload refused for its structure, whose row keeps the payload. -/
def Order.row (dt : Nat) (src : Byte) : Order → Option Instr
  | .read sec a b page =>
    match sec.toNat with
    | 1 => some (.readReactionEntry dt src a b page)
    | 2 => some (.readMapEntry dt src a b page)
    | 3 => some (.readReelRecord dt src a b page)
    | 4 => some (.readLampRecord dt src a b page)
    | 5 => some (.readLampState dt src a b page)
    | 6 => some (.readCurveEntry dt src a b page)
    | 7 => some (.readSettingsItem dt src a b page)
    | 8 => some (.readCounters dt src a b page)
    | 9 => some (.readLoopState dt src a b page)
    | 10 => some (.readHouseState dt src a b page)
    | 11 => some (.readHeadMonitor dt src a b page)
    | 12 => some (.readFireState dt src a b page)
    | 13 => some (.readNoticeSet dt src a b page)
    | _ => none
  | .writeReact p => some (.writeReact dt src p)
  | .writeMap i st fc => some (.writeMap dt src i st fc)
  | .writeReel p => some (.writeReel dt src p)
  | .writeLamp h it v => some (.writeLamp dt src h it v)
  | .setup it ix v =>
    match it.toNat with
    | 1 => some (.setupLoopGuardTime dt src ix v)
    | 2 => some (.setupReturnLimit dt src ix v)
    | 3 => some (.setupRefreshPeriod dt src ix v)
    | 4 => some (.setupConsoleAddress dt src ix v)
    | 5 => some (.setupServiceFlag dt src ix v)
    | 6 => some (.setupNominalRate dt src ix v)
    | 7 => some (.setupStopLimit dt src ix v)
    | 8 => some (.setupIdleLimit dt src ix v)
    | 9 => some (.setupRunupLimit dt src ix v)
    | 10 => some (.setupStrikeLead dt src ix v)
    | 11 => some (.setupRunout dt src ix v)
    | 12 => some (.setupIdlePosition dt src ix v)
    | 13 => some (.setupFaultPosition dt src ix v)
    | 14 => some (.setupIntervalPosition dt src ix v)
    | 15 => some (.setupEndPosition dt src ix v)
    | 16 => some (.setupFastFadeTime dt src ix v)
    | 17 => some (.setupDetectorHoldTime dt src ix v)
    | 18 => some (.setupConfirmWindow dt src ix v)
    | 19 => some (.setupPanelGuardTime dt src ix v)
    | 20 => some (.setupQuietTime dt src ix v)
    | _ => some (.setupBadItem dt src it ix v)
  | .curvePoint k e => some (.curvePoint dt src k e)
  | .curveData .one bs => some (.curveDataHouse1 dt src bs)
  | .curveData .two bs => some (.curveDataHouse2 dt src bs)
  | .trim h n => some (.trim dt src h n)
  | .splitPoint n => some (.splitPoint dt src n)
  | .address a l => some (.address dt src a l)
  | .lock => some (.lock dt src)
  | .showFn f t st =>
    match f.toNat with
    | 1 => some (.showArm dt src t st)
    | 2 => some (.showStart dt src t st)
    | 3 => some (.showChange dt src t st)
    | 4 => some (.showHalt dt src t st)
    | 5 => some (.showResume dt src t st)
    | 6 => some (.showLightsUp dt src t st)
    | 7 => some (.showLightsDown dt src t st)
    | 8 => some (.showLightsAuto dt src t st)
    | 9 => some (.showThread dt src t st)
    | 10 => some (.showStrike dt src t st)
    | 11 => some (.showFireDrop dt src t st)
    | 12 => some (.showFireReset dt src t st)
    | _ => some (.showBadFunction dt src f t st)
  | .ack m => some (.ack dt src m)
  | .endAlert => some (.endAlert dt src)
  | .mask m => some (.mask dt src m)
  | .leave => some (.leave dt src)
  | .join => some (.join dt src)
  | .clearCounters => some (.clearCounters dt src)
  | .restart => some (.restart dt src)
  | .bad _ => none

end Sys2Proof
end

