-- ==== Sys2Proof/Machine/State.lean ====
section
/-! DEFINITION. The state of the part, block by block, and the state right after reset. Every field is plain data. Times marked ms
are whole milliseconds of the part's time base; times marked tenths are tenths of a millisecond (section 4.4). -/

namespace Sys2Proof.Machine

/-! ### Chapter 1: the loop unit -/

/-- The four line rates (R1), in the order of the search cycle (R10). -/
inductive Rate where
  | r19200 | r9600 | r4800 | r2400
  deriving DecidableEq, Repr

/-- The loop states (section 1.4), in the order of its table. -/
inductive LoopState where
  | search | held | listen
  deriving DecidableEq, Repr

/-- The receiver between and inside telegrams (R4 to R6). A telegram under assembly holds the bytes the events of the table make
known: the lead that ended a gap (R5). -/
inductive Reception where
  | seeking
  | assembling (bytes : List Byte)
  | ignoring
  deriving DecidableEq, Repr

/-- The seven loop counters (R24). -/
structure LoopCounters where
  brk : Nat
  length : Nat
  check : Nat
  overrun : Nat
  lost : Nat
  clash : Nat
  answerDrop : Nat
  deriving DecidableEq, Repr

/-- The 16 notice events (R174), in bit order. -/
inductive Event where
  | fire1 | fire2 | alert | shutter | pictureLost | lateIncoming | runupFail | cueMissed
  | carbonLow | carbonEnd | arcFail | showDone | notThreaded | loop | panelLost | restarted
  deriving DecidableEq, Repr

/-- The notice codes (R174). -/
inductive Code where
  | link | report | confirm | drop | start | pre | fault | slow | lamp | dark | change | incoming | resume
  | motor | thread | show | switch | rod | strike | out | interval | ended | guard | loss | clash
  | cold | warm | order | supply
  deriving DecidableEq, Repr

/-- The cause of a raise: a head, a house, a zone or none (R174). -/
inductive Cause where
  | none
  | head (h : Head)
  | house (k : House)
  | zone (z : Zone)
  deriving DecidableEq, Repr

/-- The contents of a NOTICE, built at the raise (R176). -/
structure NoticeContents where
  pending : Word
  event : Event
  cause : Cause
  code : Option Code
  count : Nat
  deriving DecidableEq, Repr

/-- A telegram waiting in the answer/notice FIFO (R21). `named` marks the ANSWER that the restart wait names (R190). -/
inductive Waiting where
  | answer (dst : Byte) (payload : List Byte) (named : Bool)
  | notice (c : NoticeContents)
  deriving DecidableEq, Repr

/-- The classes of a dirty drive entry (R22, R39, R42), most urgent first. -/
inductive DriveClass where
  | safety | change | feed | lights | refresh
  deriving DecidableEq, Repr

/-- What the arbiter is sending (R23). A DRIVE keeps the class and dirtied time its entry had when started. -/
inductive Sending where
  | repeated (f : Frame)
  | answer (f : Frame) (named : Bool)
  | notice (f : Frame) (c : NoticeContents)
  | drive (f : Frame) (d : DriveId) (cls : DriveClass) (dirtied : Nat)
  deriving DecidableEq, Repr

/-- LOOP OUT: free, sending, or in the 2-character gap after a last byte (R23). -/
inductive LoopOut where
  | free
  | sending (t : Sending)
  | gap
  deriving DecidableEq, Repr

/-- An entry of the in-transit list (R17): the telegram as sent, its source among its fields, and its return deadline in ms, none
until its last byte has been sent. -/
structure Transit where
  frame : Frame
  deadline : Option Nat
  deriving DecidableEq, Repr

/-- The loop unit (Chapter 1). -/
structure LoopUnit where
  /-- loop state (section 1.4) -/
  state : LoopState
  /-- rate locked, or under trial in SEARCH (R1, R10) -/
  rate : Rate
  /-- deadline of the SEARCH dwell, ms (R10) -/
  dwell : Option Nat
  /-- deadline of the loop guard, ms (R13) -/
  guard : Option Nat
  /-- service latch (section 1.4, R14, R15) -/
  latch : Bool
  /-- a LEAVE awaits its move (R14) -/
  leaveAwaiting : Bool
  /-- BYPASS line: the bypass relay is closed while it is active (section 1.4) -/
  bypass : Bool
  /-- the receiver (R4 to R6) -/
  rx : Reception
  /-- repeat FIFO, oldest first (R16) -/
  repeats : List Frame
  /-- in-transit list, oldest first (R17) -/
  transit : List Transit
  /-- consecutive-loss count (R17, R18, R20) -/
  losses : Nat
  /-- answer/notice FIFO, oldest first (R21) -/
  fifo : List Waiting
  /-- LOOP OUT (R22, R23) -/
  out : LoopOut
  /-- loop counters (R24) -/
  counters : LoopCounters
  /-- loop guard time, ms, retained (R13) -/
  guardTime : Nat
  /-- return limit, ms, retained (R17) -/
  returnLimit : Nat
  /-- console address, retained (R21, R192) -/
  console : Byte
  deriving DecidableEq, Repr

/-! ### Chapter 2: the reaction table and the drive table -/

/-- The action of a reaction entry with its target (R25). -/
inductive Action where
  | pass
  | drop
  | cue (h : Head)
  | lamp (h : Head)
  | sense (z : Zone)
  | panel
  deriving DecidableEq, Repr

/-- A reaction entry (R25). -/
structure ReactEntry where
  inUse : Bool
  source : Byte
  kind : Byte
  selValue : Byte
  selMask : Byte
  action : Action
  consume : Bool
  protect : Bool
  lockMark : Bool
  deriving DecidableEq, Repr

/-- The reaction matcher: the table, the write lock (R36) and its counters (R34). -/
structure Matcher where
  table : Table ReactEntry 32
  writeLock : Bool
  counts : Table Nat 32
  malformed : Nat
  deriving DecidableEq, Repr

/-- A triple: ceiling, wall, aisle (section 4.7). -/
structure Triple where
  ceiling : Nat
  wall : Nat
  aisle : Nat
  deriving DecidableEq, Repr

/-- A commanded value (R39). -/
inductive DriveVal where
  | motor (run : Bool)
  | douser (opened : Bool)
  | lamp (strike : Bool)
  | feed (rate : Nat)
  | sound (head : Option Head)
  | dim (t : Triple)
  deriving DecidableEq, Repr

/-- What a dirty entry waits with: its class and its dirtied time in ms (R38). -/
structure Dirty where
  cls : DriveClass
  since : Nat
  deriving DecidableEq, Repr

/-- A drive entry (R38); `dirty` is none for an entry that is not dirty, and `lastTime` is none from the start of a DRIVE telegram to its
last byte. -/
structure DriveEntry where
  station : Byte
  fn : Byte
  value : DriveVal
  dirty : Option Dirty
  lastValue : Option DriveVal
  lastTime : Option Nat
  deriving DecidableEq, Repr

/-- The drive table and the refresh period, ms, retained (R38, R42). -/
structure DriveTable where
  entries : Table DriveEntry 20
  refreshPeriod : Nat
  deriving DecidableEq, Repr

/-! ### Chapter 3: the head monitors -/

/-- The motion states (R45). -/
inductive Motion where
  | stopped | runup | locked | slow
  deriving DecidableEq, Repr

/-- A head monitor (R45). -/
structure Monitor where
  motion : Motion
  streak : Nat
  counter : Nat
  /-- last accepted pulse time, tenths -/
  lastPulse : Option Nat
  /-- last measured interval, tenths -/
  interval : Option Nat
  /-- slow timer deadline, tenths -/
  slowTimer : Option Nat
  /-- stop timer deadline, tenths -/
  stopTimer : Option Nat
  /-- idle timer deadline, ms -/
  idleTimer : Option Nat
  overspeed : Nat
  /-- SHUT line: the fire shutter is held open while it is energized -/
  hold : Bool
  /-- service flag, retained -/
  inService : Bool
  /-- nominal rate, frames per second, retained -/
  fps : Nat
  /-- stop limit, ms, retained -/
  stopLimit : Nat
  /-- idle limit, s, retained -/
  idleLimit : Nat
  deriving DecidableEq, Repr

/-! ### Chapter 4: the lamp regulators -/

/-- The lamp states (R64). -/
inductive LampState where
  | dark | striking | burning | failed
  deriving DecidableEq, Repr

/-- The lamp record (R65), retained. -/
structure LampRecord where
  target : Nat
  base : Nat
  kp : Nat
  ki : Nat
  fmax : Nat
  imin : Nat
  trimLength : Nat
  lowMargin : Nat
  strikeLimit : Nat
  deriving DecidableEq, Repr

/-- A lamp sample (R31) with its moment of delivery, ms (R69). -/
structure Sample where
  voltage : Nat
  current : Nat
  endSwitch : Bool
  moment : Nat
  deriving DecidableEq, Repr

/-- A lamp regulator (R64). -/
structure Lamp where
  record : LampRecord
  state : LampState
  /-- accumulator A -/
  acc : Int
  /-- rate in force, steps per minute -/
  rate : Nat
  /-- rod remaining R, feed steps, retained -/
  rod : Nat
  /-- consumption remainder C, step-milliseconds -/
  rem : Nat
  /-- last accounting time, ms -/
  accounted : Option Nat
  sample : Option Sample
  stale : Bool
  /-- strike timer deadline, ms -/
  strikeTimer : Option Nat
  /-- stale timer deadline, ms -/
  staleTimer : Option Nat
  carbonLow : Bool
  /-- ARC line: contactor enable (R66) -/
  contactor : Bool
  deriving DecidableEq, Repr

/-! ### Chapter 5: the programme store -/

/-- A light cue: position and fade time (R91). -/
structure LightCue where
  position : Nat
  fade : Nat
  deriving DecidableEq, Repr

/-- A reel record (R91); `last` is L, and 0 marks the record empty. -/
structure Reel where
  side : Side
  last : Nat
  motorCue : Nat
  changeCue : Nat
  window : Nat
  intervalAfter : Bool
  showEnd : Bool
  light : Option LightCue
  deriving DecidableEq, Repr

/-- The programme store (R90), retained. -/
structure Programme where
  reels : Table Reel 64
  split : Nat
  deriving DecidableEq, Repr

/-! ### Chapter 6: the changeover engines -/

/-- The house states (R103). -/
inductive HouseState where
  | idle | armed | running | interval | ended | halted
  deriving DecidableEq, Repr

/-- The roles of a head (R104). -/
inductive Role where
  | empty | threaded | starting | showing | tailing
  deriving DecidableEq, Repr

/-- The purposes of a run-up (R103). -/
inductive Purpose where
  | start | incoming | resume
  deriving DecidableEq, Repr

/-- A head's role and the record it holds (R103, R104). -/
structure Slot where
  role : Role
  held : Option Nat
  deriving DecidableEq, Repr

/-- A run-up: its head, purpose and deadline in ms (R103). -/
structure Runup where
  head : Head
  purpose : Purpose
  deadline : Nat
  deriving DecidableEq, Repr

/-- A changeover engine, less its heads' slots, which `State.slots` holds (R103). -/
structure Engine where
  state : HouseState
  /-- current index -/
  cur : Nat
  /-- highest assigned index, −1 to 63 -/
  highest : Int
  strikeDone : Bool
  motorTaken : Bool
  changeTaken : Bool
  changePending : Bool
  dark : Bool
  runup : Option Runup
  faultClaim : Bool
  /-- stray-cue counter -/
  stray : Nat
  /-- run-up limit, s, retained -/
  runupLimit : Nat
  /-- strike lead, s, retained -/
  strikeLead : Nat
  /-- runout, frames, retained -/
  runout : Nat
  deriving DecidableEq, Repr

/-! ### Chapter 7: the light units -/

/-- The sources of light requests (R142), highest rank first. -/
inductive LightSource where
  | fire | fault | operator | shown
  deriving DecidableEq, Repr

/-- A light request: target position and fade time (R142). -/
structure LightReq where
  position : Nat
  fade : Nat
  deriving DecidableEq, Repr

/-- A house's request list (R142). SHOW is present at every moment. -/
structure Requests where
  fire : Option LightReq
  fault : Option LightReq
  operator : Option LightReq
  shown : LightReq
  deriving DecidableEq, Repr

/-- A running fade (R134, R147): start position, target, step count, steps taken and the moment it began, ms. -/
structure Fade where
  p0 : Nat
  target : Nat
  n : Nat
  k : Nat
  began : Nat
  deriving DecidableEq, Repr

/-- A light unit (R134). -/
structure LightUnit where
  /-- curve, retained -/
  curve : Table Triple 64
  /-- write pointer -/
  pointer : Fin 64
  /-- partial-triple holder: 0, 1 or 2 bytes -/
  holder : List Byte
  requests : Requests
  /-- light position P -/
  position : Nat
  fade : Option Fade
  lastTriple : Triple
  /-- the five light settings, retained -/
  idlePos : Nat
  faultPos : Nat
  intervalPos : Nat
  endPos : Nat
  fastFade : Nat
  deriving DecidableEq, Repr

/-! ### Chapter 8: the fire unit -/

/-- The fire states (R153). -/
inductive FireState where
  | clear | alert | fire
  deriving DecidableEq, Repr

/-- The conditions a detector reports (R32). -/
inductive Condition where
  | normal | pre | fire | fault
  deriving DecidableEq, Repr

/-- An entry of a detector list (R157), with the expiry deadline fixed at its last report (R158), ms. -/
structure Detector where
  source : Byte
  zone : Zone
  condition : Condition
  lastHeard : Nat
  preSince : Option Nat
  deadline : Nat
  deriving DecidableEq, Repr

/-- One house's part of the fire unit (R153). -/
structure FireHouse where
  state : FireState
  /-- fire latch, retained -/
  latch : Bool
  /-- detector list, oldest heard first -/
  detectors : List Detector
  /-- recorded link line state: true is open -/
  linkOpen : Bool
  /-- PORT line: the port shutters are held open while it is energized -/
  port : Bool
  /-- shutter gate: true is open -/
  gate : Bool
  deriving DecidableEq, Repr

/-- The fire unit (R153). -/
structure FireUnit where
  house : PerHouse FireHouse
  /-- detector hold time, s, retained -/
  holdTime : Nat
  /-- confirm window, s, retained -/
  confirmWindow : Nat
  deriving DecidableEq, Repr

/-! ### Chapter 9: the panel decoder and the notice unit -/

/-- Four key maps in telegram order (R170). -/
structure KeyMap where
  house1 : Byte
  house2 : Byte
  head : Byte
  common : Byte
  deriving DecidableEq, Repr

/-- The panel decoder (R170). -/
structure Panel where
  last : KeyMap
  present : Bool
  /-- panel guard deadline, ms -/
  guard : Option Nat
  /-- panel guard time, ms, retained -/
  guardTime : Nat
  deriving DecidableEq, Repr

/-- A cause record (R174). -/
structure CauseRecord where
  cause : Cause
  code : Option Code
  count : Nat
  deriving DecidableEq, Repr

/-- The notice unit (R174). -/
structure NoticeUnit where
  /-- pending set, bit n for event n -/
  pending : Word
  /-- mask, bit n set for event n masked, retained -/
  mask : Word
  causes : Table CauseRecord 16
  /-- ALERT line -/
  alert : Bool
  /-- quiet timer deadline, ms -/
  quietTimer : Option Nat
  /-- quiet time, ms, retained -/
  quietTime : Nat
  deriving DecidableEq, Repr

/-! ### Chapters 10 and 11: the order processor and the start logic -/

/-- The restart wait (R190). `requested` stands only inside an event, between the request of a start and that event's end. -/
inductive RestartWait where
  | clear | waiting | requested
  deriving DecidableEq, Repr

/-- The order processor (section 10.1). -/
structure OrderUnit where
  /-- own address, retained (R188) -/
  own : Byte
  /-- address lock, retained (R188) -/
  addressLock : Bool
  /-- restart wait (R190) -/
  restart : RestartWait
  deriving DecidableEq, Repr

/-- The start logic and its input lines (R193, R194). -/
structure StartUnit where
  /-- the part is stopped and takes no event (R193) -/
  stopped : Bool
  /-- SUPPLY line: supply present -/
  supply : Bool
  /-- RESET line: asserted (driven low) -/
  reset : Bool
  /-- CLEAR line as it stood when it was last given: held -/
  clear : Bool
  /-- a supply fall since the last start (R194) -/
  supplyFallen : Bool
  /-- LINK lines as they stand: true is open (R155, R169) -/
  link : PerHouse Bool
  deriving DecidableEq, Repr

/-- The state of the part. -/
structure State where
  /-- the time base, tenths of a millisecond (section 4.4) -/
  now : Nat
  /-- commands waiting, first in, first out -/
  pending : List Instr
  loop : LoopUnit
  matcher : Matcher
  drive : DriveTable
  monitors : PerHead Monitor
  lamps : PerHead Lamp
  programme : Programme
  slots : PerHead Slot
  engines : PerHouse Engine
  lights : PerHouse LightUnit
  fire : FireUnit
  panel : Panel
  notices : NoticeUnit
  orders : OrderUnit
  starter : StartUnit
  /-- stored check sum of the retained store (R192) -/
  checkSum : Word
  /-- the model's own: how many free values have been used (log entry 9) -/
  freeCount : Nat
  deriving DecidableEq, Repr

/-- A command never stops the model with a fault: the manual gives every event of the part an effect (log entry 30). -/
inductive Fault where
  deriving DecidableEq, Repr

/-- Reasons to refuse a command. -/
inductive Refusal where
  /-- Raised by `exec` for a command that has no meaning yet; safe. -/
  | notModelled (mnemonic : String)
  deriving DecidableEq, Repr

/-! ### Values of a cold start -/

/-- A reaction entry at a cold start (R25). -/
def ReactEntry.cold : ReactEntry :=
  { inUse := false, source := 0, kind := 0, selValue := 0, selMask := 0, action := .pass, consume := false, protect := false,
    lockMark := false }

/-- Match counts and malformed counter after every start (R34), with the table and write lock of a cold start (R25, R36). -/
def Matcher.cold : Matcher :=
  { table := Table.replicate 32 ReactEntry.cold, writeLock := false, counts := Table.replicate 32 0, malformed := 0 }

/-- All loop counters at 0 (R24). -/
def LoopCounters.zero : LoopCounters :=
  { brk := 0, length := 0, check := 0, overrun := 0, lost := 0, clash := 0, answerDrop := 0 }

/-- The loop unit at the end of a start at `ms` (R24, R195) with the settings of a cold start (R24, R192); LOOP OUT is free (log entry
33). -/
def LoopUnit.cold (ms : Nat) : LoopUnit :=
  { state := .search, rate := .r19200, dwell := some (ms + Config.dwellMs), guard := none, latch := false, leaveAwaiting := false,
    bypass := true, rx := .seeking, repeats := [], transit := [], losses := 0, fifo := [], out := .free,
    counters := LoopCounters.zero, guardTime := 1500, returnLimit := 500, console := Config.consoleAddress }

/-- The drive entries in index order (R38). -/
def driveIds : List DriveId :=
  [.motor .h1, .douser .h1, .lamp .h1, .feed .h1, .motor .h2, .douser .h2, .lamp .h2, .feed .h2,
   .motor .h3, .douser .h3, .lamp .h3, .feed .h3, .motor .h4, .douser .h4, .lamp .h4, .feed .h4,
   .sound .one, .dim .one, .sound .two, .dim .two]

/-- The function code an entry has as delivered (R43). -/
def deliveredFn : DriveId → Byte
  | .motor _ => 0x01
  | .douser _ => 0x02
  | .lamp _ => 0x03
  | .feed _ => 0x04
  | .sound _ => 0x05
  | .dim _ => 0x06

/-- An entry's safe value, the DIM triple of each house given (R44). -/
def safeValue (dims : PerHouse Triple) : DriveId → DriveVal
  | .motor _ => .motor false
  | .douser _ => .douser false
  | .lamp _ => .lamp false
  | .feed _ => .feed 0
  | .sound _ => .sound none
  | .dim k => .dim (dims.get k)

/-- The class a written value carries (R39). -/
def DriveVal.cls : DriveVal → DriveClass
  | .motor false => .safety
  | .motor true => .change
  | .douser false => .safety
  | .douser true => .change
  | .lamp false => .safety
  | .lamp true => .change
  | .feed _ => .feed
  | .sound _ => .change
  | .dim _ => .lights

/-- A drive entry at a start: its safe value, dirty under that value's class, nothing sent (R44). -/
def DriveEntry.safe (dims : PerHouse Triple) (ms : Nat) (d : DriveId) (station fn : Byte) : DriveEntry :=
  let v := safeValue dims d
  { station, fn, value := v, dirty := some { cls := v.cls, since := ms }, lastValue := none, lastTime := none }

/-- The drive table at the end of a cold start: unmapped, delivered function codes, safe values (R43, R44). -/
def DriveTable.cold (dims : PerHouse Triple) (ms : Nat) : DriveTable :=
  { entries := ⟨driveIds.map fun d => DriveEntry.safe dims ms d 0 (deliveredFn d), by rw [List.length_map]; rfl⟩,
    refreshPeriod := 2000 }

/-- A head monitor at a cold start (R63). -/
def Monitor.cold : Monitor :=
  { motion := .stopped, streak := 0, counter := 0, lastPulse := none, interval := none, slowTimer := none, stopTimer := none,
    idleTimer := none, overspeed := 0, hold := false, inService := true, fps := 24, stopLimit := 400, idleLimit := 120 }

/-- The lamp record as delivered (R65). -/
def LampRecord.delivered : LampRecord :=
  { target := 560, base := 96, kp := 32, ki := 64, fmax := 240, imin := 40, trimLength := 9000, lowMargin := 120, strikeLimit := 5 }

/-- A lamp regulator at a cold start (R64, R89). -/
def Lamp.cold : Lamp :=
  { record := LampRecord.delivered, state := .dark, acc := 0, rate := 0, rod := 9000, rem := 0, accounted := none, sample := none,
    stale := false, strikeTimer := none, staleTimer := none, carbonLow := false, contactor := false }

/-- The empty reel record (R91). -/
def Reel.vacant : Reel :=
  { side := .a, last := 0, motorCue := 0, changeCue := 0, window := 0, intervalAfter := false, showEnd := false, light := none }

/-- The programme store at a cold start (R102). -/
def Programme.cold : Programme := { reels := Table.replicate 64 Reel.vacant, split := 32 }

/-- A head's slot after every start (R133). -/
def Slot.vacant : Slot := { role := .empty, held := none }

/-- A changeover engine after a cold start, its house's region beginning at `first` (R133). -/
def Engine.cold (first : Nat) : Engine :=
  { state := .idle, cur := first, highest := (first : Int) - 1, strikeDone := false, motorTaken := false, changeTaken := false,
    changePending := false, dark := false, runup := none, faultClaim := false, stray := 0, runupLimit := 10, strikeLead := 40,
    runout := 192 }

/-- Entry `i` of the default curve (R135). -/
def defaultTriple (i : Nat) : Triple := ⟨i * 255 / 63, i * 255 / 63, i * 255 / 63⟩

/-- A light unit after a cold start (R151). -/
def LightUnit.cold : LightUnit :=
  { curve := Table.ofIndex 64 defaultTriple, pointer := 0, holder := [],
    requests := { fire := none, fault := none, operator := none, shown := { position := 255, fade := 0 } },
    position := 255, fade := none, lastTriple := ⟨255, 255, 255⟩, idlePos := 255, faultPos := 128, intervalPos := 160,
    endPos := 255, fastFade := 20 }

/-- A house's part of the fire unit at the end of a start that found it out of FIRE, its link line closed (R169). -/
def FireHouse.clear : FireHouse :=
  { state := .clear, latch := false, detectors := [], linkOpen := false, port := true, gate := true }

/-- The panel decoder at a cold start (R170). -/
def Panel.cold : Panel := { last := ⟨0, 0, 0, 0⟩, present := false, guard := none, guardTime := 2000 }

/-- A cause record after every start (R181). -/
def CauseRecord.vacant : CauseRecord := { cause := .none, code := none, count := 0 }

/-- The machine right after reset: the end of a cold start of a part as delivered, both LINK lines closed, SUPPLY present and
RESET released (R195; log entry 4). The start's last step has raised RESTARTED with code COLD: the bit is pending, the ALERT line
is asserted and the NOTICE waits. -/
def State.reset : State :=
  { now := 0, pending := [],
    loop :=
      { LoopUnit.cold 0 with
        fifo := [.notice { pending := 0x8000, event := .restarted, cause := .none, code := some .cold, count := 1 }] },
    matcher := Matcher.cold,
    drive := DriveTable.cold (PerHouse.all ⟨255, 255, 255⟩) 0,
    monitors := PerHead.all Monitor.cold,
    lamps := PerHead.all Lamp.cold,
    programme := Programme.cold,
    slots := PerHead.all Slot.vacant,
    engines := ⟨Engine.cold 0, Engine.cold 32⟩,
    lights := PerHouse.all LightUnit.cold,
    fire := { house := PerHouse.all FireHouse.clear, holdTime := 10, confirmWindow := 30 },
    panel := Panel.cold,
    notices :=
      { pending := 0x8000, mask := 0,
        causes := ⟨List.replicate 15 CauseRecord.vacant ++ [{ cause := .none, code := some .cold, count := 1 }], rfl⟩,
        alert := true, quietTimer := none, quietTime := 1000 },
    orders := { own := Config.ownAddress, addressLock := false, restart := .clear },
    starter := { stopped := false, supply := true, reset := false, clear := false, supplyFallen := false, link := ⟨false, false⟩ },
    checkSum := 56542,
    freeCount := 0 }

end Sys2Proof.Machine
end

