-- ==== Sys2Proof/Machine/Operands.lean ====
section
/-! DEFINITION. The operands of orders: numbers of heads, houses and zones, indexes, tuning values, and the results an
order is answered with. -/

namespace Sys2Proof.Machine

/-- The results of an answer (R183). -/
inductive Result where
  | done | clamped | badOrder | badIndex | badValue | badState | inUse | locked | wrongHead | noReel
  deriving DecidableEq, Repr

/-- The code of a result (R183). -/
def Result.code : Result → Byte
  | .done => 0
  | .clamped => 1
  | .badOrder => 2
  | .badIndex => 3
  | .badValue => 4
  | .badState => 5
  | .inUse => 6
  | .locked => 7
  | .wrongHead => 8
  | .noReel => 9

/-- What an order is answered: its result and its data (R182, R183). -/
structure Reply where
  result : Result
  data : List Byte
  deriving DecidableEq, Repr

/-- An answer without data. -/
def Reply.plain (r : Result) : Reply := { result := r, data := [] }

/-- A head number, 1 to 4 (section 4.1). -/
def headOf (b : Byte) : Option Head :=
  match b.toNat with
  | 1 => some .h1
  | 2 => some .h2
  | 3 => some .h3
  | 4 => some .h4
  | _ => none

/-- A house number, 1 or 2. -/
def houseOf (b : Byte) : Option House :=
  match b.toNat with
  | 1 => some .one
  | 2 => some .two
  | _ => none

/-- A zone number, 1 to 3. -/
def zoneOf (b : Byte) : Option Zone :=
  match b.toNat with
  | 1 => some .z1
  | 2 => some .z2
  | 3 => some .z3
  | _ => none

/-- A yes-or-no value, 0 or 1. -/
def flagOf (v : Nat) : Option Bool :=
  match v with
  | 0 => some false
  | 1 => some true
  | _ => none

/-- A detector condition, 0 to 3 (R32). -/
def conditionOf (b : Byte) : Option Condition :=
  match b.toNat with
  | 0 => some .normal
  | 1 => some .pre
  | 2 => some .fire
  | 3 => some .fault
  | _ => none

/-- The action and target bytes of WRITE REACT (R35, section 10.7): none when the action is not one of the six or the target is
not valid for it. -/
def actionOf (action target : Byte) : Option Action :=
  match action.toNat with
  | 0 => if target = 0 then some .pass else none
  | 1 => if target = 0 then some .drop else none
  | 2 => (headOf target).map .cue
  | 3 => (headOf target).map .lamp
  | 4 => (zoneOf target).map .sense
  | 5 => if target = 0 then some .panel else none
  | _ => none

/-- A value clamped to a range (section 4.8). -/
def clamp (lo hi v : Nat) : Nat := max lo (min hi v)

/-- A whole number clamped to a range (section 4.8). -/
def clampInt (lo hi v : Int) : Int := max lo (min hi v)

/-- The high and low byte of a number, the number taken modulo 65536 (section 4.8). -/
def be16 (n : Nat) : List Byte := [BitVec.ofNat 8 (n / 256), BitVec.ofNat 8 n]

/-- A count as two bytes, the field's greatest value when it is too large (R191). -/
def count16 (n : Nat) : List Byte := be16 (min n 65535)

/-- A count as one byte, the field's greatest value when it is too large (R191). -/
def count8 (n : Nat) : Byte := BitVec.ofNat 8 (min n 255)

/-- A tuning value clamped into its range, with the answer R185 gives: CLAMPED with the value stored, or DONE. -/
def tuned (lo hi v : Nat) : Nat × Reply :=
  if lo ≤ v ∧ v ≤ hi then (v, Reply.plain .done)
  else (clamp lo hi v, { result := .clamped, data := be16 (clamp lo hi v) })

/-- The index of a drive entry (R38). -/
def driveIndex : DriveId → Fin 20
  | .motor .h1 => 0
  | .douser .h1 => 1
  | .lamp .h1 => 2
  | .feed .h1 => 3
  | .motor .h2 => 4
  | .douser .h2 => 5
  | .lamp .h2 => 6
  | .feed .h2 => 7
  | .motor .h3 => 8
  | .douser .h3 => 9
  | .lamp .h3 => 10
  | .feed .h3 => 11
  | .motor .h4 => 12
  | .douser .h4 => 13
  | .lamp .h4 => 14
  | .feed .h4 => 15
  | .sound .one => 16
  | .dim .one => 17
  | .sound .two => 18
  | .dim .two => 19

/-- The drive entry at an index, 0 to 19 (R38). -/
def driveAt (i : Nat) : Option DriveId := driveIds[i]?

/-- The number of an event: its bit in the pending set and the mask (R174). -/
def Event.num : Event → Fin 16
  | .fire1 => 0
  | .fire2 => 1
  | .alert => 2
  | .shutter => 3
  | .pictureLost => 4
  | .lateIncoming => 5
  | .runupFail => 6
  | .cueMissed => 7
  | .carbonLow => 8
  | .carbonEnd => 9
  | .arcFail => 10
  | .showDone => 11
  | .notThreaded => 12
  | .loop => 13
  | .panelLost => 14
  | .restarted => 15

/-- An event's code list (R174). -/
def Event.codes : Event → List Code
  | .fire1 => [.link, .report, .confirm, .drop, .start]
  | .fire2 => [.link, .report, .confirm, .drop, .start]
  | .alert => [.pre, .fault]
  | .shutter => []
  | .pictureLost => [.slow, .lamp, .dark]
  | .lateIncoming => [.change]
  | .runupFail => [.start, .incoming, .resume]
  | .cueMissed => [.motor, .change]
  | .carbonLow => [.thread, .show]
  | .carbonEnd => [.switch, .rod]
  | .arcFail => [.strike, .out]
  | .showDone => [.interval, .ended]
  | .notThreaded => [.strike, .motor]
  | .loop => [.guard, .loss, .clash]
  | .panelLost => [.guard]
  | .restarted => [.cold, .warm, .order, .supply]

/-- A notice code as sent: its place in the event's code list counting from 1, and 0 for no code (R191). -/
def codeByte (e : Event) : Option Code → Byte
  | none => 0
  | some c => BitVec.ofNat 8 (e.codes.idxOf c + 1)

/-- A cause as sent: its kind and its number (R191). -/
def causeBytes : Cause → List Byte
  | .none => [0, 0]
  | .head h => [1, BitVec.ofNat 8 h.num]
  | .house k => [2, BitVec.ofNat 8 k.num]
  | .zone z => [3, BitVec.ofNat 8 z.num]

/-- The payload of a NOTICE (R191). -/
def NoticeContents.payload (c : NoticeContents) : List Byte :=
  [hiByte c.pending, loByte c.pending, BitVec.ofNat 8 c.event.num] ++ causeBytes c.cause ++ [codeByte c.event c.code, count8 c.count]

/-- The value bytes of a commanded value, after the function code of a DRIVE (R39). -/
def DriveVal.bytes : DriveVal → List Byte
  | .motor r => [if r then 1 else 0]
  | .douser o => [if o then 1 else 0]
  | .lamp s => [if s then 1 else 0]
  | .feed n => be16 n
  | .sound none => [0]
  | .sound (some h) => [BitVec.ofNat 8 h.num]
  | .dim t => [BitVec.ofNat 8 t.ceiling, BitVec.ofNat 8 t.wall, BitVec.ofNat 8 t.aisle]

/-- A flag as sent (R191). -/
def flagByte (b : Bool) : Byte := if b then 1 else 0

end Sys2Proof.Machine
end

