-- ==== Sys2Proof/Machine/Ops.lean ====
section
/-! DEFINITION. The shared operations over the state: the time base, access to the blocks, counters, the drive table's write, the
notice unit's raise and the answer/notice FIFO. -/

namespace Sys2Proof.Machine

/-! ### Time base (section 4.4) -/

/-- The present moment in whole milliseconds. -/
def State.ms (s : State) : Nat := s.now / 10

/-- Time passes before a command is taken (log entry 1). -/
def State.elapse (s : State) (dt : Nat) : State := { s with now := s.now + dt }

/-- Whether a timer is running and its deadline has come (log entry 2). -/
def due (timer : Option Nat) (moment : Nat) : Bool :=
  match timer with
  | some d => decide (d ≤ moment)
  | none => false

/-- Whole seconds left on a deadline in ms (R62, R88, R132, R168). -/
def secondsLeft (deadline ms : Nat) : Nat := (deadline - ms) / 1000

/-! ### Access to the blocks -/

/-- A head's monitor. -/
def State.mon (s : State) (h : Head) : Monitor := s.monitors.get h
/-- A head's lamp regulator. -/
def State.lamp (s : State) (h : Head) : Lamp := s.lamps.get h
/-- A head's slot in its house's engine. -/
def State.slot (s : State) (h : Head) : Slot := s.slots.get h
/-- A head's role (R104). -/
def State.role (s : State) (h : Head) : Role := (s.slot h).role
/-- A house's changeover engine. -/
def State.eng (s : State) (k : House) : Engine := s.engines.get k
/-- A house's light unit. -/
def State.light (s : State) (k : House) : LightUnit := s.lights.get k
/-- A house's part of the fire unit. -/
def State.fireOf (s : State) (k : House) : FireHouse := s.fire.house.get k
/-- A drive entry. -/
def State.entry (s : State) (d : DriveId) : DriveEntry := s.drive.entries.get (driveIndex d)

/-- Replace a head's monitor. -/
def State.setMon (s : State) (h : Head) (m : Monitor) : State := { s with monitors := s.monitors.set h m }
/-- Replace a head's lamp regulator. -/
def State.setLamp (s : State) (h : Head) (l : Lamp) : State := { s with lamps := s.lamps.set h l }
/-- Replace a head's slot. -/
def State.setSlot (s : State) (h : Head) (x : Slot) : State := { s with slots := s.slots.set h x }
/-- Replace a house's engine. -/
def State.setEng (s : State) (k : House) (e : Engine) : State := { s with engines := s.engines.set k e }
/-- Replace a house's light unit. -/
def State.setLight (s : State) (k : House) (l : LightUnit) : State := { s with lights := s.lights.set k l }
/-- Replace a house's part of the fire unit. -/
def State.setFire (s : State) (k : House) (f : FireHouse) : State :=
  { s with fire := { s.fire with house := s.fire.house.set k f } }
/-- Replace the loop unit. -/
def State.setLoop (s : State) (l : LoopUnit) : State := { s with loop := l }
/-- Replace the notice unit. -/
def State.setNotices (s : State) (n : NoticeUnit) : State := { s with notices := n }
/-- Replace a drive entry. -/
def State.setEntry (s : State) (d : DriveId) (e : DriveEntry) : State :=
  { s with drive := { s.drive with entries := s.drive.entries.set (driveIndex d) e } }
/-- Replace the restart wait. -/
def State.setRestart (s : State) (r : RestartWait) : State := { s with orders := { s.orders with restart := r } }

/-! ### Counters (section 4.9) -/

/-- A diagnostic counter advanced; it stays at its greatest value. -/
def bump (n : Nat) : Nat := min (n + 1) Config.maxCounter

/-- Advance loop counters; in SEARCH none advances (R24). -/
def State.countLoop (s : State) (f : LoopCounters → LoopCounters) : State :=
  if s.loop.state = .search then s else s.setLoop { s.loop with counters := f s.loop.counters }

/-! ### The drive table's write (R40) -/

/-- Dirty, under the value's class: the entry keeps its dirtied time when it was dirty, and takes the present one otherwise. -/
def DriveEntry.mark (e : DriveEntry) (cls : DriveClass) (ms : Nat) : Option Dirty :=
  match e.dirty with
  | some w => some { w with cls := cls }
  | none => some { cls := cls, since := ms }

/-- The entry after a block has written a value (R40). -/
def DriveEntry.written (e : DriveEntry) (v : DriveVal) (ms : Nat) : DriveEntry :=
  { e with
    value := v
    dirty := if e.dirty = none ∧ e.lastValue = some v then none else e.mark v.cls ms }

/-- A block writes a drive entry (R40). -/
def State.writeDrive (s : State) (d : DriveId) (v : DriveVal) : State := s.setEntry d ((s.entry d).written v s.ms)

/-! ### The answer/notice FIFO (R21) -/

/-- Whether a waiting telegram is an ANSWER. -/
def Waiting.isAnswer : Waiting → Bool
  | .answer _ _ _ => true
  | .notice _ => false

/-- Whether a waiting telegram is a NOTICE. -/
def Waiting.isNotice (w : Waiting) : Bool := !w.isAnswer

/-- Whether a waiting telegram is the ANSWER the restart wait names (R190). -/
def Waiting.isNamed : Waiting → Bool
  | .answer _ _ n => n
  | .notice _ => false

/-- The restart wait ends and requests the start (R190). -/
def State.requestStart (s : State) : State :=
  if s.orders.restart = .waiting then s.setRestart .requested else s

/-- Room for one more telegram: when 4 are held the oldest ANSWER is dropped and counted, and the drop of the ANSWER named by the
restart wait requests the start (R21, R190). -/
def State.makeRoom (s : State) : State :=
  if s.loop.fifo.length < 4 then s
  else
    let s1 := (s.setLoop { s.loop with fifo := s.loop.fifo.eraseP Waiting.isAnswer }).countLoop
      fun c => { c with answerDrop := bump c.answerDrop }
    if (s.loop.fifo.find? Waiting.isAnswer).any Waiting.isNamed then s1.requestStart else s1

/-- A telegram joins the tail of the FIFO (R21). -/
def State.enqueue (s : State) (w : Waiting) : State :=
  let s1 := s.makeRoom
  s1.setLoop { s1.loop with fifo := s1.loop.fifo ++ [w] }

/-- A NOTICE is queued: a waiting one takes the new contents in place, otherwise a new one joins the tail (R21, R176). -/
def State.queueNotice (s : State) (c : NoticeContents) : State :=
  if s.loop.fifo.any Waiting.isNotice then
    s.setLoop { s.loop with fifo := s.loop.fifo.map fun w => if w.isNotice then .notice c else w }
  else s.enqueue (.notice c)

/-! ### The notice unit (R174 to R180) -/

/-- The pending set or mask with one event's bit alone. -/
def Event.bit (e : Event) : Word := BitVec.ofNat 16 (2 ^ e.num.val)

/-- Whether an event is pending. -/
def NoticeUnit.isPending (n : NoticeUnit) (e : Event) : Bool := n.pending.getLsbD e.num

/-- Whether an event is masked. -/
def NoticeUnit.isMasked (n : NoticeUnit) (e : Event) : Bool := n.mask.getLsbD e.num

/-- The condition under which the ALERT line is asserted (R179). -/
def NoticeUnit.alertCondition (n : NoticeUnit) : Bool := (n.pending &&& ~~~n.mask != 0) && n.quietTimer.isNone

/-- The ALERT line re-judged (R179). -/
def NoticeUnit.rejudge (n : NoticeUnit) : NoticeUnit := { n with alert := n.alertCondition }

/-- The notice unit after a raise (R175): the cause record, the bit and the line. -/
def NoticeUnit.raised (n : NoticeUnit) (e : Event) (cause : Cause) (code : Option Code) : NoticeUnit :=
  let r := n.causes.get e.num
  NoticeUnit.rejudge
    { n with
      causes := n.causes.set e.num { cause := cause, code := code, count := min (r.count + 1) 255 }
      pending := n.pending ||| e.bit }

/-- A raise (R175, R176): when the event is unmasked and was not pending, a NOTICE is queued or updated with the pending set
after the raise. -/
def State.raise (s : State) (e : Event) (cause : Cause) (code : Option Code) : State :=
  let n := s.notices.raised e cause code
  let s1 := s.setNotices n
  if s.notices.isPending e || s.notices.isMasked e then s1
  else
    s1.queueNotice
      { pending := n.pending, event := e, cause := cause, code := code, count := (n.causes.get e.num).count }

/-- The events an acknowledgement can clear: bits 2 to 15 (R178). -/
def ackable : Word := 0xFFFC

/-- An acknowledgement of the named events (R178). -/
def State.acknowledge (s : State) (marks : Word) : State :=
  s.setNotices (NoticeUnit.rejudge { s.notices with pending := s.notices.pending &&& ~~~(marks &&& ackable) })

/-- The end of the alert (R180). -/
def State.endOfAlert (s : State) : State :=
  s.setNotices { s.notices with alert := false, quietTimer := some (s.ms + s.notices.quietTime) }

/-- The fire unit clears a house's FIRE bit (R177). -/
def State.clearBit (s : State) (e : Event) : State :=
  s.setNotices (NoticeUnit.rejudge { s.notices with pending := s.notices.pending &&& ~~~e.bit })

/-- The FIRE event of a house (R177). -/
def fireEvent : House → Event
  | .one => .fire1
  | .two => .fire2

end Sys2Proof.Machine
end

