-- ==== Sys2Proof/Machine/Lights.lean ====
section
/-! DEFINITION. The light units (Chapter 7): the curve and its lookup, light requests, fades, and the light orders. -/

namespace Sys2Proof.Machine

/-! ### The curve and the lookup (R135 to R137) -/

/-- An index into the curve, a greater number taken as 63. -/
def curveIndex (i : Nat) : Fin 64 := ⟨min i 63, by omega⟩

/-- One channel between two entries, `r` quarters of the way up (R136). -/
def interpolate (lower upper r : Nat) : Nat := ((lower : Int) + (((upper : Int) - lower) * r).tdiv 4).toNat

/-- The triple a light position looks up (R136). -/
def LightUnit.lookup (l : LightUnit) (p : Nat) : Triple :=
  let lo := l.curve.get (curveIndex (p / 4))
  let hi := l.curve.get (curveIndex (p / 4 + 1))
  let r := p % 4
  ⟨interpolate lo.ceiling hi.ceiling r, interpolate lo.wall hi.wall r, interpolate lo.aisle hi.aisle r⟩

/-- A lookup of the present position: the DIM entry is written when the triple differs from the last one written (R137). -/
def State.lookupLight (s : State) (k : House) : State :=
  let l := s.light k
  let t := l.lookup l.position
  if t = l.lastTriple then s else (s.setLight k { l with lastTriple := t }).writeDrive (.dim k) (.dim t)

/-! ### Requests and fades (R142, R147, R148) -/

/-- The effective request: the one of highest rank present (R142). -/
def Requests.effective (r : Requests) : LightSource × LightReq :=
  match r.fire with
  | some q => (.fire, q)
  | none =>
    match r.fault with
    | some q => (.fault, q)
    | none =>
      match r.operator with
      | some q => (.operator, q)
      | none => (.shown, r.shown)

/-- A request placed (R142). -/
def Requests.place (r : Requests) (src : LightSource) (q : LightReq) : Requests :=
  match src with
  | .fire => { r with fire := some q }
  | .fault => { r with fault := some q }
  | .operator => { r with operator := some q }
  | .shown => { r with shown := q }

/-- A request withdrawn; SHOW is never withdrawn (R142). -/
def Requests.withdraw (r : Requests) (src : LightSource) : Requests :=
  match src with
  | .fire => { r with fire := none }
  | .fault => { r with fault := none }
  | .operator => { r with operator := none }
  | .shown => r

/-- Whether the effective request has changed: by source or by target position (R147). -/
def Requests.changed (before after : Requests) : Bool :=
  let b := before.effective
  let a := after.effective
  decide (b.1 ≠ a.1 ∨ b.2.position ≠ a.2.position)

/-- The light unit takes a new request list and judges the change of the effective request (R147). -/
def State.setRequests (s : State) (k : House) (r : Requests) : State :=
  let l := s.light k
  let q := r.effective.2
  if !l.requests.changed r then s.setLight k { l with requests := r }
  else if q.position = l.position then s.setLight k { l with requests := r, fade := none }
  else if q.fade = 0 then (s.setLight k { l with requests := r, position := q.position, fade := none }).lookupLight k
  else
    s.setLight k
      { l with
        requests := r
        fade := some { p0 := l.position, target := q.position, n := q.fade, k := 0, began := s.ms } }

/-- A light request placed (R142, R147). -/
def State.placeLight (s : State) (k : House) (src : LightSource) (q : LightReq) : State :=
  s.setRequests k ((s.light k).requests.place src q)

/-- A light request withdrawn (R142, R147). -/
def State.withdrawLight (s : State) (k : House) (src : LightSource) : State :=
  s.setRequests k ((s.light k).requests.withdraw src)

/-- The light position at step `k` of a fade (R148). -/
def Fade.at (f : Fade) (k : Nat) : Nat := ((f.p0 : Int) + (((f.target : Int) - f.p0) * k).tdiv f.n).toNat

/-- A running fade takes its next step when its moment has come (R148). -/
def State.fadeStep (s : State) (k : House) : State :=
  let l := s.light k
  match l.fade with
  | none => s
  | some f =>
    if f.began + (f.k + 1) * 100 ≤ s.ms then
      let next := if f.k + 1 = f.n then none else some { f with k := f.k + 1 }
      (s.setLight k { l with position := f.at (f.k + 1), fade := next }).lookupLight k
    else s

/-! ### Loading the curve (R138 to R141) -/

/-- The partial triple discarded (R141). -/
def State.discardPartial (s : State) (k : House) : State := s.setLight k { s.light k with holder := [] }

/-- Whether the present position uses a curve entry (R140). -/
def LightUnit.uses (l : LightUnit) (i : Fin 64) : Bool :=
  decide (i = curveIndex (l.position / 4) ∨ i = curveIndex (l.position / 4 + 1))

/-- A commit: the entry at the pointer is replaced, the holder emptied and the pointer advanced; at rest the unit makes a lookup
when the position uses the entry (R139, R140). -/
def State.commitTriple (s : State) (k : House) (t : Triple) : State :=
  let l := s.light k
  let s1 := s.setLight k { l with curve := l.curve.set l.pointer t, holder := [], pointer := l.pointer + 1 }
  if l.fade.isNone && l.uses l.pointer then s1.lookupLight k else s1

/-- One curve byte taken (R139). -/
def State.curveByte (s : State) (k : House) (b : Byte) : State :=
  let l := s.light k
  match l.holder with
  | c :: w :: _ => s.commitTriple k ⟨c.toNat, w.toNat, b.toNat⟩
  | held => s.setLight k { l with holder := held ++ [b] }

/-- CURVE DATA judged (R139): the bytes taken in order, answered with the pointer and the number of bytes held, one byte each (log entry
38). -/
def judgeCurveData (k : House) (bytes : List Byte) (s : State) : State × Reply :=
  if 1 ≤ bytes.length ∧ bytes.length ≤ 11 then
    let s1 := bytes.foldl (fun t b => t.curveByte k b) s
    (s1, { result := .done, data := [BitVec.ofNat 8 (s1.light k).pointer, BitVec.ofNat 8 (s1.light k).holder.length] })
  else (s, Reply.plain .badOrder)

/-- CURVE POINT judged (R138). -/
def judgeCurvePoint (house entry : Byte) (s : State) : State × Reply :=
  match houseOf house, toIndex 64 entry.toNat with
  | some k, some i => (s.setLight k { s.light k with pointer := i, holder := [] }, Reply.plain .done)
  | _, _ => (s, Reply.plain .badIndex)

/-! ### The light functions (R143) -/

/-- LIGHTS UP (R143). -/
def State.lightsUp (s : State) (k : House) : State :=
  s.placeLight k .operator { position := 255, fade := (s.light k).fastFade }

/-- LIGHTS DOWN (R143). -/
def State.lightsDown (s : State) (k : House) : State :=
  s.placeLight k .operator { position := 0, fade := (s.light k).fastFade }

/-- LIGHTS AUTO (R143). -/
def State.lightsAuto (s : State) (k : House) : State := s.withdrawLight k .operator

end Sys2Proof.Machine
end

