-- ==== Sys2Proof/Machine/Flags.lean ====
section
/-! DEFINITION. The conditions the blocks judge: readiness, the shutter hold line, the idle condition, the programme's structure
and the records in use, and the values drawn from a nominal rate. -/

namespace Sys2Proof.Machine

/-! ### Limits drawn from the nominal rate (R46), tenths of a millisecond -/

/-- The nominal interval Tn (R46). -/
def nominalInterval (fps : Nat) : Nat := 10000 / fps

/-- Whether an interval lies in the band, both ends included (R46). -/
def inBand (fps iv : Nat) : Bool :=
  let t := nominalInterval fps
  decide (t - t / 20 ≤ iv ∧ iv ≤ t + t / 20)

/-- Whether an interval lies above the band (R46). -/
def aboveBand (fps iv : Nat) : Bool := decide (nominalInterval fps + nominalInterval fps / 20 < iv)

/-- The slow limit (R46). -/
def slowLimit (fps : Nat) : Nat := nominalInterval fps + nominalInterval fps / 4

/-- The speed read back, tenths of a frame per second; 0 without an interval (R62). -/
def speedOf : Option Nat → Nat
  | some iv => 100000 / iv
  | none => 0

/-! ### Conditions of heads and houses -/

/-- A head is ready: its monitor is LOCKED and its lamp BURNING (R104). -/
def State.ready (s : State) (h : Head) : Bool := decide ((s.mon h).motion = .locked ∧ (s.lamp h).state = .burning)

/-- The condition under which a head's hold line is energized (R56). -/
def State.holdCondition (s : State) (h : Head) : Bool :=
  decide ((s.mon h).motion = .locked) && (s.mon h).inService && (s.fireOf h.house).gate

/-- The idle condition (R60). -/
def State.idleCondition (s : State) (h : Head) : Bool :=
  decide ((s.lamp h).state = .burning ∧ (s.mon h).motion = .stopped ∧ s.role h ≠ .showing)

/-- A house in FIRE (R153). -/
def State.inFire (s : State) (k : House) : Bool := decide ((s.fireOf k).state = .fire)

/-! ### The programme (R90, R95, R97, R99) -/

/-- A record at an index given as a number; the empty record beyond the store's ends. -/
def Programme.record (p : Programme) (i : Nat) : Reel := (p.reels.get? i).getD Reel.vacant

/-- The first index of a house (R90). -/
def Programme.first (p : Programme) : House → Nat
  | .one => 0
  | .two => p.split

/-- Whether an index lies in a house's region (R90). -/
def Programme.inRegion (p : Programme) (k : House) (i : Nat) : Bool :=
  match k with
  | .one => decide (i < p.split)
  | .two => decide (p.split ≤ i ∧ i < 64)

/-- The house that owns an index (R90). -/
def Programme.owner (p : Programme) (i : Nat) : House := if i < p.split then .one else .two

/-- Whether a record lies in its house's programme: every record from the first index of the region through it is non-empty
(R90). -/
def Programme.inProgramme (p : Programme) (i : Nat) : Bool :=
  let first := p.first (p.owner i)
  (List.range (i + 1 - first)).all fun j => (p.record (first + j)).last != 0

/-- A changeover reel: neither flag set (R93). -/
def Reel.isChangeover (r : Reel) : Bool := !r.intervalAfter && !r.showEnd

/-- Whether a house's state closes the records it has assigned (R97). -/
def HouseState.closesRecords : HouseState → Bool
  | .armed => true
  | .running => true
  | .interval => true
  | .halted => true
  | .idle => false
  | .ended => false

/-- Whether a record is in use (R97). -/
def State.recordInUse (s : State) (i : Nat) : Bool :=
  let k := s.programme.owner i
  (s.eng k).state.closesRecords && decide (s.programme.first k ≤ i ∧ (i : Int) ≤ (s.eng k).highest)

/-- The record at a house's current index. -/
def State.curReel (s : State) (k : House) : Reel := s.programme.record (s.eng k).cur

/-- The outgoing head: the one whose side is the side of record cur (R104). -/
def State.outgoing (s : State) (k : House) : Head := k.head (s.curReel k).side

/-- The incoming head: the partner of the outgoing head (R104). -/
def State.incoming (s : State) (k : House) : Head := (s.outgoing k).partner

/-- The record a head holds; the empty record when it holds none. -/
def State.heldReel (s : State) (h : Head) : Reel :=
  match (s.slot h).held with
  | some i => s.programme.record i
  | none => Reel.vacant

/-- The length L that a lookup of the record on a head answers; none when the index lies outside the house's region or holds an empty
record, and for a head without a record (R99; log entry 31). -/
def State.heldLength (s : State) (h : Head) : Option Nat :=
  match (s.slot h).held with
  | some i => if s.programme.inRegion h.house i && (s.programme.record i).last != 0 then some (s.programme.record i).last else none
  | none => none

/-- Whether a head of the house is SHOWING. -/
def State.anyShowing (s : State) (k : House) : Bool := k.heads.any fun h => s.role h == .showing

/-- The SHOWING head of a house, if there is one. -/
def State.showingHead (s : State) (k : House) : Option Head := k.heads.find? fun h => s.role h == .showing

/-- The head of a house that holds a record, if there is one. -/
def State.headHolding (s : State) (k : House) (i : Nat) : Option Head := k.heads.find? fun h => (s.slot h).held == some i

/-! ### Carbon sufficiency (R85) -/

/-- Whether the carbon is short for the frames left (R85). -/
def Lamp.short (l : Lamp) (fps framesLeft : Nat) : Bool :=
  decide (l.rod * 60 / max l.record.base 1 < framesLeft / fps + l.record.lowMargin)

end Sys2Proof.Machine
end

