-- ==== Sys2Proof/Machine/Monitors.lean ====
section
/-! DEFINITION. The parts of a head monitor that other blocks reach: the shutter hold line, the idle timer and the frame counter
(Chapter 3). -/

namespace Sys2Proof.Machine

/-- The hold line re-judged (R56); its release while the head is SHOWING raises SHUTTER (R57). -/
def State.rejudgeHold (s : State) (h : Head) : State :=
  let c := s.holdCondition h
  let s1 := s.setMon h { s.mon h with hold := c }
  if (s.mon h).hold && !c && s.role h == .showing then s1.raise .shutter (.head h) none else s1

/-- The idle condition re-judged: the idle timer starts when it begins and goes idle when it ends (R60). -/
def State.rejudgeIdle (s : State) (h : Head) : State :=
  let m := s.mon h
  if s.idleCondition h then
    match m.idleTimer with
    | some _ => s
    | none => s.setMon h { m with idleTimer := some (s.ms + m.idleLimit * 1000) }
  else s.setMon h { m with idleTimer := none }

/-- The frame counter set to 0 by an accepted THREAD (R49). -/
def State.resetCounter (s : State) (h : Head) : State := s.setMon h { s.mon h with counter := 0 }

/-- A head's role and record changed, and the change reported to its monitor (R104, R60). -/
def State.assign (s : State) (h : Head) (role : Role) (held : Option Nat) : State :=
  (s.setSlot h { role := role, held := held }).rejudgeIdle h

/-- A head's role changed, its record kept (R104). -/
def State.setRole (s : State) (h : Head) (role : Role) : State := s.assign h role (s.slot h).held

end Sys2Proof.Machine
end

