-- ==== Sys2Proof/Machine/Lamps.lean ====
section
/-! DEFINITION. The lamp regulators (Chapter 4): accounting, the feed regulator, strike and shutdown requests. A move made here is
reported to the head's monitor within the operation. The engine reacts only to a move into BURNING and to one from BURNING to FAILED
(R66, R110, R127); those two are reported to it where they are made, in Machine/Samples.lean. -/

namespace Sys2Proof.Machine

/-! ### Consumption (R82, R83) -/

/-- Consumption accounted up to a moment at the rate in force (R82, R83). -/
def Lamp.account (l : Lamp) (ms : Nat) : Lamp :=
  let c := l.rem + l.rate * (ms - l.accounted.getD ms)
  { l with rem := c % 60000, rod := l.rod - c / 60000, accounted := some ms }

/-- Consumption accounted when the lamp is BURNING. -/
def Lamp.accountIfBurning (l : Lamp) (ms : Nat) : Lamp := if l.state = .burning then l.account ms else l

/-! ### The feed regulator (R78 to R81) -/

/-- The error (R79). -/
def regError (r : LampRecord) (v : Nat) : Int := clampInt (-200) 200 ((v : Int) - r.target)

/-- The proportional term (R79). -/
def regP (r : LampRecord) (e : Int) : Int := ((r.kp : Int) * e).tdiv 16

/-- The integral term of an accumulator (R80). -/
def regI (r : LampRecord) (a : Int) : Int := (a * r.ki).tdiv 1024

/-- One run of the regulator: the accumulator after it and the feed rate (R79 to R81). -/
def Lamp.regulate (l : Lamp) (v : Nat) : Int × Nat :=
  let r := l.record
  let e := regError r v
  let p := regP r e
  let trial := clampInt (-32767) 32767 (l.acc + e)
  let u := (r.base : Int) + p + regI r trial
  let hold := decide ((u > r.fmax ∧ e > 0) ∨ (u < 0 ∧ e < 0))
  let a := if hold then l.acc else trial
  let u' := if hold then (r.base : Int) + p + regI r l.acc else u
  (a, (clampInt 0 r.fmax u').toNat)

/-! ### Requests -/

/-- Whether a strike request is ignored (R67). -/
def State.strikeIgnored (s : State) (h : Head) : Bool :=
  !(s.mon h).inService || s.inFire h.house || (s.lamp h).state == .striking || (s.lamp h).state == .burning

/-- A strike request (R67, R68). -/
def State.strikeRequest (s : State) (h : Head) : State :=
  let l := s.lamp h
  if s.strikeIgnored h then s
  else if l.rod = 0 then
    ((s.setLamp h { l with state := .failed }).rejudgeIdle h).raise .carbonEnd (.head h) (some .rod)
  else
    let s1 := s.writeDrive (.lamp h) (.lamp true)
    (s1.setLamp h
      { l with state := .striking, contactor := true, strikeTimer := some (s.ms + l.record.strikeLimit * 1000) }).rejudgeIdle h

/-- A lamp put out: contactor released, rate in force 0, timers idle, flag clear, in the state given. -/
def Lamp.putOut (l : Lamp) (state : LampState) : Lamp :=
  { l with state := state, contactor := false, rate := 0, strikeTimer := none, staleTimer := none, stale := false }

/-- A normal shutdown request (R75). -/
def State.normalShutdown (s : State) (h : Head) : State :=
  let l := s.lamp h
  match l.state with
  | .dark => s
  | .burning =>
    let s1 := s.writeDrive (.douser h) (.douser false)
    let s2 := s1.setLamp h ((l.account s.ms).putOut .dark)
    let s3 := s2.writeDrive (.lamp h) (.lamp false)
    (s3.writeDrive (.feed h) (.feed 0)).rejudgeIdle h
  | .striking =>
    let s1 := s.writeDrive (.douser h) (.douser false)
    let s2 := s1.setLamp h (l.putOut .dark)
    (s2.writeDrive (.lamp h) (.lamp false)).rejudgeIdle h
  | .failed =>
    let s1 := s.writeDrive (.douser h) (.douser false)
    let s2 := s1.writeDrive (.lamp h) (.lamp false)
    let s3 := s2.writeDrive (.feed h) (.feed 0)
    (s3.setLamp h (l.putOut .dark)).rejudgeIdle h

/-- An override shutdown request (R76). -/
def State.overrideShutdown (s : State) (h : Head) : State :=
  let l := s.lamp h
  let s1 := s.setLamp h ((l.accountIfBurning s.ms).putOut .dark)
  let s2 := s1.writeDrive (.lamp h) (.lamp false)
  let s3 := s2.writeDrive (.feed h) (.feed 0)
  (s3.writeDrive (.douser h) (.douser false)).rejudgeIdle h

/-! ### The carbon sufficiency check (R85 to R87) -/

/-- The check made when a THREAD is accepted (R86). -/
def State.carbonCheckThread (s : State) (h : Head) (last : Nat) : State :=
  let l := s.lamp h
  let short := l.short (s.mon h).fps last
  let s1 := s.setLamp h { l with carbonLow := short }
  if short then s1.raise .carbonLow (.head h) (some .thread) else s1

/-- The check made at a sample while the head is SHOWING (R87). -/
def State.carbonCheckShow (s : State) (h : Head) : State :=
  let l := s.lamp h
  if s.role h == .showing && l.short (s.mon h).fps ((s.heldReel h).last - (s.mon h).counter) && !l.carbonLow then
    (s.setLamp h { l with carbonLow := true }).raise .carbonLow (.head h) (some .show)
  else s

/-! ### TRIM (R84) -/

/-- TRIM judged (R84). -/
def judgeTrim (head : Byte) (length : Option Word) (s : State) : State × Reply :=
  match headOf head with
  | none => (s, Reply.plain .badIndex)
  | some h =>
    let l := s.lamp h
    match l.state with
    | .striking => (s, Reply.plain .badState)
    | .burning => (s, Reply.plain .badState)
    | _ =>
      let r := match length with
        | some n => n.toNat
        | none => l.record.trimLength
      (s.setLamp h { l with rod := r, rem := 0 }, Reply.plain .done)

end Sys2Proof.Machine
end

