-- ==== Sys2Proof/Machine/Engine.lean ====
section
/-! DEFINITION. The changeover engines (Chapter 6). Taking a cue can start a head that is ready, a ready head can swap, and a swap
judges the steps of R119 again for the head then showing. That circle is cut by a parameter: the operations below take the judgement
they end in as `J`, and `judge` ties it with a bound on the depth (log entry 20). -/

namespace Sys2Proof.Machine

/-- A judgement of R119's steps for a head. -/
abbrev Judge := Head → State → State

/-! ### The fault claim and the SHOW request -/

/-- The engine sets its fault claim, and FAULT is placed each time (R145). -/
def State.setClaim (s : State) (k : House) : State :=
  (s.setEng k { s.eng k with faultClaim := true }).placeLight k .fault
    { position := (s.light k).faultPos, fade := (s.light k).fastFade }

/-- The engine withdraws its fault claim, and FAULT is withdrawn (R145). -/
def State.withdrawClaim (s : State) (k : House) : State :=
  (s.setEng k { s.eng k with faultClaim := false }).withdrawLight k .fault

/-- SHOW placed with the light cue of record cur, when it carries one (R144). -/
def State.placeCue (s : State) (k : House) : State :=
  match (s.curReel k).light with
  | some c => s.placeLight k .shown { position := c.position, fade := c.fade }
  | none => s

/-- The marks, the two flags and the run-up cleared. -/
def Engine.cleared (e : Engine) : Engine :=
  { e with strikeDone := false, motorTaken := false, changeTaken := false, changePending := false, dark := false, runup := none }

/-! ### The tail (R125) -/

/-- A TAILING head's run ends (R125). -/
def State.tailEnd (s : State) (h : Head) : State :=
  ((s.writeDrive (.motor h) (.motor false)).normalShutdown h).assign h .empty none

/-- A TAILING head's frames judged against the length its lookup answers; a lookup that answers none leaves the run to end at STOPPED
(R99, R125; log entry 31). -/
def State.tailJudge (s : State) (h : Head) : State :=
  match s.heldLength h with
  | some n => if s.role h = .tailing ∧ n + (s.eng h.house).runout ≤ (s.mon h).counter then s.tailEnd h else s
  | none => s

/-! ### The last picture frame (R122 to R124) -/

/-- The picture and sound end on a head, which becomes TAILING. -/
def State.endPicture (s : State) (h : Head) : State :=
  ((s.writeDrive (.douser h) (.douser false)).writeDrive (.sound h.house) (.sound none)).setRole h .tailing

/-- The screen goes dark (R122). -/
def State.darken (s : State) (h : Head) : State :=
  let k := h.house
  let s1 := s.endPicture h
  let s2 := (s1.setEng k { s1.eng k with dark := true }).raise .pictureLost (.head h) (some .dark)
  (s2.setClaim k).tailJudge h

/-- A reel with INTERVAL_AFTER ends (R123). -/
def State.endReelInterval (s : State) (h : Head) : State :=
  let k := h.house
  let s1 := (s.endPicture h).placeLight k .shown { position := (s.light k).intervalPos, fade := (s.light k).fastFade }
  ((s1.setEng k { s1.eng k with state := .interval }).raise .showDone (.house k) (some .interval)).tailJudge h

/-- A reel with SHOW_END ends (R124). -/
def State.endReelShow (s : State) (h : Head) : State :=
  let k := h.house
  let s1 := (s.endPicture h).placeLight k .shown { position := (s.light k).endPos, fade := (s.light k).fastFade }
  ((s1.setEng k { s1.eng k with state := .ended }).raise .showDone (.house k) (some .ended)).tailJudge h

/-! ### Ready heads (R110, R120, R127, R130) -/

/-- A head shows: its douser opens and the sound names it. -/
def State.showPicture (s : State) (h : Head) : State :=
  (s.writeDrive (.douser h) (.douser true)).writeDrive (.sound h.house) (.sound (some h))

/-- The swap to an incoming head (R120). -/
def swap (J : Judge) (inc : Head) (s : State) : State :=
  let k := inc.house
  let out := inc.partner
  let s1 := ((s.writeDrive (.douser out) (.douser false)).showPicture inc).setRole inc .showing
  let s2 := if s1.role out = .showing then s1.setRole out .tailing else s1
  let s3 := (s2.setEng k { s2.eng k with cur := (s2.eng k).cur + 1 }).placeCue k
  let s4 := (s3.setEng k (s3.eng k).cleared).withdrawClaim k
  (J inc s4).tailJudge out

/-- The engine enters RUNNING with a head (R110). -/
def enterRunning (J : Judge) (h : Head) (s : State) : State :=
  let k := h.house
  let s1 := (s.showPicture h).setRole h .showing
  let s2 := s1.setEng k { (s1.eng k).cleared with cur := (s1.slot h).held.getD (s1.eng k).cur }
  let s3 := (s2.withdrawClaim k).placeCue k
  J h (s3.setEng k { s3.eng k with state := .running })

/-- The run-up of a house idle. -/
def State.runupIdle (s : State) (k : House) : State := s.setEng k { s.eng k with runup := none }

/-- The incoming head is ready in its run-up, which runs in a RUNNING house alone (R110; log entry 37). -/
def incomingReady (J : Judge) (h : Head) (s : State) : State :=
  let s1 := s.runupIdle h.house
  if (s1.eng h.house).changePending && (s1.eng h.house).state == .running then swap J h s1 else s1

/-- The part of starting a head that comes before its readiness is judged (R109). -/
def State.startHeadBase (s : State) (h : Head) (p : Purpose) : State :=
  let k := h.house
  let s1 := (s.strikeRequest h).writeDrive (.motor h) (.motor true)
  let s2 := if p = .resume ∧ s1.role h = .showing then s1 else s1.setRole h .starting
  s2.setEng k { s2.eng k with runup := some { head := h, purpose := p, deadline := s2.ms + (s2.eng k).runupLimit * 1000 } }

/-- A head started for purpose INCOMING (R109). -/
def startIncoming (J : Judge) (h : Head) (s : State) : State :=
  let s1 := s.startHeadBase h .incoming
  if s1.ready h then incomingReady J h s1 else s1

/-- The SHOWING head is ready in its run-up for RESUME (R130). -/
def resumeReady (J : Judge) (h : Head) (s : State) : State :=
  let k := h.house
  let s1 := ((s.runupIdle k).showPicture h).withdrawClaim k
  let s2 := J h (s1.setEng k { s1.eng k with state := .running })
  if (s2.eng k).motorTaken && (s2.curReel k).isChangeover && s2.role (s2.incoming k) == .threaded then
    startIncoming J (s2.incoming k) s2
  else s2

/-- An incoming head started by RESUME is ready: the swap, and the house RUNNING (R110, R130; log entry 19). -/
def resumeSwap (J : Judge) (h : Head) (s : State) : State :=
  let k := h.house
  swap J h (s.setEng k { s.eng k with runup := none, state := .running })

/-- The SHOWING head is ready again (R127). -/
def State.readyAgain (s : State) (h : Head) : State := (s.showPicture h).withdrawClaim h.house

/-- A head becomes ready (R110). -/
def headReady (J : Judge) (h : Head) (s : State) : State :=
  let k := h.house
  let e := s.eng k
  match e.runup.filter fun r => r.head == h with
  | some r =>
    match r.purpose, s.role h with
    | .start, _ => enterRunning J h (s.runupIdle k)
    | .incoming, _ => incomingReady J h s
    | .resume, .showing => resumeReady J h s
    | .resume, .starting => resumeSwap J h s
    | .resume, _ => s
  | none =>
    match e.state, s.role h with
    | .running, .showing => s.readyAgain h
    | .running, .starting => if e.changePending then swap J h s else s
    | _, _ => s

/-- A head started (R109). -/
def startHead (J : Judge) (h : Head) (p : Purpose) (s : State) : State :=
  let s1 := s.startHeadBase h p
  if s1.ready h then headReady J h s1 else s1

/-! ### The marks (R114 to R118) -/

/-- The motor cue taken (R116). -/
def takeMotor (J : Judge) (k : House) (s : State) : State :=
  let s1 := s.setEng k { s.eng k with motorTaken := true }
  let inc := s1.incoming k
  match s1.role inc with
  | .threaded => startIncoming J inc s1
  | .empty => s1.raise .notThreaded (.head inc) (some .motor)
  | .tailing => s1.raise .notThreaded (.head inc) (some .motor)
  | _ => s1

/-- The change cue taken (R118). -/
def takeChange (J : Judge) (k : House) (s : State) : State :=
  let s1 := s.setEng k { s.eng k with changeTaken := true }
  let inc := s1.incoming k
  if s1.role inc = .starting ∧ s1.ready inc then swap J inc s1
  else (s1.setEng k { s1.eng k with changePending := true }).raise .lateIncoming (.head inc) (some .change)

/-- The strike point of a record (R114). -/
def strikePoint (r : Reel) (lead fps : Nat) : Nat := r.motorCue - lead * fps

/-- Step 1 of R119 (R114). -/
def strikeStep (h : Head) (s : State) : State :=
  let k := h.house
  let e := s.eng k
  let r := s.curReel k
  if r.isChangeover && !e.strikeDone && decide (strikePoint r e.strikeLead (s.mon h).fps ≤ (s.mon h).counter) then
    let s1 := s.setEng k { e with strikeDone := true }
    let inc := s1.incoming k
    match s1.role inc with
    | .threaded => s1.strikeRequest inc
    | .empty => s1.raise .notThreaded (.head inc) (some .strike)
    | .tailing => s1.raise .notThreaded (.head inc) (some .strike)
    | _ => s1
  else s

/-- Step 2 of R119 (R115). -/
def motorStep (J : Judge) (h : Head) (s : State) : State :=
  let k := h.house
  let r := s.curReel k
  if r.isChangeover && !(s.eng k).motorTaken && decide (r.motorCue + r.window ≤ (s.mon h).counter) then
    takeMotor J k (s.raise .cueMissed (.head h) (some .motor))
  else s

/-- Step 3 of R119 (R117). -/
def changeStep (J : Judge) (h : Head) (s : State) : State :=
  let k := h.house
  let r := s.curReel k
  if r.isChangeover && !(s.eng k).changeTaken && decide (r.changeCue + r.window ≤ (s.mon h).counter) then
    takeChange J k (s.raise .cueMissed (.head h) (some .change))
  else s

/-- Step 4 of R119 (R122 to R124). -/
def lastStep (h : Head) (s : State) : State :=
  let r := s.curReel h.house
  if r.last ≤ (s.mon h).counter then
    if r.showEnd then s.endReelShow h else if r.intervalAfter then s.endReelInterval h else s.darken h
  else s

/-- Whether R119's steps are made for a head: its house is RUNNING and it is SHOWING. -/
def State.judged (s : State) (h : Head) : Bool := decide ((s.eng h.house).state = .running ∧ s.role h = .showing)

/-- One step of R119, made only while the head is still judged. -/
def judgeStep (h : Head) (f : State → State) (s : State) : State := if s.judged h then f s else s

/-- The four steps of R119, ending in the judgement `J` where a step brings another. -/
def judgeWith (J : Judge) (h : Head) (s : State) : State :=
  judgeStep h (lastStep h) (judgeStep h (changeStep J h) (judgeStep h (motorStep J h) (judgeStep h (strikeStep h) s)))

/-- The steps of R119 to a depth (log entry 20). -/
def judge : Nat → Judge
  | 0 => fun _ s => s
  | n + 1 => judgeWith (judge n)

/-- The steps of R119 (log entry 20). -/
def judgeFrames : Judge := judge 4

/-! ### Events (R48, R55, R66, R111, R113) -/

/-- A frame event (R119, R125). -/
def State.frameEvent (s : State) (h : Head) : State :=
  match s.role h with
  | .showing => judgeFrames h s
  | .tailing => s.tailJudge h
  | _ => s

/-- Whether a frame lies in a cue's window. -/
def inWindow (cue window counter : Nat) : Bool := decide (cue ≤ counter + window ∧ counter ≤ cue + window)

/-- Whether a MOTOR cue of a head is in order (R113). -/
def State.motorInOrder (s : State) (h : Head) : Bool :=
  let r := s.curReel h.house
  s.judged h && r.isChangeover && !(s.eng h.house).motorTaken && inWindow r.motorCue r.window (s.mon h).counter

/-- Whether a CHANGE cue of a head is in order (R113). -/
def State.changeInOrder (s : State) (h : Head) : Bool :=
  let r := s.curReel h.house
  s.judged h && r.isChangeover && !(s.eng h.house).changeTaken && inWindow r.changeCue r.window (s.mon h).counter

/-- A stray cue (R113). -/
def State.strayCue (s : State) (k : House) : State := s.setEng k { s.eng k with stray := bump (s.eng k).stray }

/-- A MOTOR cue delivered (R113). -/
def State.motorCue (s : State) (h : Head) : State :=
  if s.motorInOrder h then takeMotor judgeFrames h.house s else s.strayCue h.house

/-- A CHANGE cue delivered (R113). -/
def State.changeCue (s : State) (h : Head) : State :=
  if s.changeInOrder h then takeChange judgeFrames h.house s else s.strayCue h.house

/-- A house halted (R129). -/
def State.halt (s : State) (k : House) (fromFire : Bool) : State :=
  let a := k.head .a
  let b := k.head .b
  let stop := fun (t : State) h => (t.writeDrive (.douser h) (.douser false)).writeDrive (.motor h) (.motor false)
  let s1 := (stop (stop s a) b).writeDrive (.sound k) (.sound none)
  let s2 := if fromFire then (s1.overrideShutdown a).overrideShutdown b else (s1.normalShutdown a).normalShutdown b
  let unstart := fun (t : State) h => if t.role h = .starting then t.setRole h .threaded else t
  let s3 := unstart (unstart (s2.runupIdle k) a) b
  let s4 := if fromFire then s3 else s3.setClaim k
  s4.setEng k { s4.eng k with state := .halted }

/-- A move of a head's motion state reported to the engine (R55, R110, R125, R126, R128). -/
def State.motionReport (s : State) (h : Head) : State :=
  match (s.mon h).motion with
  | .locked => if s.ready h then headReady judgeFrames h s else s
  | .slow => if s.judged h then (s.raise .pictureLost (.head h) (some .slow)).setClaim h.house else s
  | .stopped =>
    if s.judged h then s.halt h.house false
    else if s.role h = .tailing then s.tailEnd h
    else s
  | .runup => s

/-- A lamp's move into BURNING reported to the engine (R66, R110). -/
def State.litReport (s : State) (h : Head) : State := if s.ready h then headReady judgeFrames h s else s

/-- Light lost on a head, reported to the engine (R66, R127). -/
def State.lightLost (s : State) (h : Head) : State :=
  if s.judged h then
    ((s.writeDrive (.douser h) (.douser false)).raise .pictureLost (.head h) (some .lamp)).setClaim h.house
  else s

/-- The code a run-up's purpose is raised with (R111). -/
def Purpose.toCode : Purpose → Code
  | .start => .start
  | .incoming => .incoming
  | .resume => .resume

/-- A run-up's deadline passes (R111). -/
def State.runupExpiry (s : State) (k : House) : State :=
  match (s.eng k).runup with
  | none => s
  | some r =>
    if r.deadline ≤ s.ms then
      let s1 := (s.writeDrive (.motor r.head) (.motor false)).raise .runupFail (.head r.head) (some r.purpose.toCode)
      let s2 := s1.runupIdle k
      if s2.role r.head = .starting then s2.setRole r.head .threaded else s2
    else s

/-! ### The show functions (R106, R107, R112, R117, R129, R130) -/

/-- A head cleared by ARM (R106). -/
def State.clearHead (s : State) (h : Head) : State :=
  if s.role h = .empty then s
  else
    let s1 := (s.writeDrive (.motor h) (.motor false)).writeDrive (.douser h) (.douser false)
    (s1.normalShutdown h).assign h .empty none

/-- An ARM accepted (R106). -/
def State.armAccepted (s : State) (k : House) (i : Nat) : State :=
  let s1 := ((s.clearHead (k.head .a)).clearHead (k.head .b)).writeDrive (.sound k) (.sound none)
  let s2 := (s1.setEng k (s1.eng k).cleared).withdrawClaim k
  s2.setEng k { s2.eng k with cur := i, highest := (i : Int) - 1, state := .armed }

/-- ARM from a start index (R106). -/
def State.arm (s : State) (k : House) (start : Option Nat) : State × Result :=
  let i := start.getD (s.programme.first k)
  let st := (s.eng k).state
  if !s.programme.inRegion k i then (s, .badIndex)
  else if !(st == .idle || st == .ended || st == .halted) then (s, .badState)
  else if s.inFire k then (s, .badState)
  else if !((s.mon (k.head .a)).inService && (s.mon (k.head .b)).inService) then (s, .badState)
  else if (s.programme.record i).last = 0 then (s, .noReel)
  else (s.armAccepted k i, .done)

/-- What follows a THREAD within its event (R108). -/
def State.afterThread (s : State) (h : Head) : State :=
  let k := h.house
  let e := s.eng k
  if e.state == .running && s.incoming k == h && (s.curReel k).isChangeover then
    if e.motorTaken then startIncoming judgeFrames h s else if e.strikeDone then s.strikeRequest h else s
  else s

/-- A THREAD accepted on a head that then holds a record (R107, R49, R86, R108). -/
def State.threadAccepted (s : State) (h : Head) (i : Nat) : State :=
  let s1 := (s.assign h .threaded (some i)).resetCounter h
  (s1.carbonCheckThread h (s1.programme.record i).last).afterThread h

/-- THREAD (R107). -/
def State.thread (s : State) (h : Head) : State × Result :=
  let k := h.house
  let e := s.eng k
  if !(e.state == .armed || e.state == .running || e.state == .interval) then (s, .badState)
  else if !(s.mon h).inService then (s, .badState)
  else
    match s.role h with
    | .threaded => (s.threadAccepted h ((s.slot h).held.getD 0), .done)
    | .empty =>
      let i := (e.highest + 1).toNat
      if !s.programme.inRegion k i || (s.programme.record i).last == 0 then (s, .noReel)
      else if (s.programme.record i).side ≠ h.side then (s, .wrongHead)
      else ((s.setEng k { e with highest := i }).threadAccepted h i, .done)
    | _ => (s, .badState)

/-- The THREADED head of a house that holds a record. -/
def State.threadedHolding (s : State) (k : House) (i : Nat) : Option Head :=
  (s.headHolding k i).filter fun h => s.role h == .threaded

/-- START (R112). -/
def State.start (s : State) (k : House) : State × Result :=
  let e := s.eng k
  match e.state with
  | .armed =>
    match s.threadedHolding k e.cur with
    | some h => (startHead judgeFrames h .start s, .done)
    | none => (s, .badState)
  | .interval =>
    match s.threadedHolding k (e.cur + 1) with
    | some h => (startHead judgeFrames h .start s, .done)
    | none => (s, .badState)
  | .running =>
    if e.motorTaken && (s.curReel k).isChangeover && s.role (s.incoming k) == .threaded then
      (startIncoming judgeFrames (s.incoming k) s, .done)
    else (s, .badState)
  | _ => (s, .badState)

/-- CHANGE (R117). -/
def State.change (s : State) (k : House) : State × Result :=
  let e := s.eng k
  if e.state == .running && s.anyShowing k && (s.curReel k).isChangeover && !e.changeTaken then
    let s1 := if e.motorTaken then s else takeMotor judgeFrames k s
    (takeChange judgeFrames k s1, .done)
  else (s, .badState)

/-- HALT (R129). -/
def State.haltFunction (s : State) (k : House) : State × Result :=
  let st := (s.eng k).state
  if st == .armed || st == .running || st == .interval then (s.halt k false, .done) else (s, .badState)

/-- RESUME (R130). -/
def State.resume (s : State) (k : House) : State × Result :=
  let e := s.eng k
  if e.state != .halted || s.inFire k then (s, .badState)
  else
    match s.showingHead k with
    | some h => (startHead judgeFrames h .resume s, .done)
    | none =>
      if e.dark && e.changePending && s.role (s.incoming k) == .threaded then
        (startHead judgeFrames (s.incoming k) .resume s, .done)
      else (s, .badState)

end Sys2Proof.Machine
end

