-- ==== Sys2Proof/Machine/Motion.lean ====
section
/-! DEFINITION. The head monitors' events (Chapter 3): frame pulses, their timers and the service flag. -/

namespace Sys2Proof.Machine

/-- A monitor's move: the hold line and the idle timer are re-judged, and the engine is told (R55, R56, R60; log entry 18). -/
def State.reportMotion (s : State) (h : Head) : State := ((s.rejudgeHold h).rejudgeIdle h).motionReport h

/-- The stop limit in tenths (R45). -/
def Monitor.stopTenths (m : Monitor) : Nat := m.stopLimit * 10

/-- A pulse judged in STOPPED (R50). -/
def Monitor.pulseStopped (m : Monitor) (now : Nat) : Monitor :=
  { m with motion := .runup, streak := 0, slowTimer := none, stopTimer := some (now + m.stopTenths) }

/-- A pulse judged in RUNUP or SLOW (R51). -/
def Monitor.pulseRising (m : Monitor) (now iv : Nat) : Monitor :=
  let m1 := { m with interval := some iv, stopTimer := some (now + m.stopTenths) }
  if inBand m.fps iv then
    if m.streak + 1 = 8 then { m1 with streak := 8, motion := .locked, slowTimer := some (now + slowLimit m.fps) }
    else { m1 with streak := m.streak + 1 }
  else { m1 with streak := 0 }

/-- A pulse judged in LOCKED (R52). -/
def Monitor.pulseLocked (m : Monitor) (now iv : Nat) : Monitor :=
  let m1 := { m with interval := some iv, stopTimer := some (now + m.stopTenths) }
  if aboveBand m.fps iv then { m1 with motion := .slow, streak := 0, slowTimer := none }
  else
    { m1 with
      slowTimer := some (now + slowLimit m.fps)
      overspeed := if inBand m.fps iv then m.overspeed else bump m.overspeed }

/-- An accepted pulse judged by the motion state it finds (R50 to R52). -/
def Monitor.judgePulse (m : Monitor) (now iv : Nat) : Monitor :=
  match m.motion with
  | .stopped => m.pulseStopped now
  | .runup => m.pulseRising now iv
  | .slow => m.pulseRising now iv
  | .locked => m.pulseLocked now iv

/-- A pulse accepted: its moment kept and the counter advanced (R47, R48). -/
def Monitor.accepted (m : Monitor) (now : Nat) : Monitor :=
  { m with lastPulse := some now, counter := min (m.counter + 1) Config.maxFrames }

/-- The interval of a pulse (R47). -/
def Monitor.pulseInterval (m : Monitor) (now : Nat) : Nat :=
  match m.lastPulse with
  | some t => now - t
  | none => 0

/-- Whether a pulse is bounce (R47). -/
def Monitor.isBounce (m : Monitor) (now : Nat) : Bool :=
  match m.lastPulse with
  | some t => decide (now - t < Config.bounceTenths)
  | none => false

/-- An accepted pulse (R47, R48, R50 to R52): the frame event first, then the motion judged (log entry 18). -/
def State.acceptPulse (s : State) (h : Head) : State :=
  let iv := (s.mon h).pulseInterval s.now
  let s1 := (s.setMon h ((s.mon h).accepted s.now)).frameEvent h
  let m1 := s1.mon h
  let m2 := m1.judgePulse s.now iv
  let s2 := s1.setMon h m2
  if m2.motion = m1.motion then s2 else s2.reportMotion h

/-- A pulse on a head's FRAME line (R47). -/
def State.pulse (s : State) (h : Head) : State :=
  let m := s.mon h
  if !m.inService || m.isBounce s.now then s else s.acceptPulse h

/-- The slow timer falls due (R53). -/
def State.slowExpiry (s : State) (h : Head) : State :=
  let m := s.mon h
  if m.motion = .locked ∧ due m.slowTimer s.now then
    (s.setMon h { m with motion := .slow, streak := 0, slowTimer := none }).reportMotion h
  else s

/-- A monitor moved to STOPPED by its stop timer (R54). -/
def Monitor.stopped (m : Monitor) : Monitor :=
  { m with motion := .stopped, streak := 0, interval := none, slowTimer := none, stopTimer := none }

/-- The stop timer falls due (R54; log entry 29). -/
def State.stopExpiry (s : State) (h : Head) : State :=
  let m := s.mon h
  if (m.motion = .runup ∨ m.motion = .slow) ∧ due m.stopTimer s.now then (s.setMon h m.stopped).reportMotion h else s

/-- The idle timer falls due (R60). -/
def State.idleExpiry (s : State) (h : Head) : State :=
  let m := s.mon h
  if due m.idleTimer s.ms then (s.setMon h { m with idleTimer := none }).normalShutdown h else s

/-- A head set out of service (R58). -/
def State.leaveService (s : State) (h : Head) : State :=
  let m := s.mon h
  let s1 := (s.setMon h { m.stopped with inService := false, lastPulse := none, idleTimer := none }).rejudgeHold h
  let s2 := if m.motion = .stopped then s1 else s1.motionReport h
  s2.overrideShutdown h

/-- A head set back in service (R59). -/
def State.enterService (s : State) (h : Head) : State :=
  ((s.setMon h { s.mon h with inService := true }).rejudgeHold h).rejudgeIdle h

/-- The service flag set (R58, R59). -/
def State.setService (s : State) (h : Head) (v : Bool) : State :=
  if (s.mon h).inService = v then s else if v then s.enterService h else s.leaveService h

end Sys2Proof.Machine
end

