-- ==== Sys2Proof/Machine/Samples.lean ====
section
/-! DEFINITION. Lamp samples, the lamp timers and WRITE LAMP (Chapter 4). -/

namespace Sys2Proof.Machine

/-- A lamp put into FAILED, its drive entries written off and 0 (R73, R74). -/
def State.failLamp (s : State) (h : Head) (l : Lamp) : State :=
  let s1 := s.setLamp h (l.putOut .failed)
  ((s1.writeDrive (.lamp h) (.lamp false)).writeDrive (.feed h) (.feed 0)).rejudgeIdle h

/-- The lamp reaches carbon end, its consumption accounted; `fromSwitch` when the end switch is the cause (R74). -/
def State.carbonEnd (s : State) (h : Head) (fromSwitch : Bool) : State :=
  let l := s.lamp h
  let s1 := (s.writeDrive (.douser h) (.douser false)).failLamp h (if fromSwitch then { l with rod := 0 } else l)
  let s2 := if l.state = .burning then s1.lightLost h else s1
  s2.raise .carbonEnd (.head h) (some (if fromSwitch then .switch else .rod))

/-- The arc has gone out (R73). -/
def State.arcOut (s : State) (h : Head) : State :=
  ((s.failLamp h (s.lamp h)).lightLost h).raise .arcFail (.head h) (some .out)

/-- One run of the regulator on a voltage: the new rate in force, written to FEED (R72 step 5, R81). -/
def State.runRegulator (s : State) (h : Head) (v : Nat) : State :=
  let l := s.lamp h
  let r := l.regulate v
  (s.setLamp h { l with acc := r.1, rate := r.2 }).writeDrive (.feed h) (.feed r.2)

/-- A lamp on its entry to BURNING (R70). -/
def Lamp.lit (l : Lamp) (ms : Nat) : Lamp :=
  { l with
    state := .burning, strikeTimer := none, acc := 0, rem := 0, rate := 0, accounted := some ms, stale := false,
    staleTimer := some (ms + Config.staleMs) }

/-- The arc has struck (R70; log entry 17). -/
def State.struck (s : State) (h : Head) (v : Nat) : State :=
  let s1 := (s.setLamp h ((s.lamp h).lit s.ms)).runRegulator h v
  ((s1.rejudgeIdle h).litReport h).carbonCheckShow h

/-- A sample that finds the lamp STRIKING (R70). -/
def State.sampleStriking (s : State) (h : Head) (x : Sample) : State :=
  if x.endSwitch then s.carbonEnd h true
  else if (s.lamp h).record.imin ≤ x.current then s.struck h x.voltage
  else s

/-- A burning lamp at a sample, before it is judged: steps 1 and 2 of R72. -/
def Lamp.sampled (l : Lamp) (ms : Nat) : Lamp := { l.account ms with staleTimer := some (ms + Config.staleMs), stale := false }

/-- A sample that finds the lamp BURNING (R72). -/
def State.sampleBurning (s : State) (h : Head) (x : Sample) : State :=
  let l := (s.lamp h).sampled s.ms
  let s1 := s.setLamp h l
  if x.endSwitch then s1.carbonEnd h true
  else if l.rod = 0 then s1.carbonEnd h false
  else if x.current < l.record.imin then s1.arcOut h
  else (s1.runRegulator h x.voltage).carbonCheckShow h

/-- A lamp sample delivered (R69). -/
def State.lampSample (s : State) (h : Head) (voltage current : Nat) (endSwitch : Bool) : State :=
  let x : Sample := { voltage := voltage, current := current, endSwitch := endSwitch, moment := s.ms }
  let s1 := s.setLamp h { s.lamp h with sample := some x }
  match (s.lamp h).state with
  | .dark => s1
  | .failed => s1
  | .striking => s1.sampleStriking h x
  | .burning => s1.sampleBurning h x

/-- The strike timer falls due (R71). -/
def State.strikeExpiry (s : State) (h : Head) : State :=
  let l := s.lamp h
  if l.state = .striking ∧ due l.strikeTimer s.ms then
    let s1 := (s.setLamp h (l.putOut .failed)).writeDrive (.lamp h) (.lamp false)
    (s1.rejudgeIdle h).raise .arcFail (.head h) (some .strike)
  else s

/-- The stale timer falls due (R77). -/
def State.staleExpiry (s : State) (h : Head) : State :=
  let l := s.lamp h
  if l.state = .burning ∧ due l.staleTimer s.ms then
    let l1 := { l.account s.ms with stale := true, staleTimer := some (s.ms + Config.staleMs) }
    let s1 := s.setLamp h l1
    if l1.rod = 0 then s1.carbonEnd h false else s1
  else s

/-! ### WRITE LAMP (R65) -/

/-- An Fmax written: B is lowered to it, and a burning lamp's rate in force above it is an accounting event (R65, R82; log
entry 16). -/
def State.writeFmax (s : State) (h : Head) (f : Nat) : State :=
  let l := s.lamp h
  let l1 := { l with record := { l.record with fmax := f, base := min l.record.base f } }
  if l.state = .burning ∧ f < l.rate then
    let l2 := l1.account s.ms
    let s1 := s.setLamp h l2
    if l2.rod = 0 then s1.carbonEnd h false
    else (s1.setLamp h { l2 with rate := f }).writeDrive (.feed h) (.feed f)
  else s.setLamp h l1

/-- The lamp record with one item changed; item 5 is written by `State.writeFmax` (R65). -/
def LampRecord.withItem (r : LampRecord) (item v : Nat) : LampRecord :=
  match item with
  | 1 => { r with target := v }
  | 2 => { r with base := v }
  | 3 => { r with kp := v }
  | 4 => { r with ki := v }
  | 6 => { r with imin := v }
  | 7 => { r with trimLength := v }
  | 8 => { r with lowMargin := v }
  | 9 => { r with strikeLimit := v }
  | _ => r

/-- The range of an item of the lamp record (R65). -/
def LampRecord.range (r : LampRecord) (item : Nat) : Option (Nat × Nat) :=
  match item with
  | 1 => some (300, 800)
  | 2 => some (0, r.fmax)
  | 3 => some (0, 255)
  | 4 => some (0, 255)
  | 5 => some (1, 511)
  | 6 => some (10, 150)
  | 7 => some (1000, 65535)
  | 8 => some (0, 1800)
  | 9 => some (2, 20)
  | _ => none

/-- WRITE LAMP judged (R65). -/
def judgeWriteLamp (head item : Byte) (value : Word) (s : State) : State × Reply :=
  match headOf head with
  | none => (s, Reply.plain .badIndex)
  | some h =>
    let l := s.lamp h
    match l.record.range item.toNat with
    | none => (s, Reply.plain .badIndex)
    | some (lo, hi) =>
      let t := tuned lo hi value.toNat
      if item.toNat = 5 then
        let reply := if t.1 < l.record.base then { result := .clamped, data := be16 t.1 } else t.2
        (s.writeFmax h t.1, reply)
      else (s.setLamp h { l with record := l.record.withItem item.toNat t.1 }, t.2)

end Sys2Proof.Machine
end

