-- ==== Sys2Proof/Machine/Fire.lean ====
section
/-! DEFINITION. The fire unit (Chapter 8). -/

namespace Sys2Proof.Machine

/-! ### Entering and leaving FIRE (R163, R166) -/

/-- A house enters FIRE with the code of its cause (R163). -/
def State.enterFire (s : State) (k : House) (code : Code) : State :=
  let a := k.head .a
  let b := k.head .b
  let s1 := s.setFire k { s.fireOf k with state := .fire, latch := true, port := false, gate := false }
  let s2 := (s1.rejudgeHold a).rejudgeHold b
  let s3 := (s2.overrideShutdown a).overrideShutdown b
  let stop := fun (t : State) h => (t.writeDrive (.motor h) (.motor false)).writeDrive (.douser h) (.douser false)
  let s4 := (stop (stop s3 a) b).writeDrive (.sound k) (.sound none)
  let s5 := (s4.halt k true).placeLight k .fire { position := 255, fade := 0 }
  s5.raise (fireEvent k) (.house k) (some code)

/-- A cause that finds a house out of FIRE drops it; one that finds it in FIRE changes nothing (R163). -/
def State.dropHouse (s : State) (k : House) (code : Code) : State := if s.inFire k then s else s.enterFire k code

/-- The oldest PRE entry of a detector list (R166; log entry 25). -/
def oldestPre (l : List Detector) : Option Detector := l.find? fun d => d.condition == .pre

/-- A house leaves FIRE (R166). -/
def State.leaveFire (s : State) (k : House) : State :=
  let f := s.fireOf k
  let pre := oldestPre f.detectors
  let s1 := s.setFire k { f with latch := false, state := if pre.isSome then .alert else .clear, port := true, gate := true }
  let s2 := match pre with
    | some d => s1.raise .alert (.zone d.zone) (some .pre)
    | none => s1
  let s3 := ((s2.rejudgeHold (k.head .a)).rejudgeHold (k.head .b)).withdrawLight k .fire
  s3.clearBit (fireEvent k)

/-! ### The link lines (R155) -/

/-- A change of level on a house's LINK line (R155). -/
def State.linkLevel (s : State) (k : House) (opened : Bool) : State :=
  let f := s.fireOf k
  if f.linkOpen = opened then s
  else
    let s1 := s.setFire k { f with linkOpen := opened }
    if opened then s1.dropHouse k .link else s1

/-! ### Detector reports (R156 to R161) -/

/-- PRE since, after a report (R157). -/
def preSinceAfter (old : Option Detector) (c : Condition) (ms : Nat) : Option Nat :=
  if c = .pre then
    match old with
    | some d => if d.condition = .pre then d.preSince else some ms
    | none => some ms
  else none

/-- A detector list with a report entered, the hold time given in seconds (R157, R158). -/
def enterReport (l : List Detector) (source : Byte) (zone : Zone) (c : Condition) (ms holdTime : Nat) : List Detector :=
  let old := l.find? fun d => d.source == source
  let entry : Detector :=
    { source := source, zone := zone, condition := c, lastHeard := ms, preSince := preSinceAfter old c ms
      deadline := ms + holdTime * 1000 }
  match old with
  | some _ => l.filter (fun d => d.source != source) ++ [entry]
  | none =>
    if c = .normal then l
    else if l.length < 4 then l ++ [entry]
    else l.drop 1 ++ [entry]

/-- Whether a source's entry held a condition before a report. -/
def heldCondition (l : List Detector) (source : Byte) (c : Condition) : Bool :=
  l.any fun d => d.source == source && d.condition == c

/-- Whether a PRE report that entered PRE confirms a fire (R160). -/
def confirms (l : List Detector) (source : Byte) (ms window : Nat) : Bool :=
  l.any fun d =>
    d.source != source && d.condition == .pre &&
      match d.preSince with
      | some t => decide (ms - t ≤ window * 1000)
      | none => false

/-- A house in ALERT without an entry in PRE or FIRE moves to CLEAR (R161). -/
def State.judgeAlert (s : State) (k : House) : State :=
  let f := s.fireOf k
  if f.state = .alert ∧ ¬ (f.detectors.any fun d => d.condition == .pre || d.condition == .fire) then
    s.setFire k { f with state := .clear }
  else s

/-- A house's state judged on a report that has been entered (R159). -/
def State.judgeReport (s : State) (k : House) (source : Byte) (zone : Zone) (c : Condition) (before : List Detector) : State :=
  let f := s.fireOf k
  match c with
  | .fire => s.dropHouse k .report
  | .pre =>
    if !heldCondition before source .pre && confirms f.detectors source s.ms s.fire.confirmWindow then s.dropHouse k .confirm
    else if f.state = .clear then (s.setFire k { f with state := .alert }).raise .alert (.zone zone) (some .pre)
    else s
  | .fault => if heldCondition before source .fault then s else s.raise .alert (.zone zone) (some .fault)
  | .normal => s

/-- A detector report for one house it concerns (R156). -/
def State.houseReport (s : State) (k : House) (source : Byte) (zone : Zone) (c : Condition) : State :=
  let f := s.fireOf k
  let s1 := s.setFire k { f with detectors := enterReport f.detectors source zone c s.ms s.fire.holdTime }
  (s1.judgeReport k source zone c f.detectors).judgeAlert k

/-- A detector report delivered; House 1 takes a report of zone 3 first (R156; log entry 35). -/
def State.detectorReport (s : State) (source : Byte) (zone : Zone) (c : Condition) : State :=
  let s1 := if zone.concerns .one then s.houseReport .one source zone c else s
  if zone.concerns .two then s1.houseReport .two source zone c else s1

/-- An entry of a house's detector list expires (R158). -/
def State.detectorExpiry (s : State) (k : House) (source : Byte) : State :=
  let f := s.fireOf k
  if f.detectors.any fun d => d.source == source && decide (d.deadline ≤ s.ms) then
    (s.setFire k { f with detectors := f.detectors.filter fun d => d.source != source }).judgeAlert k
  else s

/-! ### The fire functions (R162, R165) -/

/-- FIRE DROP (R162). -/
def State.fireDrop (s : State) (k : House) : State := s.dropHouse k .drop

/-- FIRE RESET (R165). -/
def State.fireReset (s : State) (k : House) : State × Result :=
  let f := s.fireOf k
  if f.state = .fire ∧ f.linkOpen = false ∧ ¬ (f.detectors.any fun d => d.condition == .fire) then (s.leaveFire k, .done)
  else (s, .badState)

end Sys2Proof.Machine
end

