-- ==== Sys2Proof/Machine/Panel.lean ====
section
/-! DEFINITION. The panel decoder and the notice unit's timers and orders (Chapter 9). -/

namespace Sys2Proof.Machine

/-- The key at a bit of a house byte (R172). -/
def State.houseKey (s : State) (k : House) (bit : Nat) : State :=
  match bit with
  | 0 => (s.arm k none).1
  | 1 => (s.start k).1
  | 2 => (s.change k).1
  | 3 => (s.haltFunction k).1
  | 4 => (s.resume k).1
  | 5 => s.lightsUp k
  | 6 => s.lightsDown k
  | 7 => s.lightsAuto k
  | _ => s

/-- The key at a bit of the head byte (R172). -/
def State.headKey (s : State) (bit : Nat) : State :=
  match bit with
  | 0 => (s.thread .h1).1
  | 1 => (s.thread .h2).1
  | 2 => (s.thread .h3).1
  | 3 => (s.thread .h4).1
  | 4 => s.strikeRequest .h1
  | 5 => s.strikeRequest .h2
  | 6 => s.strikeRequest .h3
  | 7 => s.strikeRequest .h4
  | _ => s

/-- The ACK key: every event acknowledged, then the end of the alert (R178). -/
def State.ackKey (s : State) : State := (s.acknowledge 0xFFFF).endOfAlert

/-- The key at a bit of the common byte; bits 5 to 7 hand on nothing (R172). -/
def State.commonKey (s : State) (bit : Nat) : State :=
  match bit with
  | 0 => s.fireDrop .one
  | 1 => s.fireDrop .two
  | 2 => (s.fireReset .one).1
  | 3 => (s.fireReset .two).1
  | 4 => s.ackKey
  | _ => s

/-- The newly pressed keys of one byte handed on from bit 0 upward (R172). -/
def pressKeys (press : State → Nat → State) (newly : Byte) (s : State) : State :=
  (List.range 8).foldl (fun t bit => if newly.getLsbD bit then press t bit else t) s

/-- The keys newly pressed in a byte (R171). -/
def newKeys (now last : Byte) : Byte := now &&& ~~~last

/-- The panel after a delivery: the maps kept, the panel present and the guard started (R171). -/
def Panel.delivered (p : Panel) (m : KeyMap) (ms : Nat) : Panel :=
  { p with last := m, present := true, guard := some (ms + p.guardTime) }

/-- A delivery of key maps (R171, R172). -/
def State.panelDelivery (s : State) (m : KeyMap) : State :=
  let old := s.panel.last
  let s1 := { s with panel := s.panel.delivered m s.ms }
  if !s.panel.present then s1
  else
    let s2 := pressKeys (fun t bit => t.houseKey .one bit) (newKeys m.house1 old.house1) s1
    let s3 := pressKeys (fun t bit => t.houseKey .two bit) (newKeys m.house2 old.house2) s2
    let s4 := pressKeys State.headKey (newKeys m.head old.head) s3
    pressKeys State.commonKey (newKeys m.common old.common) s4

/-- The panel guard falls due (R173). -/
def State.panelExpiry (s : State) : State :=
  if s.panel.present && due s.panel.guard s.ms then
    ({ s with panel := { s.panel with present := false, guard := none } } : State).raise .panelLost .none (some .guard)
  else s

/-- The quiet timer falls due (R180). -/
def State.quietExpiry (s : State) : State :=
  if due s.notices.quietTimer s.ms then s.setNotices (NoticeUnit.rejudge { s.notices with quietTimer := none }) else s

/-- The mask a MASK order leaves: its marks with those of events 0 and 1 disregarded (R177, R179). -/
def maskOf (marks : Word) : Word := marks &&& ackable

/-- MASK (R179). -/
def State.setMask (s : State) (marks : Word) : State :=
  s.setNotices (NoticeUnit.rejudge { s.notices with mask := maskOf marks })

end Sys2Proof.Machine
end

