-- ==== Sys2Proof/Machine/Matcher.lean ====
section
/-! DEFINITION. The reaction matcher and the reaction table's orders (Chapter 2). -/

namespace Sys2Proof.Machine

/-! ### Matching (R26 to R28) -/

/-- Whether an entry's selector passes (R26). -/
def ReactEntry.selectorPasses (e : ReactEntry) (payload : List Byte) : Bool :=
  e.selMask == 0 ||
    match payload with
    | [] => false
    | b :: _ => b &&& e.selMask == e.selValue &&& e.selMask

/-- Whether an entry is in use and matches a telegram (R26). -/
def ReactEntry.takes (e : ReactEntry) (f : Frame) : Bool :=
  e.inUse && (e.source == 0 || e.source == f.src) && (e.kind == 0 || e.kind == f.kind) && e.selectorPasses f.payload

/-- The index of the taking entry (R27). -/
def Matcher.taking (m : Matcher) (f : Frame) : Option (Fin 32) := (List.finRange 32).find? fun i => (m.table.get i).takes f

/-- The consume decision of a taking entry (R28). -/
def ReactEntry.consumes (e : ReactEntry) : Bool :=
  match e.action with
  | .drop => true
  | _ => e.consume

/-- Advance the malformed counter (R34). -/
def State.malformed (s : State) : State := { s with matcher := { s.matcher with malformed := bump s.matcher.malformed } }

/-- Advance a match count (R34). -/
def State.countMatch (s : State) (i : Fin 32) : State :=
  { s with matcher := { s.matcher with counts := s.matcher.counts.set i (bump (s.matcher.counts.get i)) } }

/-- A CUE payload delivered to an engine (R30). -/
def State.deliverCue (s : State) (h : Head) (payload : List Byte) : State :=
  match payload with
  | [] => s.malformed
  | b :: _ => if b = 1 then s.motorCue h else if b = 2 then s.changeCue h else s.malformed

/-- A LAMP payload delivered to a regulator (R31). -/
def State.deliverLamp (s : State) (h : Head) (payload : List Byte) : State :=
  match payload with
  | v1 :: v0 :: c :: st :: _ =>
    let v := (wordOf v1 v0).toNat
    if v ≤ 999 ∧ c.toNat ≤ 199 then s.lampSample h v c.toNat (st.getLsbD 0) else s.malformed
  | _ => s.malformed

/-- A SENSE payload delivered to the fire unit (R32). -/
def State.deliverSense (s : State) (z : Zone) (source : Byte) (payload : List Byte) : State :=
  match payload with
  | [] => s.malformed
  | b :: _ =>
    match conditionOf b with
    | some c => s.detectorReport source z c
    | none => s.malformed

/-- A PANEL payload delivered to the panel decoder (R33). -/
def State.deliverPanel (s : State) (payload : List Byte) : State :=
  match payload with
  | a :: b :: c :: d :: _ => s.panelDelivery { house1 := a, house2 := b, head := c, common := d }
  | _ => s.malformed

/-- A taking entry's action on a telegram (R29 to R33). -/
def State.deliver (s : State) (a : Action) (f : Frame) : State :=
  match a with
  | .pass => s
  | .drop => s
  | .cue h => s.deliverCue h f.payload
  | .lamp h => s.deliverLamp h f.payload
  | .sense z => s.deliverSense z f.src f.payload
  | .panel => s.deliverPanel f.payload

/-- A telegram at the matcher: the state after it and whether it is consumed (R27, R28). -/
def State.matchFrame (s : State) (f : Frame) : State × Bool :=
  match s.matcher.taking f with
  | none => (s, false)
  | some i =>
    let e := s.matcher.table.get i
    ((s.countMatch i).deliver e.action f, e.consumes)

/-! ### Loading and locking (R35, R36) -/

/-- The entry a WRITE REACT describes, when its values are valid; the lock mark is set at once under the write lock (R35). -/
def reactEntryOf (p : ReactParams) (writeLock : Bool) : Option ReactEntry :=
  match actionOf p.action p.target with
  | none => none
  | some a =>
    if p.source.toNat ≤ 30 ∧ p.flags.toNat < 8 then
      some
        { inUse := p.flags.getLsbD 0, source := p.source, kind := p.kind, selValue := p.selValue, selMask := p.selMask, action := a
          consume := p.flags.getLsbD 1, protect := p.flags.getLsbD 2, lockMark := writeLock && p.flags.getLsbD 2 }
    else none

/-- WRITE REACT judged (R35). -/
def judgeWriteReact (p : ReactParams) (s : State) : State × Reply :=
  match toIndex 32 p.index.toNat with
  | none => (s, Reply.plain .badIndex)
  | some i =>
    if (s.matcher.table.get i).lockMark then (s, Reply.plain .locked)
    else
      match reactEntryOf p s.matcher.writeLock with
      | none => (s, Reply.plain .badValue)
      | some e =>
        ({ s with matcher := { s.matcher with table := s.matcher.table.set i e, counts := s.matcher.counts.set i 0 } },
          Reply.plain .done)

/-- An entry under LOCK: marked when protected (R36). -/
def ReactEntry.locked (e : ReactEntry) : ReactEntry := { e with lockMark := e.lockMark || e.protect }

/-- The number of entries bearing a lock mark (R36). -/
def Matcher.lockCount (m : Matcher) : Nat := m.table.cells.countP fun e => e.lockMark

/-- The matcher after LOCK (R36). -/
def Matcher.lock (m : Matcher) : Matcher := { m with writeLock := true, table := m.table.map ReactEntry.locked }

/-- LOCK judged; the number of marked entries is answered in one byte (R36; log entry 34). -/
def judgeLock (s : State) : State × Reply :=
  let m := s.matcher.lock
  ({ s with matcher := m }, { result := .done, data := [count8 m.lockCount] })

/-! ### The station map and refresh (R42, R43) -/

/-- An entry remapped: dirty under the class of its commanded value (R43). -/
def DriveEntry.remapped (e : DriveEntry) (station fn : Byte) (ms : Nat) : DriveEntry :=
  { e with station := station, fn := fn, dirty := e.mark e.value.cls ms }

/-- WRITE MAP judged (R43). -/
def judgeWriteMap (index station fn : Byte) (s : State) : State × Reply :=
  match driveAt index.toNat with
  | none => (s, Reply.plain .badIndex)
  | some d =>
    if station.toNat ≤ 30 then (s.setEntry d ((s.entry d).remapped station fn s.ms), Reply.plain .done)
    else (s, Reply.plain .badValue)

/-- Whether an entry is due for refresh (R42; log entry 21). -/
def DriveEntry.refreshDue (e : DriveEntry) (period ms : Nat) : Bool :=
  e.station != 0 && e.dirty.isNone &&
    match e.lastTime with
    | some t => decide (period < ms - t)
    | none => false

/-- A refresh expiry (R42). -/
def State.refresh (s : State) (d : DriveId) : State :=
  let e := s.entry d
  if e.refreshDue s.drive.refreshPeriod s.ms then
    s.setEntry d { e with dirty := some { cls := .refresh, since := s.ms } }
  else s

end Sys2Proof.Machine
end

