-- ==== Sys2Proof/Machine/Programme.lean ====
section
/-! DEFINITION. The programme store's orders (Chapter 5). -/

namespace Sys2Proof.Machine

/-- The record a WRITE REEL describes; a light cue marked absent leaves its bytes unused (R91, R93). -/
def reelOf (p : ReelParams) : Reel :=
  { side := if p.flags.getLsbD 0 then .b else .a
    last := p.last.toNat, motorCue := p.motorCue.toNat, changeCue := p.changeCue.toNat, window := p.window.toNat
    intervalAfter := p.flags.getLsbD 1, showEnd := p.flags.getLsbD 2
    light := if p.flags.getLsbD 3 then some { position := p.lightPos.toNat, fade := p.lightFade.toNat } else none }

/-- The field check (R93). -/
def Reel.fieldsOk (r : Reel) : Bool :=
  decide (1000 ≤ r.last ∧ r.last ≤ 65535 ∧ r.window ≤ 96) && !(r.intervalAfter && r.showEnd)

/-- The cue ordering check (R94). -/
def Reel.cuesOk (r : Reel) : Bool :=
  decide (r.window ≤ r.motorCue ∧ r.motorCue + 2 * r.window < r.changeCue ∧ r.changeCue + r.window ≤ r.last)

/-- Whether the record at a neighbouring index counts and holds the side given (R95). -/
def Programme.neighbourHolds (p : Programme) (k : House) (i : Nat) (side : Side) : Bool :=
  p.inRegion k i && (p.record i).last != 0 && (p.record i).side == side

/-- The side alternation check (R95). -/
def Programme.sideOk (p : Programme) (i : Nat) (side : Side) : Bool :=
  let k := p.owner i
  !(decide (1 ≤ i) && p.neighbourHolds k (i - 1) side) && !p.neighbourHolds k (i + 1) side

/-- A record replaced. -/
def State.setReel (s : State) (i : Fin 64) (r : Reel) : State :=
  { s with programme := { s.programme with reels := s.programme.reels.set i r } }

/-- WRITE REEL judged (R92 to R96). -/
def judgeWriteReel (p : ReelParams) (s : State) : State × Reply :=
  match toIndex 64 p.index.toNat with
  | none => (s, Reply.plain .badIndex)
  | some i =>
    let r := reelOf p
    if s.recordInUse i then (s, Reply.plain .inUse)
    else if r.last = 0 then (s.setReel i Reel.vacant, Reply.plain .done)
    else if r.fieldsOk && r.cuesOk && s.programme.sideOk i r.side then (s.setReel i r, Reply.plain .done)
    else (s, Reply.plain .badValue)

/-- Whether a house is IDLE or ENDED. -/
def State.atRest (s : State) (k : House) : Bool := (s.eng k).state == .idle || (s.eng k).state == .ended

/-- Whether two records are both non-empty with the same side (R100). -/
def Programme.sameSide (p : Programme) (i j : Nat) : Bool :=
  (p.record i).last != 0 && (p.record j).last != 0 && (p.record i).side == (p.record j).side

/-- SPLIT judged (R100). -/
def judgeSplit (point : Byte) (s : State) : State × Reply :=
  let n := point.toNat
  let p := s.programme
  if n < 1 ∨ 63 < n then (s, Reply.plain .badIndex)
  else if s.matcher.writeLock then (s, Reply.plain .locked)
  else if !(s.atRest .one && s.atRest .two) then (s, Reply.plain .inUse)
  else if n ≠ p.split ∧ p.sameSide (p.split - 1) p.split then (s, Reply.plain .badValue)
  else ({ s with programme := { p with split := n } }, Reply.plain .done)

end Sys2Proof.Machine
end

