-- ==== Sys2Proof/Machine/Loop.lean ====
section
/-! DEFINITION. The loop unit (Chapter 1): reception, routing, strip handling, the loop states and the transmit arbiter. -/

namespace Sys2Proof.Machine

/-! ### Entering SEARCH (R12, R23) -/

/-- A DRIVE entry after its telegram was abandoned: dirty again as it was when started, unless a write during the transmission has
made it dirty already, a WRITE MAP among them; REFRESH is the class no write gives (R23, R39; log entry 32). -/
def DriveEntry.abandoned (e : DriveEntry) (cls : DriveClass) (since : Nat) : DriveEntry :=
  match e.dirty with
  | none => { e with dirty := some { cls := cls, since := since } }
  | some w => if w.cls = .refresh then { e with dirty := some { cls := cls, since := since } } else e

/-- A NOTICE put back at the head of the answer/notice FIFO (R23). -/
def State.putBackNotice (s : State) (c : NoticeContents) : State :=
  if s.loop.fifo.any Waiting.isNotice then s
  else
    let s1 := s.makeRoom
    s1.setLoop { s1.loop with fifo := .notice c :: s1.loop.fifo }

/-- What becomes of a telegram abandoned (R23). -/
def State.abandon (s : State) (t : Sending) : State :=
  match t with
  | .repeated _ => s
  | .answer _ _ => s
  | .notice _ c => s.putBackNotice c
  | .drive _ d cls since => s.setEntry d ((s.entry d).abandoned cls since)

/-- The loop unit on its entry to SEARCH; LOOP OUT falls free at once when a telegram is abandoned (R12; log entry 12). -/
def LoopUnit.searching (l : LoopUnit) (ms : Nat) : LoopUnit :=
  { l with
    state := .search, dwell := some (ms + Config.dwellMs), guard := none, leaveAwaiting := false, bypass := true, repeats := []
    transit := [], losses := 0
    out := match l.out with
      | .sending _ => .free
      | o => o }

/-- Entry to SEARCH (R12); a restart wait ends by it (R190). -/
def State.enterSearch (s : State) : State :=
  let s1 := s.setLoop (s.loop.searching s.ms)
  let s2 := match s.loop.out with
    | .sending t => s1.abandon t
    | _ => s1
  s2.requestStart

/-! ### Timers (R10, R13, R20) -/

/-- The next rate of the search cycle (R10). -/
def Rate.next : Rate → Rate
  | .r19200 => .r9600
  | .r9600 => .r4800
  | .r4800 => .r2400
  | .r2400 => .r19200

/-- A telegram under assembly discarded (R10). -/
def Reception.discarded : Reception → Reception
  | .assembling _ => .seeking
  | r => r

/-- The dwell expires (R10). -/
def State.dwellExpiry (s : State) : State :=
  let l := s.loop
  if l.state = .search ∧ due l.dwell s.ms then
    s.setLoop { l with rate := l.rate.next, dwell := some (s.ms + Config.dwellMs), rx := l.rx.discarded }
  else s

/-- The loop guard expires (R13). -/
def State.guardExpiry (s : State) : State :=
  if s.loop.state ≠ .search ∧ due s.loop.guard s.ms then s.enterSearch.raise .loop .none (some .guard) else s

/-- In-transit entries lost by their deadlines, oldest first, until the consecutive-loss count stands at 3: the entries left, the
count and the number lost (R20). -/
def expireTransit (ms : Nat) : List Transit → Nat → List Transit × Nat × Nat
  | [], losses => ([], losses, 0)
  | t :: ts, losses =>
    if losses < 3 ∧ due t.deadline ms then
      let r := expireTransit ms ts (losses + 1)
      (r.1, r.2.1, r.2.2 + 1)
    else (t :: ts, losses, 0)

/-- A counter advanced several times (section 4.9). -/
def bumpBy (n k : Nat) : Nat := min (n + k) Config.maxCounter

/-- The deadline of the oldest in-transit entry passes (R20). -/
def State.returnExpiry (s : State) : State :=
  let r := expireTransit s.ms s.loop.transit s.loop.losses
  let s1 := (s.setLoop { s.loop with transit := r.1, losses := r.2.1 }).countLoop fun c => { c with lost := bumpBy c.lost r.2.2 }
  if 3 ≤ r.2.1 ∧ s.loop.state ≠ .search then s1.enterSearch.raise .loop .none (some .loss) else s1

/-! ### Strip handling (R18, R19) -/

/-- The place in the in-transit list of the earliest entry that a telegram equals (R18). -/
def LoopUnit.returned (l : LoopUnit) (f : Frame) : Option Nat := l.transit.findIdx? fun t => t.frame == f

/-- Strip handling (R18, R19). -/
def State.strip (s : State) (f : Frame) : State :=
  match s.loop.returned f with
  | some k =>
    (s.setLoop { s.loop with transit := s.loop.transit.drop (k + 1), losses := 0 }).countLoop
      fun c => { c with lost := bumpBy c.lost k }
  | none => (s.countLoop fun c => { c with clash := bump c.clash }).raise .loop .none (some .clash)

/-- Whether a good telegram goes to strip handling (R8). -/
def State.stripped (s : State) (f : Frame) : Bool :=
  f.src == s.orders.own || s.loop.transit.any fun t => t.frame.src == f.src

/-! ### Routing (R8, R9, R11, R16) -/

/-- A telegram sent to the repeat FIFO (R16). -/
def State.joinRepeats (s : State) (f : Frame) : State :=
  if s.loop.repeats.length < 4 then s.setLoop { s.loop with repeats := s.loop.repeats ++ [f] }
  else s.countLoop fun c => { c with overrun := bump c.overrun }

/-- A telegram routed (R9). `order` is what the order processor does with an ORDER to the part; `mayRepeat` is false for the
telegram that locked the rate (R11). -/
def State.route (s : State) (f : Frame) (mayRepeat : Bool) (order : State → State) : State :=
  if f.dst = s.orders.own then
    if f.kind = Config.kindOrder then order s else (s.matchFrame f).1
  else
    let r := s.matchFrame f
    if mayRepeat && s.loop.state == .held && !r.2 then r.1.joinRepeats f else r.1

/-- A good telegram's arrival in HELD or LISTEN (R8). -/
def State.arrive (s : State) (f : Frame) (mayRepeat : Bool) (order : State → State) : State :=
  let s1 := s.setLoop { s.loop with guard := some (s.ms + s.loop.guardTime) }
  if s1.stripped f then s1.strip f else s1.route f mayRepeat order

/-- The loop unit locked to the rate under trial (R11). -/
def LoopUnit.lockedRate (l : LoopUnit) : LoopUnit :=
  { l with state := if l.latch then .listen else .held, dwell := none, bypass := l.latch }

/-- A good telegram (R8, R11). -/
def State.goodTelegram (s : State) (f : Frame) (order : State → State) : State :=
  match s.loop.state with
  | .search => (s.setLoop s.loop.lockedRate).arrive f false order
  | .held => s.arrive f true order
  | .listen => s.arrive f true order

/-! ### Reception (R4 to R7) -/

/-- A length error (R6). -/
def State.lengthError (s : State) : State :=
  match s.loop.rx with
  | .ignoring => s
  | _ => (s.setLoop { s.loop with rx := .ignoring }).countLoop fun c => { c with length := bump c.length }

/-- The idle gap after a length error (R6). -/
def State.lengthIdle (s : State) : State :=
  match s.loop.rx with
  | .ignoring => s.setLoop { s.loop with rx := .seeking }
  | _ => s

/-- The receiver after a break (R5). -/
def afterBreak : BreakCause → Reception
  | .gap b => if b = Config.lead then .assembling [b] else .seeking
  | .framing => .seeking

/-- A break (R5). -/
def State.lineBreak (s : State) (c : BreakCause) : State :=
  match s.loop.rx with
  | .ignoring => s
  | _ => (s.setLoop { s.loop with rx := afterBreak c }).countLoop fun n => { n with brk := bump n.brk }

/-- A telegram's last byte arrives (R4, R6, R7; log entries 5 and 28). -/
def State.receive (s : State) (f : Frame) (order : State → State) : State :=
  match s.loop.rx with
  | .ignoring => s
  | _ =>
    if 12 < f.payload.length then s.lengthError
    else
      let s1 := s.setLoop { s.loop with rx := .seeking }
      if f.checkOk && f.addressOk then s1.goodTelegram f order
      else s1.countLoop fun c => { c with check := bump c.check }

/-! ### LEAVE and JOIN (R14, R15) -/

/-- The move to LISTEN (R14); a restart wait ends by it (R190). -/
def State.moveToListen (s : State) : State :=
  (s.setLoop { s.loop with state := .listen, bypass := true, repeats := [], leaveAwaiting := false }).requestStart

/-- LEAVE (R14). -/
def State.leaveRing (s : State) : State :=
  let s1 := s.setLoop { s.loop with latch := true }
  match s.loop.state with
  | .held =>
    match s.loop.out with
    | .sending _ => s1.setLoop { s1.loop with leaveAwaiting := true }
    | _ => s1.moveToListen
  | _ => s1

/-- JOIN (R15). -/
def State.joinRing (s : State) : State :=
  let l := { s.loop with latch := false, leaveAwaiting := false }
  match s.loop.state with
  | .listen => s.setLoop { l with state := .held, bypass := false }
  | _ => s.setLoop l

/-! ### The transmit arbiter (R22, R23) -/

/-- The class and dirtied time of an entry available to the arbiter under a class (R22, R43). -/
def DriveEntry.available (e : DriveEntry) (cls : DriveClass) : Option Nat :=
  if e.station = 0 then none else (e.dirty.filter fun w => w.cls == cls).map Dirty.since

/-- The entry of a class that goes first: the one dirtied earliest, and of several the lowest index (R22). -/
def State.firstDirty (s : State) (cls : DriveClass) : Option (DriveId × Nat) :=
  driveIds.foldl
    (fun best d =>
      match (s.entry d).available cls, best with
      | none, _ => best
      | some t, none => some (d, t)
      | some t, some (_, u) => if t < u then some (d, t) else best)
    none

/-- LOOP OUT takes a telegram the part originates, which joins the in-transit list (R17, R23). -/
def LoopUnit.originate (l : LoopUnit) (f : Frame) (t : Sending) : LoopUnit :=
  { l with out := .sending t, transit := l.transit ++ [{ frame := f, deadline := none }] }

/-- The DRIVE telegram of an entry (R39). -/
def State.driveFrame (s : State) (d : DriveId) : Frame :=
  let e := s.entry d
  Frame.make e.station s.orders.own Config.kindDrive (e.fn :: e.value.bytes)

/-- A DRIVE telegram started (R23, R41); it has no last-sent time until its own last byte has been sent (R38). -/
def State.startDrive (s : State) (d : DriveId) (cls : DriveClass) (since : Nat) : State :=
  let f := s.driveFrame d
  let e := s.entry d
  let s1 := s.setEntry d { e with dirty := none, lastValue := some e.value, lastTime := none }
  s1.setLoop (s1.loop.originate f (.drive f d cls since))

/-- A telegram of the answer/notice FIFO started (R21, R23). -/
def State.startWaiting (s : State) (w : Waiting) (rest : List Waiting) : State :=
  let l := { s.loop with fifo := rest }
  match w with
  | .answer dst payload named =>
    let f := Frame.make dst s.orders.own Config.kindAnswer payload
    s.setLoop (l.originate f (.answer f named))
  | .notice c =>
    let f := Frame.make s.loop.console s.orders.own Config.kindNotice c.payload
    s.setLoop (l.originate f (.notice f c))

/-- Choices 5 to 7 (R22). -/
def State.startLate (s : State) : State :=
  match s.firstDirty .feed with
  | some (d, t) => s.startDrive d .feed t
  | none =>
    match s.firstDirty .lights with
    | some (d, t) => s.startDrive d .lights t
    | none =>
      match s.firstDirty .refresh with
      | some (d, t) => s.startDrive d .refresh t
      | none => s

/-- Choices 2 to 7 (R22). -/
def State.startOriginated (s : State) : State :=
  match s.firstDirty .safety with
  | some (d, t) => s.startDrive d .safety t
  | none =>
    match s.firstDirty .change with
    | some (d, t) => s.startDrive d .change t
    | none =>
      match s.loop.fifo with
      | w :: rest => s.startWaiting w rest
      | [] => s.startLate

/-- The arbiter's choice (R22). -/
def State.choose (s : State) : State :=
  match s.loop.repeats with
  | f :: rest => s.setLoop { s.loop with repeats := rest, out := .sending (.repeated f) }
  | [] => if s.loop.transit.length < 4 then s.startOriginated else s

/-- The arbiter runs when LOOP OUT is free, the loop is HELD and no LEAVE awaits its move (R22). -/
def State.arbitrate (s : State) : State :=
  if s.loop.state = .held ∧ s.loop.leaveAwaiting = false ∧ s.loop.out = .free then s.choose else s

/-! ### The end of a telegram on LOOP OUT (R17, R23) -/

/-- The deadline of a telegram whose last byte has been sent (R17). -/
def Transit.sent (t : Transit) (deadline : Nat) : Transit :=
  match t.deadline with
  | some _ => t
  | none => { t with deadline := some deadline }

/-- The loop unit after a last byte: the gap, and the deadline of the telegram sent (R17, R23). -/
def LoopUnit.lastByte (l : LoopUnit) (ms : Nat) : LoopUnit :=
  { l with out := .gap, transit := l.transit.map fun t => t.sent (ms + l.returnLimit) }

/-- What the end of a sending brings beside the loop unit: a DRIVE's last-sent time (R23, R41) and the start a named ANSWER was
waited for (R190). -/
def State.sendingDone (s : State) (t : Sending) : State :=
  match t with
  | .repeated _ => s
  | .notice _ _ => s
  | .answer _ named => if named then s.requestStart else s
  | .drive _ d _ _ => s.setEntry d { s.entry d with lastTime := some s.ms }

/-- The last byte of the telegram on LOOP OUT is sent (R14, R23). -/
def State.lastByteSent (s : State) : State :=
  match s.loop.out with
  | .sending t =>
    let s1 := (s.setLoop (s.loop.lastByte s.ms)).sendingDone t
    if s1.loop.leaveAwaiting then s1.moveToListen else s1
  | _ => s

/-- The gap after a telegram ends (R23). -/
def State.outFree (s : State) : State :=
  match s.loop.out with
  | .gap => s.setLoop { s.loop with out := .free }
  | _ => s

end Sys2Proof.Machine
end

