-- ==== Sys2Proof/Machine/Read.lean ====
section
/-! DEFINITION. The READ order (R184, R191): the pages of the 13 sections. -/

namespace Sys2Proof.Machine

/-! ### Values as sent (R191) -/

/-- A loop state as sent. -/
def LoopState.byte : LoopState → Byte
  | .search => 0
  | .held => 1
  | .listen => 2

/-- A rate as sent. -/
def Rate.byte : Rate → Byte
  | .r19200 => 0
  | .r9600 => 1
  | .r4800 => 2
  | .r2400 => 3

/-- A class as sent. -/
def DriveClass.byte : DriveClass → Byte
  | .safety => 0
  | .change => 1
  | .feed => 2
  | .lights => 3
  | .refresh => 4

/-- A motion state as sent. -/
def Motion.byte : Motion → Byte
  | .stopped => 0
  | .runup => 1
  | .locked => 2
  | .slow => 3

/-- A lamp state as sent. -/
def LampState.byte : LampState → Byte
  | .dark => 0
  | .striking => 1
  | .burning => 2
  | .failed => 3

/-- A house state as sent. -/
def HouseState.byte : HouseState → Byte
  | .idle => 0
  | .armed => 1
  | .running => 2
  | .interval => 3
  | .ended => 4
  | .halted => 5

/-- A role as sent. -/
def Role.byte : Role → Byte
  | .empty => 0
  | .threaded => 1
  | .starting => 2
  | .showing => 3
  | .tailing => 4

/-- A run-up's purpose as sent. -/
def Purpose.byte : Purpose → Byte
  | .start => 0
  | .incoming => 1
  | .resume => 2

/-- The source of the effective request as sent. -/
def LightSource.byte : LightSource → Byte
  | .fire => 0
  | .fault => 1
  | .operator => 2
  | .shown => 3

/-- A fire state as sent. -/
def FireState.byte : FireState → Byte
  | .clear => 0
  | .alert => 1
  | .fire => 2

/-- A detector condition as sent (R32). -/
def Condition.byte : Condition → Byte
  | .normal => 0
  | .pre => 1
  | .fire => 2
  | .fault => 3

/-- A side as sent (section 10.7). -/
def Side.byte : Side → Byte
  | .a => 0
  | .b => 1

/-- An action byte and a target byte (section 10.7). -/
def Action.bytes : Action → List Byte
  | .pass => [0, 0]
  | .drop => [1, 0]
  | .cue h => [2, BitVec.ofNat 8 h.num]
  | .lamp h => [3, BitVec.ofNat 8 h.num]
  | .sense z => [4, BitVec.ofNat 8 z.num]
  | .panel => [5, 0]

/-- A number in one byte. -/
def byteOf (n : Nat) : Byte := BitVec.ofNat 8 n

/-- A number in three bytes. -/
def be24 (n : Nat) : List Byte := [byteOf (n / 65536), byteOf (n / 256), byteOf n]

/-- A number or none in one byte. -/
def byteOrNone : Option Nat → Byte
  | some n => byteOf n
  | none => 0xFF

/-- A count or none in one byte. -/
def count8OrNone : Option Nat → Byte
  | some n => count8 n
  | none => 0xFF

/-- A count or none in two bytes. -/
def count16OrNone : Option Nat → List Byte
  | some n => count16 n
  | none => [0xFF, 0xFF]

/-- Flags in a byte, bit 0 first. -/
def flagBits (bs : List Bool) : Byte := bs.foldr (fun b acc => (acc <<< 1) ||| flagByte b) 0

/-- A triple as sent. -/
def Triple.bytes (t : Triple) : List Byte := [byteOf t.ceiling, byteOf t.wall, byteOf t.aisle]

/-- The bytes of a section cut into pages of 8 (log entry 10). -/
def twoPages (bs : List Byte) : List (List Byte) := [bs.take 8, bs.drop 8]

/-! ### The sections -/

/-- Section 1, a reaction entry with its match count (R34, section 10.7). -/
def State.reactionPages (s : State) (i : Fin 32) : List (List Byte) :=
  let e := s.matcher.table.get i
  twoPages
    ([flagBits [e.inUse, e.consume, e.protect, e.lockMark], e.source, e.kind, e.selValue, e.selMask] ++ e.action.bytes ++
      be16 (s.matcher.counts.get i))

/-- The class byte of a map entry; a clean entry has no class, and its byte is free (R38; log entry 9). -/
def State.classByte (s : State) (e : DriveEntry) : Byte :=
  match e.dirty with
  | some w => w.cls.byte
  | none => Config.cleanClassByte s.freeCount

/-- A commanded value in 3 bytes, unused bytes 0 (R184; log entry 24). -/
def DriveVal.threeBytes (v : DriveVal) : List Byte := (v.bytes ++ [0, 0]).take 3

/-- Section 2, a map entry (R38). -/
def State.mapPages (s : State) (d : DriveId) : List (List Byte) :=
  let e := s.entry d
  [[e.station, e.fn] ++ e.value.threeBytes ++ [flagByte e.dirty.isSome, s.classByte e]]

/-- A record as WRITE REEL lays it out, less the index (section 10.7). -/
def Reel.bytes (r : Reel) : List Byte :=
  let c := r.light.getD { position := 0, fade := 0 }
  [flagBits [r.side == .b, r.intervalAfter, r.showEnd, r.light.isSome]] ++ be16 r.last ++ be16 r.motorCue ++ be16 r.changeCue ++
    [byteOf r.window, byteOf c.position, byteOf c.fade]

/-- The reel number of an index (R90). -/
def Programme.reelNumber (p : Programme) (i : Nat) : Nat := i - p.first (p.owner i) + 1

/-- Section 3, a reel record (R101). -/
def State.reelPages (s : State) (i : Fin 64) : List (List Byte) :=
  let p := s.programme
  twoPages
    ((p.record i).bytes ++
      [byteOf (p.owner i).num, byteOf (p.reelNumber i), flagByte (s.recordInUse i), flagByte (p.inProgramme i)])

/-- Section 4, the nine items of a lamp record (R65). -/
def State.lampRecordPages (s : State) (h : Head) : List (List Byte) :=
  let r := (s.lamp h).record
  [r.target, r.base, r.kp, r.ki, r.fmax, r.imin, r.trimLength, r.lowMargin, r.strikeLimit].map be16

/-- Page 3 of the lamp state: the last sample (R88). -/
def sampleBytes (x : Option Sample) (ms : Nat) : List Byte :=
  match x with
  | none => List.replicate 6 0xFF
  | some x => be16 x.voltage ++ [byteOf x.current, flagByte x.endSwitch] ++ count16 (ms - x.moment)

/-- The FEED entry's commanded value (R88). -/
def DriveVal.feedRate : DriveVal → Nat
  | .feed n => n
  | _ => 0

/-- Section 5, a lamp's state (R88). -/
def State.lampStatePages (s : State) (h : Head) : List (List Byte) :=
  let l := s.lamp h
  [ [l.state.byte] ++ be16 l.rod ++ be16 l.rem ++ [hiByte (BitVec.ofInt 16 l.acc), loByte (BitVec.ofInt 16 l.acc), flagByte l.stale],
    be16 l.rate ++ be16 (s.entry (.feed h)).value.feedRate ++
      [flagByte l.carbonLow, count8OrNone (l.strikeTimer.map fun d => secondsLeft d s.ms)],
    sampleBytes l.sample s.ms ]

/-- A request's position and fade time, 0 for one not present (section 10.7). -/
def requestBytes : Option LightReq → List Byte
  | some q => [byteOf q.position, byteOf q.fade]
  | none => [0, 0]

/-- The requests present, in a byte (section 10.7). -/
def Requests.presentByte (r : Requests) : Byte := flagBits [r.fire.isSome, r.fault.isSome, r.operator.isSome, true]

/-- Section 6, a curve entry and the light unit (R150). -/
def State.curvePages (s : State) (k : House) (i : Fin 64) : List (List Byte) :=
  let l := s.light k
  let r := l.requests
  let f := l.fade.getD { p0 := 0, target := 0, n := 0, k := 0, began := 0 }
  [ (l.curve.get i).bytes ++ [byteOf l.position, r.effective.1.byte, r.presentByte] ++ requestBytes r.fire,
    requestBytes r.fault ++ requestBytes r.operator ++ requestBytes (some r.shown) ++ [byteOf f.p0, byteOf f.target],
    [byteOf f.n, byteOf f.k] ++ l.lastTriple.bytes ++ [byteOf l.pointer, byteOf l.holder.length] ]

/-- The value of a settings item that names a head (R185). -/
def State.headItem (s : State) (item : Nat) (h : Head) : Option Nat :=
  let m := s.mon h
  match item with
  | 5 => some m.inService.toNat
  | 6 => some m.fps
  | 7 => some m.stopLimit
  | 8 => some m.idleLimit
  | _ => none

/-- The value of a settings item that names a house (R185). -/
def State.houseItem (s : State) (item : Nat) (k : House) : Option Nat :=
  let e := s.eng k
  let l := s.light k
  match item with
  | 9 => some e.runupLimit
  | 10 => some e.strikeLead
  | 11 => some e.runout
  | 12 => some l.idlePos
  | 13 => some l.faultPos
  | 14 => some l.intervalPos
  | 15 => some l.endPos
  | 16 => some l.fastFade
  | _ => none

/-- The value of a unit-wide settings item (R185). -/
def State.unitItem (s : State) (item : Nat) : Option Nat :=
  match item with
  | 1 => some s.loop.guardTime
  | 2 => some s.loop.returnLimit
  | 3 => some s.drive.refreshPeriod
  | 4 => some s.loop.console.toNat
  | 17 => some s.fire.holdTime
  | 18 => some s.fire.confirmWindow
  | 19 => some s.panel.guardTime
  | 20 => some s.notices.quietTime
  | 21 => some s.orders.own.toNat
  | 22 => some s.orders.addressLock.toNat
  | 23 => some s.matcher.writeLock.toNat
  | 24 => some s.programme.split
  | _ => none

/-- Section 7, a settings item (R185). -/
def State.settingsPages (s : State) (a b : Byte) : Option (List (List Byte)) :=
  let item := a.toNat
  let value :=
    if 5 ≤ item ∧ item ≤ 8 then (headOf b).bind (s.headItem item)
    else if 9 ≤ item ∧ item ≤ 16 then (houseOf b).bind (s.houseItem item)
    else s.unitItem item
  value.map fun v => [be16 v]

/-- The 46 counters in number order (R184). -/
def State.counterList (s : State) : List Nat :=
  let c := s.loop.counters
  [c.brk, c.length, c.check, c.overrun, c.lost, c.clash, c.answerDrop] ++ s.matcher.counts.cells ++ [s.matcher.malformed] ++
    (s.monitors.toList.map Monitor.overspeed) ++ (s.engines.toList.map Engine.stray)

/-- Section 8, a counter and the next two (R184). -/
def State.counterPages (s : State) (a : Byte) : Option (List (List Byte)) :=
  if a.toNat ≤ 45 then some [((s.counterList.drop a.toNat).take 3).flatMap be16] else none

/-- Section 9, the loop state (section 10.7). -/
def State.loopPages (s : State) : List (List Byte) :=
  let l := s.loop
  [ [l.state.byte, l.rate.byte, flagByte l.latch, flagByte l.leaveAwaiting, s.orders.own, byteOf l.transit.length,
      byteOf l.repeats.length, byteOf l.fifo.length] ]

/-- A head's role and record held (section 10.7). -/
def Slot.bytes (x : Slot) : List Byte := [x.role.byte, byteOrNone x.held]

/-- A run-up as sent (section 10.7). -/
def runupBytes (r : Option Runup) (ms : Nat) : List Byte :=
  match r with
  | some r => [byteOf r.head.num, r.purpose.byte, count8 (secondsLeft r.deadline ms)]
  | none => [0xFF, 0xFF, 0xFF]

/-- Section 10, a house's state (R132). -/
def State.housePages (s : State) (k : House) : List (List Byte) :=
  let e := s.eng k
  [ [e.state.byte, byteOf e.cur, BitVec.ofInt 8 e.highest] ++ (s.slot (k.head .a)).bytes ++ (s.slot (k.head .b)).bytes ++
      [flagByte e.strikeDone],
    [flagByte e.motorTaken, flagByte e.changeTaken, flagByte e.changePending, flagByte e.dark, flagByte e.faultClaim] ++
      runupBytes e.runup s.ms ]

/-- Section 11, a head monitor (R62). -/
def State.monitorPages (s : State) (h : Head) : List (List Byte) :=
  let m := s.mon h
  [ [flagByte m.inService, m.motion.byte, byteOf m.streak] ++ be24 m.counter ++ count16OrNone m.interval,
    be16 (speedOf m.interval) ++ be16 m.overspeed ++ [flagByte m.hold, byteOf m.fps] ++ be16 m.stopLimit,
    be16 m.idleLimit ++ count16OrNone (m.idleTimer.map fun d => secondsLeft d s.ms) ]

/-- An entry of a detector list as sent (R168). -/
def Detector.bytes (d : Detector) (ms : Nat) : List Byte :=
  [d.source, byteOf d.zone.num, d.condition.byte] ++ count16 (ms - d.lastHeard) ++
    count16OrNone (d.preSince.map fun t => ms - t) ++ [count8 (secondsLeft d.deadline ms)]

/-- Section 12, a house's fire state (R168). -/
def State.firePages (s : State) (k : House) : List (List Byte) :=
  let f := s.fireOf k
  [f.state.byte, flagByte f.latch, flagByte f.linkOpen, flagByte f.port, flagByte f.gate, byteOf f.detectors.length] ::
    f.detectors.map fun d => d.bytes s.ms

/-- The cause record of an event as sent (section 10.7). -/
def NoticeUnit.causePage (n : NoticeUnit) (e : Event) : List Byte :=
  let r := n.causes.get e.num
  causeBytes r.cause ++ [codeByte e r.code, count8 r.count]

/-- The 16 events in bit order (R174). -/
def allEvents : List Event :=
  [.fire1, .fire2, .alert, .shutter, .pictureLost, .lateIncoming, .runupFail, .cueMissed, .carbonLow, .carbonEnd, .arcFail,
    .showDone, .notThreaded, .loop, .panelLost, .restarted]

/-- Section 13, the notice set (R181). -/
def State.noticePages (s : State) : List (List Byte) :=
  let n := s.notices
  let m := s.panel.last
  [ [hiByte n.pending, loByte n.pending, hiByte n.mask, loByte n.mask, flagByte n.alert] ++
      count16OrNone (n.quietTimer.map fun d => d - s.ms) ++ [flagByte s.panel.present],
    [m.house1, m.house2, m.head, m.common] ] ++ allEvents.map n.causePage

/-! ### Judging READ (R184) -/

/-- The answer to a READ of a section whose pages are given, none for a selector out of range. -/
def pageReply (sec page : Byte) (pages : Option (List (List Byte))) : Reply :=
  let content := if page.toNat = 0 then none else pages.bind fun ps => ps[page.toNat - 1]?
  match content with
  | some bs => { result := .done, data := [sec, page] ++ bs }
  | none => Reply.plain .badIndex

/-- READ of a reaction entry. -/
def judgeReadReaction (a page : Byte) (s : State) : State × Reply :=
  (s, pageReply 1 page ((toIndex 32 a.toNat).map s.reactionPages))

/-- READ of a map entry; it draws a free value (log entry 9). -/
def judgeReadMap (a page : Byte) (s : State) : State × Reply :=
  let r := pageReply 2 page ((driveAt a.toNat).map s.mapPages)
  (if r.result = .done then { s with freeCount := s.freeCount + 1 } else s, r)

/-- READ of a reel record. -/
def judgeReadReel (a page : Byte) (s : State) : State × Reply :=
  (s, pageReply 3 page ((toIndex 64 a.toNat).map s.reelPages))

/-- READ of a lamp record. -/
def judgeReadLampRecord (a page : Byte) (s : State) : State × Reply :=
  (s, pageReply 4 page ((headOf a).map s.lampRecordPages))

/-- READ of a lamp's state. -/
def judgeReadLampState (a page : Byte) (s : State) : State × Reply :=
  (s, pageReply 5 page ((headOf a).map s.lampStatePages))

/-- READ of a curve entry, accepted: the house's partial triple is discarded (R150). -/
def judgeReadCurve (a b page : Byte) (s : State) : State × Reply :=
  match houseOf a, toIndex 64 b.toNat with
  | some k, some i =>
    let r := pageReply 6 page (some (s.curvePages k i))
    (if r.result = .done then s.discardPartial k else s, r)
  | _, _ => (s, Reply.plain .badIndex)

/-- READ of a settings item. -/
def judgeReadSettings (a b page : Byte) (s : State) : State × Reply := (s, pageReply 7 page (s.settingsPages a b))

/-- READ of counters. -/
def judgeReadCounters (a page : Byte) (s : State) : State × Reply := (s, pageReply 8 page (s.counterPages a))

/-- READ of the loop state. -/
def judgeReadLoop (page : Byte) (s : State) : State × Reply := (s, pageReply 9 page (some s.loopPages))

/-- READ of a house's state. -/
def judgeReadHouse (a page : Byte) (s : State) : State × Reply := (s, pageReply 10 page ((houseOf a).map s.housePages))

/-- READ of a head monitor. -/
def judgeReadMonitor (a page : Byte) (s : State) : State × Reply := (s, pageReply 11 page ((headOf a).map s.monitorPages))

/-- READ of a house's fire state. -/
def judgeReadFire (a page : Byte) (s : State) : State × Reply := (s, pageReply 12 page ((houseOf a).map s.firePages))

/-- READ of the notice set. -/
def judgeReadNotices (page : Byte) (s : State) : State × Reply := (s, pageReply 13 page (some s.noticePages))

/-- READ judged (R184). -/
def judgeRead (sec a b page : Byte) (s : State) : State × Reply :=
  match sec.toNat with
  | 1 => judgeReadReaction a page s
  | 2 => judgeReadMap a page s
  | 3 => judgeReadReel a page s
  | 4 => judgeReadLampRecord a page s
  | 5 => judgeReadLampState a page s
  | 6 => judgeReadCurve a b page s
  | 7 => judgeReadSettings a b page s
  | 8 => judgeReadCounters a page s
  | 9 => judgeReadLoop page s
  | 10 => judgeReadHouse a page s
  | 11 => judgeReadMonitor a page s
  | 12 => judgeReadFire a page s
  | 13 => judgeReadNotices page s
  | _ => (s, Reply.plain .badIndex)

end Sys2Proof.Machine
end

