-- ==== Sys2Proof/Machine/Setup.lean ====
section
/-! DEFINITION. The SETUP order, one judgement for each of its 20 items (R185). -/

namespace Sys2Proof.Machine

/-- A unit-wide tuning value set (R185). -/
def setUnit (lo hi : Nat) (value : Word) (put : Nat → State → State) (s : State) : State × Reply :=
  let t := tuned lo hi value.toNat
  (put t.1 s, t.2)

/-- A head's tuning value set (R61, R185). -/
def setHeadValue (lo hi : Nat) (index : Byte) (value : Word) (put : Nat → Monitor → Monitor) (s : State) : State × Reply :=
  match headOf index with
  | none => (s, Reply.plain .badIndex)
  | some h =>
    let t := tuned lo hi value.toNat
    (s.setMon h (put t.1 (s.mon h)), t.2)

/-- A house's tuning value in its engine set (R131, R185). -/
def setEngineValue (lo hi : Nat) (index : Byte) (value : Word) (put : Nat → Engine → Engine) (s : State) : State × Reply :=
  match houseOf index with
  | none => (s, Reply.plain .badIndex)
  | some k =>
    let t := tuned lo hi value.toNat
    (s.setEng k (put t.1 (s.eng k)), t.2)

/-- A house's light setting set; its partial triple is discarded (R149, R141). -/
def setLightValue (index : Byte) (value : Word) (put : Nat → LightUnit → LightUnit) (s : State) : State × Reply :=
  match houseOf index with
  | none => (s, Reply.plain .badIndex)
  | some k =>
    let t := tuned 0 255 value.toNat
    ((s.setLight k (put t.1 (s.light k))).discardPartial k, t.2)

/-- Item 1, loop guard time (R13). -/
def judgeSetupGuard (value : Word) (s : State) : State × Reply :=
  setUnit 500 5000 value (fun v t => t.setLoop { t.loop with guardTime := v }) s

/-- Item 2, return limit (R17). -/
def judgeSetupReturn (value : Word) (s : State) : State × Reply :=
  setUnit 100 2000 value (fun v t => t.setLoop { t.loop with returnLimit := v }) s

/-- Item 3, refresh period (R42). -/
def judgeSetupRefresh (value : Word) (s : State) : State × Reply :=
  setUnit 500 10000 value (fun v t => { t with drive := { t.drive with refreshPeriod := v } }) s

/-- Item 4, console address (R21, R185). -/
def judgeSetupConsole (value : Word) (s : State) : State × Reply :=
  if 1 ≤ value.toNat ∧ value.toNat ≤ 30 then (s.setLoop { s.loop with console := loByte value }, Reply.plain .done)
  else (s, Reply.plain .badValue)

/-- Item 5, service flag (R58). -/
def judgeSetupService (index : Byte) (value : Word) (s : State) : State × Reply :=
  match headOf index with
  | none => (s, Reply.plain .badIndex)
  | some h =>
    match flagOf value.toNat with
    | none => (s, Reply.plain .badValue)
    | some v => (s.setService h v, Reply.plain .done)

/-- Item 6, nominal rate (R61). -/
def judgeSetupRate (index : Byte) (value : Word) (s : State) : State × Reply :=
  setHeadValue 16 30 index value (fun v m => { m with fps := v }) s

/-- Item 7, stop limit (R61). -/
def judgeSetupStop (index : Byte) (value : Word) (s : State) : State × Reply :=
  setHeadValue 200 2000 index value (fun v m => { m with stopLimit := v }) s

/-- Item 8, idle limit (R61). -/
def judgeSetupIdle (index : Byte) (value : Word) (s : State) : State × Reply :=
  setHeadValue 10 600 index value (fun v m => { m with idleLimit := v }) s

/-- Item 9, run-up limit (R131). -/
def judgeSetupRunup (index : Byte) (value : Word) (s : State) : State × Reply :=
  setEngineValue 2 30 index value (fun v e => { e with runupLimit := v }) s

/-- Item 10, strike lead (R131). -/
def judgeSetupLead (index : Byte) (value : Word) (s : State) : State × Reply :=
  setEngineValue 0 120 index value (fun v e => { e with strikeLead := v }) s

/-- Item 11, runout (R131). -/
def judgeSetupRunout (index : Byte) (value : Word) (s : State) : State × Reply :=
  setEngineValue 0 960 index value (fun v e => { e with runout := v }) s

/-- Item 12, idle position (R149). -/
def judgeSetupIdlePos (index : Byte) (value : Word) (s : State) : State × Reply :=
  setLightValue index value (fun v l => { l with idlePos := v }) s

/-- Item 13, fault position (R149). -/
def judgeSetupFaultPos (index : Byte) (value : Word) (s : State) : State × Reply :=
  setLightValue index value (fun v l => { l with faultPos := v }) s

/-- Item 14, interval position (R149). -/
def judgeSetupIntervalPos (index : Byte) (value : Word) (s : State) : State × Reply :=
  setLightValue index value (fun v l => { l with intervalPos := v }) s

/-- Item 15, end position (R149). -/
def judgeSetupEndPos (index : Byte) (value : Word) (s : State) : State × Reply :=
  setLightValue index value (fun v l => { l with endPos := v }) s

/-- Item 16, fast fade time (R149). -/
def judgeSetupFastFade (index : Byte) (value : Word) (s : State) : State × Reply :=
  setLightValue index value (fun v l => { l with fastFade := v }) s

/-- Item 17, detector hold time, closed by the write lock (R37, R167). -/
def judgeSetupHold (value : Word) (s : State) : State × Reply :=
  if s.matcher.writeLock then (s, Reply.plain .locked)
  else setUnit 2 60 value (fun v t => { t with fire := { t.fire with holdTime := v } }) s

/-- Item 18, confirm window, closed by the write lock (R37, R167). -/
def judgeSetupWindow (value : Word) (s : State) : State × Reply :=
  if s.matcher.writeLock then (s, Reply.plain .locked)
  else setUnit 5 120 value (fun v t => { t with fire := { t.fire with confirmWindow := v } }) s

/-- Item 19, panel guard time (R170). -/
def judgeSetupPanel (value : Word) (s : State) : State × Reply :=
  setUnit 500 5000 value (fun v t => { t with panel := { t.panel with guardTime := v } }) s

/-- Item 20, quiet time (R174). -/
def judgeSetupQuiet (value : Word) (s : State) : State × Reply :=
  setUnit 100 5000 value (fun v t => t.setNotices { t.notices with quietTime := v }) s

/-- SETUP judged (R185). -/
def judgeSetup (item index : Byte) (value : Word) (s : State) : State × Reply :=
  match item.toNat with
  | 1 => judgeSetupGuard value s
  | 2 => judgeSetupReturn value s
  | 3 => judgeSetupRefresh value s
  | 4 => judgeSetupConsole value s
  | 5 => judgeSetupService index value s
  | 6 => judgeSetupRate index value s
  | 7 => judgeSetupStop index value s
  | 8 => judgeSetupIdle index value s
  | 9 => judgeSetupRunup index value s
  | 10 => judgeSetupLead index value s
  | 11 => judgeSetupRunout index value s
  | 12 => judgeSetupIdlePos index value s
  | 13 => judgeSetupFaultPos index value s
  | 14 => judgeSetupIntervalPos index value s
  | 15 => judgeSetupEndPos index value s
  | 16 => judgeSetupFastFade index value s
  | 17 => judgeSetupHold value s
  | 18 => judgeSetupWindow value s
  | 19 => judgeSetupPanel value s
  | 20 => judgeSetupQuiet value s
  | _ => (s, Reply.plain .badIndex)

end Sys2Proof.Machine
end

