-- ==== Sys2Proof/Machine/Orders.lean ====
section
/-! DEFINITION. The order processor (Chapter 10): show functions, address, counters, restart, and the answer to every order. -/

namespace Sys2Proof.Machine

/-! ### SHOW (R186) -/

/-- A function that names a house: the start index refused, then the house looked up (R186). -/
def houseShow (target : Byte) (start : Option Byte) (run : House → State → State × Result) (s : State) : State × Reply :=
  if start.isSome then (s, Reply.plain .badOrder)
  else
    match houseOf target with
    | none => (s, Reply.plain .badIndex)
    | some k =>
      let r := run k s
      (r.1, Reply.plain r.2)

/-- A function that names a head (R186). -/
def headShow (target : Byte) (start : Option Byte) (run : Head → State → State × Result) (s : State) : State × Reply :=
  if start.isSome then (s, Reply.plain .badOrder)
  else
    match headOf target with
    | none => (s, Reply.plain .badIndex)
    | some h =>
      let r := run h s
      (r.1, Reply.plain r.2)

/-- SHOW, function ARM, with or without a start index (R106). -/
def judgeArm (target : Byte) (start : Option Byte) (s : State) : State × Reply :=
  match houseOf target with
  | none => (s, Reply.plain .badIndex)
  | some k =>
    let r := s.arm k (start.map BitVec.toNat)
    (r.1, Reply.plain r.2)

/-- SHOW, function START (R112). -/
def judgeStart (target : Byte) (start : Option Byte) (s : State) : State × Reply :=
  houseShow target start (fun k t => t.start k) s

/-- SHOW, function CHANGE (R117). -/
def judgeChange (target : Byte) (start : Option Byte) (s : State) : State × Reply :=
  houseShow target start (fun k t => t.change k) s

/-- SHOW, function HALT (R129). -/
def judgeHalt (target : Byte) (start : Option Byte) (s : State) : State × Reply :=
  houseShow target start (fun k t => t.haltFunction k) s

/-- SHOW, function RESUME (R130). -/
def judgeResume (target : Byte) (start : Option Byte) (s : State) : State × Reply :=
  houseShow target start (fun k t => t.resume k) s

/-- SHOW, function LIGHTS UP; the partial triple is discarded (R143, R186). -/
def judgeLightsUp (target : Byte) (start : Option Byte) (s : State) : State × Reply :=
  houseShow target start (fun k t => ((t.lightsUp k).discardPartial k, .done)) s

/-- SHOW, function LIGHTS DOWN; the partial triple is discarded (R143, R186). -/
def judgeLightsDown (target : Byte) (start : Option Byte) (s : State) : State × Reply :=
  houseShow target start (fun k t => ((t.lightsDown k).discardPartial k, .done)) s

/-- SHOW, function LIGHTS AUTO; the partial triple is discarded (R143, R186). -/
def judgeLightsAuto (target : Byte) (start : Option Byte) (s : State) : State × Reply :=
  houseShow target start (fun k t => ((t.lightsAuto k).discardPartial k, .done)) s

/-- SHOW, function THREAD (R107). -/
def judgeThread (target : Byte) (start : Option Byte) (s : State) : State × Reply :=
  headShow target start (fun h t => t.thread h) s

/-- SHOW, function STRIKE: an ignored request is refused (R67). -/
def judgeStrike (target : Byte) (start : Option Byte) (s : State) : State × Reply :=
  headShow target start (fun h t => if t.strikeIgnored h then (t, .badState) else (t.strikeRequest h, .done)) s

/-- SHOW, function FIRE DROP (R162). -/
def judgeFireDrop (target : Byte) (start : Option Byte) (s : State) : State × Reply :=
  houseShow target start (fun k t => (t.fireDrop k, .done)) s

/-- SHOW, function FIRE RESET (R165). -/
def judgeFireReset (target : Byte) (start : Option Byte) (s : State) : State × Reply :=
  houseShow target start (fun k t => t.fireReset k) s

/-- SHOW judged (R186). -/
def judgeShow (fn target : Byte) (start : Option Byte) (s : State) : State × Reply :=
  match fn.toNat with
  | 1 => judgeArm target start s
  | 2 => judgeStart target start s
  | 3 => judgeChange target start s
  | 4 => judgeHalt target start s
  | 5 => judgeResume target start s
  | 6 => judgeLightsUp target start s
  | 7 => judgeLightsDown target start s
  | 8 => judgeLightsAuto target start s
  | 9 => judgeThread target start s
  | 10 => judgeStrike target start s
  | 11 => judgeFireDrop target start s
  | 12 => judgeFireReset target start s
  | _ => (s, Reply.plain .badValue)

/-! ### Address, notices and counters (R187 to R189) -/

/-- ADDRESS judged (R188). -/
def judgeAddress (a lockFlag : Byte) (s : State) : State × Reply :=
  if s.orders.addressLock then (s, Reply.plain .locked)
  else if ¬ (1 ≤ a.toNat ∧ a.toNat ≤ 30) then (s, Reply.plain .badValue)
  else
    match flagOf lockFlag.toNat with
    | none => (s, Reply.plain .badValue)
    | some b => ({ s with orders := { s.orders with own := a, addressLock := b } }, Reply.plain .done)

/-- ACK judged (R187). -/
def judgeAck (marks : Word) (s : State) : State × Reply := (s.acknowledge marks, Reply.plain .done)

/-- MASK judged (R187). -/
def judgeMask (marks : Word) (s : State) : State × Reply := (s.setMask marks, Reply.plain .done)

/-- ENDALERT judged (R187). -/
def judgeEndAlert (s : State) : State × Reply := (s.endOfAlert, Reply.plain .done)

/-- All 46 counters set to 0 (R189). -/
def State.clearCounters (s : State) : State :=
  { s with
    loop := { s.loop with counters := LoopCounters.zero }
    matcher := { s.matcher with counts := Table.replicate 32 0, malformed := 0 }
    monitors := s.monitors.map fun m => { m with overspeed := 0 }
    engines := s.engines.map fun e => { e with stray := 0 } }

/-- CLEAR COUNTERS judged (R189). -/
def judgeClearCounters (s : State) : State × Reply := (s.clearCounters, Reply.plain .done)

/-- LEAVE judged (R14). -/
def judgeLeave (s : State) : State × Reply := (s.leaveRing, Reply.plain .done)

/-- JOIN judged (R15). -/
def judgeJoin (s : State) : State × Reply := (s.joinRing, Reply.plain .done)

/-! ### Every order (R182) -/

/-- An order judged; RESTART's wait is set by `answerOrder`, which queues the ANSWER it names (R190). -/
def judgeOrder (o : Order) (s : State) : State × Reply :=
  match o with
  | .read sec a b page => judgeRead sec a b page s
  | .writeReact p => judgeWriteReact p s
  | .writeMap i st fn => judgeWriteMap i st fn s
  | .writeReel p => judgeWriteReel p s
  | .writeLamp h item v => judgeWriteLamp h item v s
  | .setup item index v => judgeSetup item index v s
  | .curvePoint k e => judgeCurvePoint k e s
  | .curveData k bs => judgeCurveData k bs s
  | .trim h n => judgeTrim h n s
  | .splitPoint n => judgeSplit n s
  | .address a l => judgeAddress a l s
  | .lock => judgeLock s
  | .showFn fn t st => judgeShow fn t st s
  | .ack m => judgeAck m s
  | .endAlert => judgeEndAlert s
  | .mask m => judgeMask m s
  | .leave => judgeLeave s
  | .join => judgeJoin s
  | .clearCounters => judgeClearCounters s
  | .restart => (s, Reply.plain .done)
  | .bad _ => (s, Reply.plain .badOrder)

/-- The payload of an ANSWER (R182, section 10.7). -/
def answerPayload (code : Byte) (r : Reply) : List Byte := [code, r.result.code] ++ r.data

/-- The judgement made and its ANSWER queued (R182). -/
def answerOrder (src code : Byte) (run : State → State × Reply) (s : State) : State :=
  let r := run s
  r.1.enqueue (.answer src (answerPayload code r.2) false)

/-- RESTART taken: in HELD the wait is set, naming the ANSWER queued; in LISTEN the start is requested at once (R190). A second
RESTART while the wait is set changes nothing more. -/
def takeRestart (src : Byte) (s : State) : State :=
  let payload := answerPayload 0x15 (Reply.plain .done)
  match s.orders.restart with
  | .clear =>
    if s.loop.state = .held then
      let s1 := s.enqueue (.answer src payload true)
      s1.setRestart .waiting
    else (s.enqueue (.answer src payload false)).setRestart .requested
  | _ => s.enqueue (.answer src payload false)

/-- An order taken by the order processor (R182). -/
def takeOrder (src : Byte) (o : Order) (s : State) : State :=
  match o with
  | .restart => takeRestart src s
  | o => answerOrder src o.code (judgeOrder o) s

end Sys2Proof.Machine
end

