-- ==== Sys2Proof/Machine/Store.lean ====
section
/-! DEFINITION. The retained store (section 11.1): its contents as bytes, their check sum, and the contents of a cold start. -/

namespace Sys2Proof.Machine

/-- A reaction entry in the store. -/
def ReactEntry.stored (e : ReactEntry) : List Byte :=
  [flagBits [e.inUse, e.consume, e.protect, e.lockMark], e.source, e.kind, e.selValue, e.selMask] ++ e.action.bytes

/-- A lamp record and rod remaining in the store. -/
def Lamp.stored (l : Lamp) : List Byte :=
  let r := l.record
  [r.target, r.base, r.kp, r.ki, r.fmax, r.imin, r.trimLength, r.lowMargin, r.strikeLimit, l.rod].flatMap be16

/-- A curve and light settings in the store. -/
def LightUnit.stored (l : LightUnit) : List Byte :=
  l.curve.cells.flatMap Triple.bytes ++ [l.idlePos, l.faultPos, l.intervalPos, l.endPos, l.fastFade].map byteOf

/-- A head's service flag and settings in the store. -/
def Monitor.stored (m : Monitor) : List Byte := [flagByte m.inService, byteOf m.fps] ++ be16 m.stopLimit ++ be16 m.idleLimit

/-- A house's engine settings in the store. -/
def Engine.stored (e : Engine) : List Byte := [byteOf e.runupLimit, byteOf e.strikeLead] ++ be16 e.runout

/-- The bytes of the retained contents, in the order of R192's table (R192; log entry 7). -/
def State.retained (s : State) : List Byte :=
  s.matcher.table.cells.flatMap ReactEntry.stored ++ [flagByte s.matcher.writeLock] ++
    s.drive.entries.cells.flatMap (fun e => [e.station, e.fn]) ++
    s.programme.reels.cells.flatMap Reel.bytes ++ [byteOf s.programme.split] ++
    s.lamps.toList.flatMap Lamp.stored ++ s.lights.toList.flatMap LightUnit.stored ++
    [s.orders.own, flagByte s.orders.addressLock, s.loop.console] ++
    be16 s.loop.guardTime ++ be16 s.loop.returnLimit ++ be16 s.drive.refreshPeriod ++
    s.monitors.toList.flatMap Monitor.stored ++ s.engines.toList.flatMap Engine.stored ++
    [byteOf s.fire.holdTime, byteOf s.fire.confirmWindow, flagByte s.fire.house.one.latch, flagByte s.fire.house.two.latch] ++
    be16 s.panel.guardTime ++ [hiByte s.notices.mask, loByte s.notices.mask] ++ be16 s.notices.quietTime

/-- The sum of bytes modulo 65536 (R192). -/
def storeSum (bs : List Byte) : Word := BitVec.ofNat 16 (bs.foldl (fun n b => n + b.toNat) 0)

/-- The contents written with a fresh check sum (R192). -/
def State.writeStore (s : State) : State := { s with checkSum := storeSum s.retained }

/-- The store written within the event that changed its contents; an event that leaves them alone leaves the check sum (R192). -/
def State.sealFrom (s before : State) : State :=
  { s with checkSum := if s.retained = before.retained then before.checkSum else storeSum s.retained }

/-- Whether the store's sum verifies (R194). -/
def State.sumVerifies (s : State) : Bool := storeSum s.retained == s.checkSum

/-- The delivered contents of a cold start, written with a fresh check sum (R192). -/
def State.defaulted (s : State) : State :=
  State.writeStore
    { s with
      loop := { s.loop with guardTime := 1500, returnLimit := 500, console := Config.consoleAddress }
      matcher := { s.matcher with table := Table.replicate 32 ReactEntry.cold, writeLock := false }
      drive := DriveTable.cold (PerHouse.all ⟨255, 255, 255⟩) s.ms
      monitors := s.monitors.map fun m =>
        { m with inService := true, fps := 24, stopLimit := 400, idleLimit := 120 }
      lamps := s.lamps.map fun l => { l with record := LampRecord.delivered, rod := 9000 }
      programme := Programme.cold
      engines := s.engines.map fun e => { e with runupLimit := 10, strikeLead := 40, runout := 192 }
      lights := s.lights.map fun l =>
        { l with
          curve := Table.ofIndex 64 defaultTriple, idlePos := 255, faultPos := 128, intervalPos := 160, endPos := 255, fastFade := 20 }
      fire :=
        { house := s.fire.house.map fun f => { f with latch := false }
          holdTime := 10, confirmWindow := 30 }
      panel := { s.panel with guardTime := 2000 }
      notices := { s.notices with mask := 0, quietTime := 1000 }
      orders := { s.orders with own := Config.ownAddress, addressLock := false } }

end Sys2Proof.Machine
end

