-- ==== Sys2Proof/Machine/Start.lean ====
section
/-! DEFINITION. Stopping and starting (Chapter 11). -/

namespace Sys2Proof.Machine

/-! ### The stop (R193) -/

/-- The stop begins: the direct lines are safe and the part takes no event (R193; log entry 23). -/
def State.beginStop (s : State) : State :=
  { s with
    monitors := s.monitors.map fun m => { m with hold := false }
    lamps := s.lamps.map fun l => { l with contactor := false }
    fire := { s.fire with house := s.fire.house.map fun f => { f with port := false } }
    notices := { s.notices with alert := false }
    loop := { s.loop with bypass := true, rx := .seeking, out := .free }
    starter := { s.starter with stopped := true } }

/-! ### Initialization of the owners (R195 step 3) -/

/-- The loop unit at a start (R24). -/
def LoopUnit.initial (l : LoopUnit) (ms : Nat) : LoopUnit :=
  { LoopUnit.cold ms with guardTime := l.guardTime, returnLimit := l.returnLimit, console := l.console }

/-- The matcher's counters at a start (R34). -/
def Matcher.initial (m : Matcher) : Matcher := { m with counts := Table.replicate 32 0, malformed := 0 }

/-- A head monitor at a start (R63). -/
def Monitor.initial (m : Monitor) : Monitor :=
  { Monitor.cold with inService := m.inService, fps := m.fps, stopLimit := m.stopLimit, idleLimit := m.idleLimit }

/-- A lamp regulator at a start (R89). -/
def Lamp.initial (l : Lamp) : Lamp := { Lamp.cold with record := l.record, rod := l.rod }

/-- A changeover engine at a start (R133). -/
def Engine.initial (e : Engine) (first : Nat) : Engine :=
  { Engine.cold first with runupLimit := e.runupLimit, strikeLead := e.strikeLead, runout := e.runout }

/-- A light unit at a start (R151). -/
def LightUnit.initial (l : LightUnit) : LightUnit :=
  { l with
    pointer := 0, holder := [], position := l.idlePos, fade := none, lastTriple := l.lookup l.idlePos
    requests := { fire := none, fault := none, operator := none, shown := { position := l.idlePos, fade := 0 } } }

/-- A house's part of the fire unit before the evaluation (R169). -/
def FireHouse.initial (f : FireHouse) (linkOpen : Bool) : FireHouse :=
  { state := .clear, latch := f.latch, detectors := [], linkOpen := linkOpen, port := false, gate := false }

/-- The panel decoder at a start (R170). -/
def Panel.initial (p : Panel) : Panel := { Panel.cold with guardTime := p.guardTime }

/-- The notice unit at a start (R181). -/
def NoticeUnit.initial (n : NoticeUnit) : NoticeUnit :=
  { n with pending := 0, causes := Table.replicate 16 CauseRecord.vacant, alert := false, quietTimer := none }

/-- Every owner initialized from the retained contents (R195 step 3). -/
def State.initOwners (s : State) : State :=
  { s with
    loop := s.loop.initial s.ms
    matcher := s.matcher.initial
    monitors := s.monitors.map Monitor.initial
    lamps := s.lamps.map Lamp.initial
    slots := PerHead.all Slot.vacant
    engines := ⟨s.engines.one.initial (s.programme.first .one), s.engines.two.initial (s.programme.first .two)⟩
    lights := s.lights.map LightUnit.initial
    fire :=
      { s.fire with
        house := ⟨s.fire.house.one.initial s.starter.link.one, s.fire.house.two.initial s.starter.link.two⟩ }
    panel := s.panel.initial
    notices := s.notices.initial
    orders := { s.orders with restart := .clear }
    starter := { s.starter with stopped := false, supplyFallen := false } }

/-! ### The drive table made safe (R44, R195 step 4) -/

/-- A drive entry made safe, its station map kept (R44). -/
def State.safeEntry (s : State) (d : DriveId) : DriveEntry :=
  DriveEntry.safe (s.lights.map LightUnit.lastTriple) s.ms d (s.entry d).station (s.entry d).fn

/-- Every drive entry made safe (R44). -/
def State.makeSafe (s : State) : State :=
  { s with
    drive := { s.drive with entries := ⟨driveIds.map s.safeEntry, by rw [List.length_map]; rfl⟩ } }

/-! ### The fire evaluation (R169, R195 step 5) -/

/-- A house found out of FIRE: its port hold line energized and its gate opened (R169). -/
def State.foundClear (s : State) (k : House) : State :=
  let s1 := s.setFire k { s.fireOf k with state := .clear, port := true, gate := true }
  (s1.rejudgeHold (k.head .a)).rejudgeHold (k.head .b)

/-- A house evaluated at a start (R169). -/
def State.evaluateFire (s : State) (k : House) : State :=
  let f := s.fireOf k
  if f.latch || f.linkOpen then s.enterFire k .start else s.foundClear k

/-! ### The start (R194, R195) -/

/-- Steps 3 to 6 of the start sequence, with the code of the start; House 1 is evaluated before House 2 (R195; log entry 36). -/
def State.startSequence (s : State) (code : Code) : State :=
  (((s.initOwners.makeSafe).evaluateFire .one).evaluateFire .two).raise .restarted .none (some code)

/-- A start that is cold (R194): the defaults are written first. -/
def State.coldStart (s : State) : State :=
  let s1 := s.defaulted
  (s1.startSequence .cold).sealFrom s1

/-- A start that is warm (R194). -/
def State.warmStart (s : State) (code : Code) : State := (s.startSequence code).sealFrom s

/-- A start: cold when the sum fails or CLEAR is held, otherwise warm with the code of its cause (R194). -/
def State.startUp (s : State) (clearHeld : Bool) (code : Code) : State :=
  if !s.sumVerifies || clearHeld then s.coldStart else s.warmStart code

/-- A supply fall or a reset reaches the start logic together with a RESTART request: it waits next, at the same moment (R196; log
entry 14). -/
def State.fallTogether (s : State) : Bool :=
  match s.pending with
  | .supplyFail 0 :: _ => true
  | .resetAssert 0 :: _ => true
  | _ => false

/-- A RESTART carried out: a stop and at once a start with CLEAR not read (R194, R196). A stop that a supply fall or a reset prolongs
goes on, and the one start that follows it is theirs (R193, R194, R196; log entry 14). -/
def State.restartNow (s : State) : State :=
  if s.fallTogether then s.beginStop.setRestart .clear else s.beginStop.startUp false .order

/-- The code of a start that ends a stop by SUPPLY or RESET (R194). -/
def StartUnit.code (u : StartUnit) : Code := if u.supplyFallen then .supply else .warm

/-- The end of a stop, when SUPPLY is present and RESET released (R193). -/
def State.endStop (s : State) : State :=
  if s.starter.stopped && s.starter.supply && !s.starter.reset then s.startUp s.starter.clear s.starter.code else s

/-- SUPPLY falls (R193). -/
def State.supplyFail (s : State) : State :=
  let s1 := if s.starter.stopped then s else s.beginStop
  { s1 with starter := { s1.starter with supply := false, supplyFallen := true } }

/-- RESET is asserted (R193). -/
def State.resetAssert (s : State) : State :=
  let s1 := if s.starter.stopped then s else s.beginStop
  { s1 with starter := { s1.starter with reset := true } }

/-- SUPPLY returns, the CLEAR line at the level given (R193, R194; log entry 26). -/
def State.supplyReturn (s : State) (clear : Bool) : State :=
  ({ s with starter := { s.starter with supply := true, clear := clear } } : State).endStop

/-- RESET is released, the CLEAR line at the level given (R193, R194; log entry 26). -/
def State.resetRelease (s : State) (clear : Bool) : State :=
  ({ s with starter := { s.starter with reset := false, clear := clear } } : State).endStop

/-! ### An event (section 3.3) -/

/-- The end of an event: the store written if its contents changed, then a requested restart carried out, or else the arbiter's choice
(R22, R190, R192; log entries 11 and 13). -/
def State.conclude (s before : State) : State :=
  let s1 := s.sealFrom before
  if s1.orders.restart = .requested then s1.restartNow else s1.arbitrate

/-- A command taken as one event after `dt` tenths of a millisecond; a stopped part takes none (R193; log entry 1). -/
def event (dt : Nat) (f : State → State) (s : State) : Host.Outcome State Fault Refusal :=
  let s0 := s.elapse dt
  .next (if s0.starter.stopped then s0 else (f s0).conclude s0)

/-- The ORDER telegram to the part that carries a payload. -/
def State.orderFrame (s : State) (src : Byte) (payload : List Byte) : Frame :=
  Frame.make s.orders.own src Config.kindOrder payload

/-- An order's command: the arrival of the good telegram that carries it (log entry 6). -/
def orderEvent (dt : Nat) (src : Byte) (payload : List Byte) (run : State → State) (s : State) : Host.Outcome State Fault Refusal :=
  event dt (fun t => t.receive (t.orderFrame src payload) run) s

/-- An order's command judged by one rule. -/
def judgedOrder (dt : Nat) (src : Byte) (o : Order) (run : State → State × Reply) (s : State) :
    Host.Outcome State Fault Refusal :=
  orderEvent dt src (encodeOrder o) (answerOrder src o.code run) s

end Sys2Proof.Machine
end

