-- ==== Sys2Proof/Machine/ExecHeads.lean ====
section
/-! DEFINITION. The meanings of the commands of the head monitors and the lamp regulators (Chapters 3 and 4). -/

namespace Sys2Proof.Machine

/-- A pulse on a FRAME line (R47 to R52). -/
def execFramePulse (dt : Nat) (h : Head) (s : State) : Host.Outcome State Fault Refusal :=
  event dt (fun t => t.pulse h) s

/-- A slow timer falls due (R53). -/
def execSlowTimerExpiry (dt : Nat) (h : Head) (s : State) : Host.Outcome State Fault Refusal :=
  event dt (fun t => t.slowExpiry h) s

/-- A stop timer falls due (R54). -/
def execStopTimerExpiry (dt : Nat) (h : Head) (s : State) : Host.Outcome State Fault Refusal :=
  event dt (fun t => t.stopExpiry h) s

/-- An idle timer falls due (R60). -/
def execIdleTimerExpiry (dt : Nat) (h : Head) (s : State) : Host.Outcome State Fault Refusal :=
  event dt (fun t => t.idleExpiry h) s

/-- A strike timer falls due (R71). -/
def execStrikeTimerExpiry (dt : Nat) (h : Head) (s : State) : Host.Outcome State Fault Refusal :=
  event dt (fun t => t.strikeExpiry h) s

/-- A stale timer falls due (R77). -/
def execStaleTimerExpiry (dt : Nat) (h : Head) (s : State) : Host.Outcome State Fault Refusal :=
  event dt (fun t => t.staleExpiry h) s

/-- The WRITE LAMP order (R65). -/
def execWriteLamp (dt : Nat) (src : Byte) (head : Byte) (item : Byte) (value : Word) (s : State) : Host.Outcome State Fault Refusal :=
  judgedOrder dt src (.writeLamp head item value) (judgeWriteLamp head item value) s

/-- The TRIM order (R84). -/
def execTrim (dt : Nat) (src : Byte) (head : Byte) (length : Option Word) (s : State) : Host.Outcome State Fault Refusal :=
  judgedOrder dt src (.trim head length) (judgeTrim head length) s

end Sys2Proof.Machine
end

