-- ==== Sys2Proof/Machine/ExecHouse.lean ====
section
/-! DEFINITION. The meanings of the commands of the light units, the fire unit, the panel decoder and the notice unit (Chapters 7 to 9). -/

namespace Sys2Proof.Machine

/-- The CURVE POINT order (R138). -/
def execCurvePoint (dt : Nat) (src : Byte) (house : Byte) (entry : Byte) (s : State) : Host.Outcome State Fault Refusal :=
  judgedOrder dt src (.curvePoint house entry) (judgeCurvePoint house entry) s

/-- The CURVE DATA order for House 1 (R139). -/
def execCurveDataHouse1 (dt : Nat) (src : Byte) (bytes : List Byte) (s : State) : Host.Outcome State Fault Refusal :=
  judgedOrder dt src (.curveData .one bytes) (judgeCurveData .one bytes) s

/-- The CURVE DATA order for House 2 (R139). -/
def execCurveDataHouse2 (dt : Nat) (src : Byte) (bytes : List Byte) (s : State) : Host.Outcome State Fault Refusal :=
  judgedOrder dt src (.curveData .two bytes) (judgeCurveData .two bytes) s

/-- A fade takes a step (R148). -/
def execFadeStep (dt : Nat) (k : House) (s : State) : Host.Outcome State Fault Refusal :=
  event dt (fun t => t.fadeStep k) s

/-- The level of a LINK line (R155); the line itself moves in a stopped part too (R193, R195; log entry 26). -/
def execLinkChange (dt : Nat) (k : House) (opened : Bool) (s : State) : Host.Outcome State Fault Refusal :=
  event dt (fun t => t.linkLevel k opened)
    { s with starter := { s.starter with link := s.starter.link.set k opened } }

/-- An entry of a detector list expires (R158). -/
def execDetectorExpiry (dt : Nat) (k : House) (source : Byte) (s : State) : Host.Outcome State Fault Refusal :=
  event dt (fun t => t.detectorExpiry k source) s

/-- The panel guard falls due (R173). -/
def execPanelGuardExpiry (dt : Nat) (s : State) : Host.Outcome State Fault Refusal :=
  event dt (fun t => t.panelExpiry) s

/-- The ACK order (R178, R187). -/
def execAck (dt : Nat) (src : Byte) (marks : Word) (s : State) : Host.Outcome State Fault Refusal :=
  judgedOrder dt src (.ack marks) (judgeAck marks) s

/-- The MASK order (R179, R187). -/
def execMask (dt : Nat) (src : Byte) (marks : Word) (s : State) : Host.Outcome State Fault Refusal :=
  judgedOrder dt src (.mask marks) (judgeMask marks) s

/-- The ENDALERT order (R180, R187). -/
def execEndAlert (dt : Nat) (src : Byte) (s : State) : Host.Outcome State Fault Refusal :=
  judgedOrder dt src .endAlert judgeEndAlert s

/-- The quiet timer falls due (R180). -/
def execQuietTimerExpiry (dt : Nat) (s : State) : Host.Outcome State Fault Refusal :=
  event dt (fun t => t.quietExpiry) s

end Sys2Proof.Machine
end

