-- ==== Sys2Proof/Machine/ExecLoop.lean ====
section
/-! DEFINITION. The meanings of the commands of the loop unit (Chapter 1). -/

namespace Sys2Proof.Machine

/-- A telegram received whole (R4 to R9, R11); an ORDER to the part is taken by the order processor (R182). -/
def execTelegramComplete (dt : Nat) (f : Frame) (s : State) : Host.Outcome State Fault Refusal :=
  event dt (fun t => t.receive f (takeOrder f.src (decodeOrder f.payload))) s

/-- A break (R5). -/
def execLineBreak (dt : Nat) (cause : BreakCause) (s : State) : Host.Outcome State Fault Refusal :=
  event dt (fun t => t.lineBreak cause) s

/-- A count byte above 12 (R6). -/
def execLengthError (dt : Nat) (s : State) : Host.Outcome State Fault Refusal :=
  event dt (fun t => t.lengthError) s

/-- The idle gap that ends a length error (R6). -/
def execLengthIdleEnd (dt : Nat) (s : State) : Host.Outcome State Fault Refusal :=
  event dt (fun t => t.lengthIdle) s

/-- The dwell of SEARCH expires (R10). -/
def execSearchDwellExpiry (dt : Nat) (s : State) : Host.Outcome State Fault Refusal :=
  event dt (fun t => t.dwellExpiry) s

/-- The loop guard expires (R13). -/
def execLoopGuardExpiry (dt : Nat) (s : State) : Host.Outcome State Fault Refusal :=
  event dt (fun t => t.guardExpiry) s

/-- The deadline of the oldest in-transit entry passes (R20). -/
def execReturnDeadlineExpiry (dt : Nat) (s : State) : Host.Outcome State Fault Refusal :=
  event dt (fun t => t.returnExpiry) s

/-- LOOP OUT falls free (R22, R23). -/
def execLoopOutFree (dt : Nat) (s : State) : Host.Outcome State Fault Refusal :=
  event dt (fun t => t.outFree) s

/-- The last byte of a telegram is sent (R14, R17, R23, R190). -/
def execLastByteSent (dt : Nat) (s : State) : Host.Outcome State Fault Refusal :=
  event dt (fun t => t.lastByteSent) s

/-- The LEAVE order (R14). -/
def execLeave (dt : Nat) (src : Byte) (s : State) : Host.Outcome State Fault Refusal :=
  judgedOrder dt src .leave judgeLeave s

/-- The JOIN order (R15). -/
def execJoin (dt : Nat) (src : Byte) (s : State) : Host.Outcome State Fault Refusal :=
  judgedOrder dt src .join judgeJoin s

end Sys2Proof.Machine
end

