-- ==== Sys2Proof/Machine/ExecRead.lean ====
section
/-! DEFINITION. The meanings of the commands of the READ order (R184). -/

namespace Sys2Proof.Machine

/-- READ, reaction entry section (R184). -/
def execReadReactionEntry (dt : Nat) (src : Byte) (a : Byte) (b : Byte) (page : Byte) (s : State) : Host.Outcome State Fault Refusal :=
  judgedOrder dt src (.read 1 a b page) (judgeReadReaction a page) s

/-- READ, map entry section (R184). -/
def execReadMapEntry (dt : Nat) (src : Byte) (a : Byte) (b : Byte) (page : Byte) (s : State) : Host.Outcome State Fault Refusal :=
  judgedOrder dt src (.read 2 a b page) (judgeReadMap a page) s

/-- READ, reel record section (R184). -/
def execReadReelRecord (dt : Nat) (src : Byte) (a : Byte) (b : Byte) (page : Byte) (s : State) : Host.Outcome State Fault Refusal :=
  judgedOrder dt src (.read 3 a b page) (judgeReadReel a page) s

/-- READ, lamp record section (R184). -/
def execReadLampRecord (dt : Nat) (src : Byte) (a : Byte) (b : Byte) (page : Byte) (s : State) : Host.Outcome State Fault Refusal :=
  judgedOrder dt src (.read 4 a b page) (judgeReadLampRecord a page) s

/-- READ, lamp state section (R184). -/
def execReadLampState (dt : Nat) (src : Byte) (a : Byte) (b : Byte) (page : Byte) (s : State) : Host.Outcome State Fault Refusal :=
  judgedOrder dt src (.read 5 a b page) (judgeReadLampState a page) s

/-- READ, curve entry section (R184). -/
def execReadCurveEntry (dt : Nat) (src : Byte) (a : Byte) (b : Byte) (page : Byte) (s : State) : Host.Outcome State Fault Refusal :=
  judgedOrder dt src (.read 6 a b page) (judgeReadCurve a b page) s

/-- READ, settings item section (R184). -/
def execReadSettingsItem (dt : Nat) (src : Byte) (a : Byte) (b : Byte) (page : Byte) (s : State) : Host.Outcome State Fault Refusal :=
  judgedOrder dt src (.read 7 a b page) (judgeReadSettings a b page) s

/-- READ, counters section (R184). -/
def execReadCounters (dt : Nat) (src : Byte) (a : Byte) (b : Byte) (page : Byte) (s : State) : Host.Outcome State Fault Refusal :=
  judgedOrder dt src (.read 8 a b page) (judgeReadCounters a page) s

/-- READ, loop state section (R184). -/
def execReadLoopState (dt : Nat) (src : Byte) (a : Byte) (b : Byte) (page : Byte) (s : State) : Host.Outcome State Fault Refusal :=
  judgedOrder dt src (.read 9 a b page) (judgeReadLoop page) s

/-- READ, house state section (R184). -/
def execReadHouseState (dt : Nat) (src : Byte) (a : Byte) (b : Byte) (page : Byte) (s : State) : Host.Outcome State Fault Refusal :=
  judgedOrder dt src (.read 10 a b page) (judgeReadHouse a page) s

/-- READ, head monitor section (R184). -/
def execReadHeadMonitor (dt : Nat) (src : Byte) (a : Byte) (b : Byte) (page : Byte) (s : State) : Host.Outcome State Fault Refusal :=
  judgedOrder dt src (.read 11 a b page) (judgeReadMonitor a page) s

/-- READ, fire state section (R184). -/
def execReadFireState (dt : Nat) (src : Byte) (a : Byte) (b : Byte) (page : Byte) (s : State) : Host.Outcome State Fault Refusal :=
  judgedOrder dt src (.read 12 a b page) (judgeReadFire a page) s

/-- READ, notice set section (R184). -/
def execReadNoticeSet (dt : Nat) (src : Byte) (a : Byte) (b : Byte) (page : Byte) (s : State) : Host.Outcome State Fault Refusal :=
  judgedOrder dt src (.read 13 a b page) (judgeReadNotices page) s

end Sys2Proof.Machine
end

