-- ==== Sys2Proof/Machine/ExecSetup.lean ====
section
/-! DEFINITION. The meanings of the commands of the SETUP order (R185). -/

namespace Sys2Proof.Machine

/-- SETUP, loop guard time (R13). -/
def execSetupLoopGuardTime (dt : Nat) (src : Byte) (index : Byte) (value : Word) (s : State) : Host.Outcome State Fault Refusal :=
  judgedOrder dt src (.setup 1 index value) (judgeSetupGuard value) s

/-- SETUP, return limit (R17). -/
def execSetupReturnLimit (dt : Nat) (src : Byte) (index : Byte) (value : Word) (s : State) : Host.Outcome State Fault Refusal :=
  judgedOrder dt src (.setup 2 index value) (judgeSetupReturn value) s

/-- SETUP, refresh period (R42). -/
def execSetupRefreshPeriod (dt : Nat) (src : Byte) (index : Byte) (value : Word) (s : State) : Host.Outcome State Fault Refusal :=
  judgedOrder dt src (.setup 3 index value) (judgeSetupRefresh value) s

/-- SETUP, console address (R185). -/
def execSetupConsoleAddress (dt : Nat) (src : Byte) (index : Byte) (value : Word) (s : State) : Host.Outcome State Fault Refusal :=
  judgedOrder dt src (.setup 4 index value) (judgeSetupConsole value) s

/-- SETUP, service flag (R58, R59). -/
def execSetupServiceFlag (dt : Nat) (src : Byte) (index : Byte) (value : Word) (s : State) : Host.Outcome State Fault Refusal :=
  judgedOrder dt src (.setup 5 index value) (judgeSetupService index value) s

/-- SETUP, nominal rate (R61). -/
def execSetupNominalRate (dt : Nat) (src : Byte) (index : Byte) (value : Word) (s : State) : Host.Outcome State Fault Refusal :=
  judgedOrder dt src (.setup 6 index value) (judgeSetupRate index value) s

/-- SETUP, stop limit (R61). -/
def execSetupStopLimit (dt : Nat) (src : Byte) (index : Byte) (value : Word) (s : State) : Host.Outcome State Fault Refusal :=
  judgedOrder dt src (.setup 7 index value) (judgeSetupStop index value) s

/-- SETUP, idle limit (R61). -/
def execSetupIdleLimit (dt : Nat) (src : Byte) (index : Byte) (value : Word) (s : State) : Host.Outcome State Fault Refusal :=
  judgedOrder dt src (.setup 8 index value) (judgeSetupIdle index value) s

/-- SETUP, run-up limit (R131). -/
def execSetupRunupLimit (dt : Nat) (src : Byte) (index : Byte) (value : Word) (s : State) : Host.Outcome State Fault Refusal :=
  judgedOrder dt src (.setup 9 index value) (judgeSetupRunup index value) s

/-- SETUP, strike lead (R131). -/
def execSetupStrikeLead (dt : Nat) (src : Byte) (index : Byte) (value : Word) (s : State) : Host.Outcome State Fault Refusal :=
  judgedOrder dt src (.setup 10 index value) (judgeSetupLead index value) s

/-- SETUP, runout (R131). -/
def execSetupRunout (dt : Nat) (src : Byte) (index : Byte) (value : Word) (s : State) : Host.Outcome State Fault Refusal :=
  judgedOrder dt src (.setup 11 index value) (judgeSetupRunout index value) s

/-- SETUP, idle position (R149). -/
def execSetupIdlePosition (dt : Nat) (src : Byte) (index : Byte) (value : Word) (s : State) : Host.Outcome State Fault Refusal :=
  judgedOrder dt src (.setup 12 index value) (judgeSetupIdlePos index value) s

/-- SETUP, fault position (R149). -/
def execSetupFaultPosition (dt : Nat) (src : Byte) (index : Byte) (value : Word) (s : State) : Host.Outcome State Fault Refusal :=
  judgedOrder dt src (.setup 13 index value) (judgeSetupFaultPos index value) s

/-- SETUP, interval position (R149). -/
def execSetupIntervalPosition (dt : Nat) (src : Byte) (index : Byte) (value : Word) (s : State) : Host.Outcome State Fault Refusal :=
  judgedOrder dt src (.setup 14 index value) (judgeSetupIntervalPos index value) s

/-- SETUP, end position (R149). -/
def execSetupEndPosition (dt : Nat) (src : Byte) (index : Byte) (value : Word) (s : State) : Host.Outcome State Fault Refusal :=
  judgedOrder dt src (.setup 15 index value) (judgeSetupEndPos index value) s

/-- SETUP, fast fade time (R149). -/
def execSetupFastFadeTime (dt : Nat) (src : Byte) (index : Byte) (value : Word) (s : State) : Host.Outcome State Fault Refusal :=
  judgedOrder dt src (.setup 16 index value) (judgeSetupFastFade index value) s

/-- SETUP, detector hold time (R167). -/
def execSetupDetectorHoldTime (dt : Nat) (src : Byte) (index : Byte) (value : Word) (s : State) : Host.Outcome State Fault Refusal :=
  judgedOrder dt src (.setup 17 index value) (judgeSetupHold value) s

/-- SETUP, confirm window (R167). -/
def execSetupConfirmWindow (dt : Nat) (src : Byte) (index : Byte) (value : Word) (s : State) : Host.Outcome State Fault Refusal :=
  judgedOrder dt src (.setup 18 index value) (judgeSetupWindow value) s

/-- SETUP, panel guard time (R170). -/
def execSetupPanelGuardTime (dt : Nat) (src : Byte) (index : Byte) (value : Word) (s : State) : Host.Outcome State Fault Refusal :=
  judgedOrder dt src (.setup 19 index value) (judgeSetupPanel value) s

/-- SETUP, quiet time (R174). -/
def execSetupQuietTime (dt : Nat) (src : Byte) (index : Byte) (value : Word) (s : State) : Host.Outcome State Fault Refusal :=
  judgedOrder dt src (.setup 20 index value) (judgeSetupQuiet value) s

/-- A SETUP order whose item is refused (R185). -/
def execSetupBadItem (dt : Nat) (src : Byte) (item : Byte) (index : Byte) (value : Word) (s : State) : Host.Outcome State Fault Refusal :=
  orderEvent dt src (encodeOrder (.setup item index value)) (takeOrder src (.setup item index value)) s

end Sys2Proof.Machine
end

