-- ==== Sys2Proof/Machine/ExecShow.lean ====
section
/-! DEFINITION. The meanings of the commands of the show functions and the changeover engines' run-up (Chapters 6 to 8, R186). -/

namespace Sys2Proof.Machine

/-- The SHOW order, function ARM (R106). -/
def execShowArm (dt : Nat) (src : Byte) (target : Byte) (start : Option Byte) (s : State) : Host.Outcome State Fault Refusal :=
  judgedOrder dt src (.showFn 1 target start) (judgeArm target start) s

/-- The SHOW order, function THREAD (R107, R108). -/
def execShowThread (dt : Nat) (src : Byte) (target : Byte) (start : Option Byte) (s : State) : Host.Outcome State Fault Refusal :=
  judgedOrder dt src (.showFn 9 target start) (judgeThread target start) s

/-- The SHOW order, function START (R112). -/
def execShowStart (dt : Nat) (src : Byte) (target : Byte) (start : Option Byte) (s : State) : Host.Outcome State Fault Refusal :=
  judgedOrder dt src (.showFn 2 target start) (judgeStart target start) s

/-- The SHOW order, function HALT (R129). -/
def execShowHalt (dt : Nat) (src : Byte) (target : Byte) (start : Option Byte) (s : State) : Host.Outcome State Fault Refusal :=
  judgedOrder dt src (.showFn 4 target start) (judgeHalt target start) s

/-- The SHOW order, function RESUME (R130). -/
def execShowResume (dt : Nat) (src : Byte) (target : Byte) (start : Option Byte) (s : State) : Host.Outcome State Fault Refusal :=
  judgedOrder dt src (.showFn 5 target start) (judgeResume target start) s

/-- The SHOW order, function CHANGE (R117). -/
def execShowChange (dt : Nat) (src : Byte) (target : Byte) (start : Option Byte) (s : State) : Host.Outcome State Fault Refusal :=
  judgedOrder dt src (.showFn 3 target start) (judgeChange target start) s

/-- The SHOW order, function LIGHTS UP (R143). -/
def execShowLightsUp (dt : Nat) (src : Byte) (target : Byte) (start : Option Byte) (s : State) : Host.Outcome State Fault Refusal :=
  judgedOrder dt src (.showFn 6 target start) (judgeLightsUp target start) s

/-- The SHOW order, function LIGHTS DOWN (R143). -/
def execShowLightsDown (dt : Nat) (src : Byte) (target : Byte) (start : Option Byte) (s : State) : Host.Outcome State Fault Refusal :=
  judgedOrder dt src (.showFn 7 target start) (judgeLightsDown target start) s

/-- The SHOW order, function LIGHTS AUTO (R143). -/
def execShowLightsAuto (dt : Nat) (src : Byte) (target : Byte) (start : Option Byte) (s : State) : Host.Outcome State Fault Refusal :=
  judgedOrder dt src (.showFn 8 target start) (judgeLightsAuto target start) s

/-- The SHOW order, function STRIKE (R67). -/
def execShowStrike (dt : Nat) (src : Byte) (target : Byte) (start : Option Byte) (s : State) : Host.Outcome State Fault Refusal :=
  judgedOrder dt src (.showFn 10 target start) (judgeStrike target start) s

/-- The SHOW order, function FIRE DROP (R162). -/
def execShowFireDrop (dt : Nat) (src : Byte) (target : Byte) (start : Option Byte) (s : State) : Host.Outcome State Fault Refusal :=
  judgedOrder dt src (.showFn 11 target start) (judgeFireDrop target start) s

/-- The SHOW order, function FIRE RESET (R165). -/
def execShowFireReset (dt : Nat) (src : Byte) (target : Byte) (start : Option Byte) (s : State) : Host.Outcome State Fault Refusal :=
  judgedOrder dt src (.showFn 12 target start) (judgeFireReset target start) s

/-- A SHOW order whose function is refused (R186). -/
def execShowBadFunction (dt : Nat) (src : Byte) (fn : Byte) (target : Byte) (start : Option Byte) (s : State) : Host.Outcome State Fault Refusal :=
  orderEvent dt src (encodeOrder (.showFn fn target start)) (takeOrder src (.showFn fn target start)) s

/-- A run-up's deadline passes (R111). -/
def execRunupDeadlineExpiry (dt : Nat) (k : House) (s : State) : Host.Outcome State Fault Refusal :=
  event dt (fun t => t.runupExpiry k) s

end Sys2Proof.Machine
end

