-- ==== Sys2Proof/Machine/ExecSystem.lean ====
section
/-! DEFINITION. The meanings of the commands of the order processor and the start logic (Chapters 10 and 11). -/

namespace Sys2Proof.Machine

/-- An ORDER whose structure is refused (R182). -/
def execUnknownOrder (dt : Nat) (src : Byte) (payload : List Byte) (s : State) : Host.Outcome State Fault Refusal :=
  orderEvent dt src payload (takeOrder src (decodeOrder payload)) s

/-- The ADDRESS order (R188). -/
def execAddress (dt : Nat) (src : Byte) (a : Byte) (lockFlag : Byte) (s : State) : Host.Outcome State Fault Refusal :=
  judgedOrder dt src (.address a lockFlag) (judgeAddress a lockFlag) s

/-- The CLEAR COUNTERS order (R189). -/
def execClearCounters (dt : Nat) (src : Byte) (s : State) : Host.Outcome State Fault Refusal :=
  judgedOrder dt src .clearCounters judgeClearCounters s

/-- The RESTART order (R190). -/
def execRestart (dt : Nat) (src : Byte) (s : State) : Host.Outcome State Fault Refusal :=
  orderEvent dt src (encodeOrder .restart) (takeRestart src) s

/-- The supply-fail event (R193). -/
def execSupplyFail (dt : Nat) (s : State) : Host.Outcome State Fault Refusal :=
  .next (s.elapse dt).supplyFail

/-- RESET is asserted (R193). -/
def execResetAssert (dt : Nat) (s : State) : Host.Outcome State Fault Refusal :=
  .next (s.elapse dt).resetAssert

/-- SUPPLY returns (R193 to R195). -/
def execSupplyReturn (dt : Nat) (clear : Bool) (s : State) : Host.Outcome State Fault Refusal :=
  .next ((s.elapse dt).supplyReturn clear)

/-- RESET is released (R193 to R195). -/
def execResetRelease (dt : Nat) (clear : Bool) (s : State) : Host.Outcome State Fault Refusal :=
  .next ((s.elapse dt).resetRelease clear)

end Sys2Proof.Machine
end

