-- ==== Sys2Proof/Machine/ExecTables.lean ====
section
/-! DEFINITION. The meanings of the commands of the reaction table, the drive table and the programme store (Chapters 2 and 5). -/

namespace Sys2Proof.Machine

/-- The WRITE REACT order (R35). -/
def execWriteReact (dt : Nat) (src : Byte) (p : ReactParams) (s : State) : Host.Outcome State Fault Refusal :=
  judgedOrder dt src (.writeReact p) (judgeWriteReact p) s

/-- The LOCK order (R36). -/
def execLock (dt : Nat) (src : Byte) (s : State) : Host.Outcome State Fault Refusal :=
  judgedOrder dt src .lock judgeLock s

/-- A refresh expiry (R42). -/
def execRefreshDue (dt : Nat) (d : DriveId) (s : State) : Host.Outcome State Fault Refusal :=
  event dt (fun t => t.refresh d) s

/-- The WRITE MAP order (R43). -/
def execWriteMap (dt : Nat) (src : Byte) (index : Byte) (station : Byte) (code : Byte) (s : State) : Host.Outcome State Fault Refusal :=
  judgedOrder dt src (.writeMap index station code) (judgeWriteMap index station code) s

/-- The WRITE REEL order (R92 to R96). -/
def execWriteReel (dt : Nat) (src : Byte) (p : ReelParams) (s : State) : Host.Outcome State Fault Refusal :=
  judgedOrder dt src (.writeReel p) (judgeWriteReel p) s

/-- The SPLIT order (R100). -/
def execSplitPoint (dt : Nat) (src : Byte) (n : Byte) (s : State) : Host.Outcome State Fault Refusal :=
  judgedOrder dt src (.splitPoint n) (judgeSplit n) s

end Sys2Proof.Machine
end

