-- ==== Sys2Proof/Machine/Dispatch.lean ====
section
/-! DEFINITION. One arm for each command: its meaning. -/

namespace Sys2Proof.Machine

/-- The effect of a command on everything but the queue. -/
def exec (i : Instr) (s : State) : Host.Outcome State Fault Refusal :=
  match i with
  | .telegramComplete dt f => Sys2Proof.Machine.execTelegramComplete dt f s
  | .lineBreak dt cause => Sys2Proof.Machine.execLineBreak dt cause s
  | .lengthError dt => Sys2Proof.Machine.execLengthError dt s
  | .lengthIdleEnd dt => Sys2Proof.Machine.execLengthIdleEnd dt s
  | .searchDwellExpiry dt => Sys2Proof.Machine.execSearchDwellExpiry dt s
  | .loopGuardExpiry dt => Sys2Proof.Machine.execLoopGuardExpiry dt s
  | .returnDeadlineExpiry dt => Sys2Proof.Machine.execReturnDeadlineExpiry dt s
  | .loopOutFree dt => Sys2Proof.Machine.execLoopOutFree dt s
  | .lastByteSent dt => Sys2Proof.Machine.execLastByteSent dt s
  | .writeReact dt src p => Sys2Proof.Machine.execWriteReact dt src p s
  | .lock dt src => Sys2Proof.Machine.execLock dt src s
  | .refreshDue dt d => Sys2Proof.Machine.execRefreshDue dt d s
  | .writeMap dt src index station code => Sys2Proof.Machine.execWriteMap dt src index station code s
  | .framePulse dt h => Sys2Proof.Machine.execFramePulse dt h s
  | .slowTimerExpiry dt h => Sys2Proof.Machine.execSlowTimerExpiry dt h s
  | .stopTimerExpiry dt h => Sys2Proof.Machine.execStopTimerExpiry dt h s
  | .idleTimerExpiry dt h => Sys2Proof.Machine.execIdleTimerExpiry dt h s
  | .strikeTimerExpiry dt h => Sys2Proof.Machine.execStrikeTimerExpiry dt h s
  | .staleTimerExpiry dt h => Sys2Proof.Machine.execStaleTimerExpiry dt h s
  | .writeLamp dt src head item value => Sys2Proof.Machine.execWriteLamp dt src head item value s
  | .trim dt src head length => Sys2Proof.Machine.execTrim dt src head length s
  | .writeReel dt src p => Sys2Proof.Machine.execWriteReel dt src p s
  | .splitPoint dt src n => Sys2Proof.Machine.execSplitPoint dt src n s
  | .showArm dt src target start => Sys2Proof.Machine.execShowArm dt src target start s
  | .showThread dt src target start => Sys2Proof.Machine.execShowThread dt src target start s
  | .runupDeadlineExpiry dt k => Sys2Proof.Machine.execRunupDeadlineExpiry dt k s
  | .showStart dt src target start => Sys2Proof.Machine.execShowStart dt src target start s
  | .showHalt dt src target start => Sys2Proof.Machine.execShowHalt dt src target start s
  | .showResume dt src target start => Sys2Proof.Machine.execShowResume dt src target start s
  | .showChange dt src target start => Sys2Proof.Machine.execShowChange dt src target start s
  | .showLightsUp dt src target start => Sys2Proof.Machine.execShowLightsUp dt src target start s
  | .showLightsDown dt src target start => Sys2Proof.Machine.execShowLightsDown dt src target start s
  | .showLightsAuto dt src target start => Sys2Proof.Machine.execShowLightsAuto dt src target start s
  | .showStrike dt src target start => Sys2Proof.Machine.execShowStrike dt src target start s
  | .showFireDrop dt src target start => Sys2Proof.Machine.execShowFireDrop dt src target start s
  | .showFireReset dt src target start => Sys2Proof.Machine.execShowFireReset dt src target start s
  | .showBadFunction dt src fn target start => Sys2Proof.Machine.execShowBadFunction dt src fn target start s
  | .curvePoint dt src house entry => Sys2Proof.Machine.execCurvePoint dt src house entry s
  | .curveDataHouse1 dt src bytes => Sys2Proof.Machine.execCurveDataHouse1 dt src bytes s
  | .curveDataHouse2 dt src bytes => Sys2Proof.Machine.execCurveDataHouse2 dt src bytes s
  | .fadeStep dt k => Sys2Proof.Machine.execFadeStep dt k s
  | .linkChange dt k opened => Sys2Proof.Machine.execLinkChange dt k opened s
  | .detectorExpiry dt k source => Sys2Proof.Machine.execDetectorExpiry dt k source s
  | .panelGuardExpiry dt => Sys2Proof.Machine.execPanelGuardExpiry dt s
  | .ack dt src marks => Sys2Proof.Machine.execAck dt src marks s
  | .mask dt src marks => Sys2Proof.Machine.execMask dt src marks s
  | .endAlert dt src => Sys2Proof.Machine.execEndAlert dt src s
  | .quietTimerExpiry dt => Sys2Proof.Machine.execQuietTimerExpiry dt s
  | .leave dt src => Sys2Proof.Machine.execLeave dt src s
  | .join dt src => Sys2Proof.Machine.execJoin dt src s
  | .unknownOrder dt src payload => Sys2Proof.Machine.execUnknownOrder dt src payload s
  | .readReactionEntry dt src a b page => Sys2Proof.Machine.execReadReactionEntry dt src a b page s
  | .readMapEntry dt src a b page => Sys2Proof.Machine.execReadMapEntry dt src a b page s
  | .readReelRecord dt src a b page => Sys2Proof.Machine.execReadReelRecord dt src a b page s
  | .readLampRecord dt src a b page => Sys2Proof.Machine.execReadLampRecord dt src a b page s
  | .readLampState dt src a b page => Sys2Proof.Machine.execReadLampState dt src a b page s
  | .readCurveEntry dt src a b page => Sys2Proof.Machine.execReadCurveEntry dt src a b page s
  | .readSettingsItem dt src a b page => Sys2Proof.Machine.execReadSettingsItem dt src a b page s
  | .readCounters dt src a b page => Sys2Proof.Machine.execReadCounters dt src a b page s
  | .readLoopState dt src a b page => Sys2Proof.Machine.execReadLoopState dt src a b page s
  | .readHouseState dt src a b page => Sys2Proof.Machine.execReadHouseState dt src a b page s
  | .readHeadMonitor dt src a b page => Sys2Proof.Machine.execReadHeadMonitor dt src a b page s
  | .readFireState dt src a b page => Sys2Proof.Machine.execReadFireState dt src a b page s
  | .readNoticeSet dt src a b page => Sys2Proof.Machine.execReadNoticeSet dt src a b page s
  | .setupLoopGuardTime dt src index value => Sys2Proof.Machine.execSetupLoopGuardTime dt src index value s
  | .setupReturnLimit dt src index value => Sys2Proof.Machine.execSetupReturnLimit dt src index value s
  | .setupRefreshPeriod dt src index value => Sys2Proof.Machine.execSetupRefreshPeriod dt src index value s
  | .setupConsoleAddress dt src index value => Sys2Proof.Machine.execSetupConsoleAddress dt src index value s
  | .setupServiceFlag dt src index value => Sys2Proof.Machine.execSetupServiceFlag dt src index value s
  | .setupNominalRate dt src index value => Sys2Proof.Machine.execSetupNominalRate dt src index value s
  | .setupStopLimit dt src index value => Sys2Proof.Machine.execSetupStopLimit dt src index value s
  | .setupIdleLimit dt src index value => Sys2Proof.Machine.execSetupIdleLimit dt src index value s
  | .setupRunupLimit dt src index value => Sys2Proof.Machine.execSetupRunupLimit dt src index value s
  | .setupStrikeLead dt src index value => Sys2Proof.Machine.execSetupStrikeLead dt src index value s
  | .setupRunout dt src index value => Sys2Proof.Machine.execSetupRunout dt src index value s
  | .setupIdlePosition dt src index value => Sys2Proof.Machine.execSetupIdlePosition dt src index value s
  | .setupFaultPosition dt src index value => Sys2Proof.Machine.execSetupFaultPosition dt src index value s
  | .setupIntervalPosition dt src index value => Sys2Proof.Machine.execSetupIntervalPosition dt src index value s
  | .setupEndPosition dt src index value => Sys2Proof.Machine.execSetupEndPosition dt src index value s
  | .setupFastFadeTime dt src index value => Sys2Proof.Machine.execSetupFastFadeTime dt src index value s
  | .setupDetectorHoldTime dt src index value => Sys2Proof.Machine.execSetupDetectorHoldTime dt src index value s
  | .setupConfirmWindow dt src index value => Sys2Proof.Machine.execSetupConfirmWindow dt src index value s
  | .setupPanelGuardTime dt src index value => Sys2Proof.Machine.execSetupPanelGuardTime dt src index value s
  | .setupQuietTime dt src index value => Sys2Proof.Machine.execSetupQuietTime dt src index value s
  | .setupBadItem dt src item index value => Sys2Proof.Machine.execSetupBadItem dt src item index value s
  | .address dt src a lockFlag => Sys2Proof.Machine.execAddress dt src a lockFlag s
  | .clearCounters dt src => Sys2Proof.Machine.execClearCounters dt src s
  | .restart dt src => Sys2Proof.Machine.execRestart dt src s
  | .supplyFail dt => Sys2Proof.Machine.execSupplyFail dt s
  | .resetAssert dt => Sys2Proof.Machine.execResetAssert dt s
  | .supplyReturn dt clear => Sys2Proof.Machine.execSupplyReturn dt clear s
  | .resetRelease dt clear => Sys2Proof.Machine.execResetRelease dt clear s

end Sys2Proof.Machine
end

