-- ==== Sys2Proof/Safety.lean ====
section
/-! DEFINITION. The terms claims are made in: what an order needs in order to be taken, what an event leaves aside, and the conditions the
manual holds the part to at every moment. -/

namespace Sys2Proof.Machine

/-! ### Orders -/

/-- The part takes an order from a station: it is not stopped, its receiver is not ignoring bytes, the order's source is a station and
not one whose telegrams are stripped, and no restart is awaited (R6 to R9, R190, R193). -/
structure State.Listens (s : State) (src : Byte) : Prop where
  awake : s.starter.stopped = false
  hears : s.loop.rx ≠ .ignoring
  station : 1 ≤ src.toNat ∧ src.toNat ≤ 30
  own : 1 ≤ s.orders.own.toNat ∧ s.orders.own.toNat ≤ 30
  stranger : src ≠ s.orders.own ∧ ∀ t ∈ s.loop.transit, t.frame.src ≠ src
  calm : s.orders.restart = .clear

/-- The loop unit as an order finds it: the rate locked when the part was in SEARCH (R11), the receiver seeking a lead (R4) and the
guard restarted (R8). -/
def LoopUnit.heard (l : LoopUnit) (ms : Nat) : LoopUnit :=
  let l1 := if l.state = .search then l.lockedRate else l
  { l1 with rx := .seeking, guard := some (ms + l1.guardTime) }

/-- The state in which an order is judged. -/
def State.heard (s : State) (dt : Nat) : State :=
  let s0 := s.elapse dt
  s0.setLoop (s0.loop.heard s0.ms)

/-- An ANSWER stands in the answer/notice FIFO, or the arbiter has already started it (R21, R22). -/
def State.Answers (t : State) (dst : Byte) (payload : List Byte) : Prop :=
  Waiting.answer dst payload false ∈ t.loop.fifo ∨
    t.loop.out = .sending (.answer (Frame.make dst t.orders.own Config.kindAnswer payload) false)

/-- A drive entry less the marks of its sending: its map and its commanded value. -/
def DriveEntry.settled (e : DriveEntry) : DriveEntry := { e with dirty := none, lastValue := none, lastTime := none }

/-- A state less what the sending of telegrams moves: LOOP OUT, the three queues of the loop unit, the answer-drop counter, the marks of
sending in the drive table, and the check sum, which follows the contents. All the rest of two states is equal when their settled
states are. -/
def State.settled (s : State) : State :=
  { s with
    loop :=
      { s.loop with
        out := .free, repeats := [], fifo := [], transit := [], counters := { s.loop.counters with answerDrop := 0 } }
    drive := { s.drive with entries := s.drive.entries.map DriveEntry.settled }
    checkSum := 0 }

/-- A state is another, sending aside: the settled states are equal, and a last-sent time differs only in being none for the entry whose
DRIVE is being sent (R38, R41). -/
structure State.Settles (t after : State) : Prop where
  rest : t.settled = after.settled
  times : ∀ d, (t.entry d).lastTime = (after.entry d).lastTime ∨
    ((t.entry d).lastTime = none ∧ ∃ f cls since, t.loop.out = .sending (.drive f d cls since))

/-- An order's command ends in a next state that is `after`, sending aside, and is answered with a result and data. -/
def State.Performs (s : State) (i : Instr) (src code : Byte) (result : Result) (data : List Byte) (after : State) : Prop :=
  ∃ t, exec i s = .next t ∧ t.Settles after ∧ t.Answers src ([code, result.code] ++ data)

/-- A command ends in a next state that is `after`, sending aside. -/
def State.Becomes (s : State) (i : Instr) (after : State) : Prop := ∃ t, exec i s = .next t ∧ t.Settles after

/-- A command ends in a next state that is `after`, sending aside, and of which more is said. -/
def State.BecomesWith (s : State) (i : Instr) (after : State) (also : State → Prop) : Prop :=
  ∃ t, exec i s = .next t ∧ t.Settles after ∧ also t

/-- What the arbiter's one choice at the end of an event makes of the queues, LOOP OUT and the drive table (R22, R23): nothing while it
may not choose; a waiting repeat goes out before anything else; otherwise it starts the head of the answer/notice FIFO or a dirty drive
entry, which joins the in-transit list, or nothing. Which of them it starts is ArbiterOrder's to say. -/
structure State.ArbiterChose (u t : State) : Prop where
  rests : u.loop.state ≠ .held ∨ u.loop.leaveAwaiting = true ∨ u.loop.out ≠ .free → t.loop = u.loop ∧ t.drive = u.drive
  repeats : u.loop.state = .held → u.loop.leaveAwaiting = false → u.loop.out = .free → ∀ g rest, u.loop.repeats = g :: rest →
    t.loop = { u.loop with repeats := rest, out := .sending (.repeated g) } ∧ t.drive = u.drive
  originates : u.loop.state = .held → u.loop.leaveAwaiting = false → u.loop.out = .free → u.loop.repeats = [] →
    (t.loop = u.loop ∧ t.drive = u.drive) ∨
    (u.loop.transit.length < 4 ∧ t.drive = u.drive ∧ ∃ w rest x f, u.loop.fifo = w :: rest ∧
      t.loop =
        { u.loop with fifo := rest, transit := u.loop.transit ++ [{ frame := f, deadline := none }], out := .sending x } ∧
      (∀ dst p named, w = .answer dst p named → x = .answer f named) ∧ ∀ c, w = .notice c → x = .notice f c) ∨
    (u.loop.transit.length < 4 ∧ ∃ d f cls since, (u.entry d).station ≠ 0 ∧ (u.entry d).dirty = some { cls := cls, since := since } ∧
      t.loop =
        { u.loop with
          transit := u.loop.transit ++ [{ frame := f, deadline := none }], out := .sending (.drive f d cls since) } ∧
      t.drive =
        (u.setEntry d { u.entry d with dirty := none, lastValue := some (u.entry d).value, lastTime := none }).drive)

/-- An event has put no telegram into the repeat FIFO and sent none on: the telegrams waiting there at the arbiter's choice still wait, but
that the first goes out when LOOP OUT is free in HELD and no LEAVE awaits its move. -/
def State.RepeatsNothing (u t : State) : Prop :=
  (if u.loop.state = .held ∧ u.loop.out = .free ∧ u.loop.leaveAwaiting = false then
    t.loop.repeats = u.loop.repeats.tail ∧ ∀ g rest, u.loop.repeats = g :: rest → t.loop.out = .sending (.repeated g)
  else t.loop.out = u.loop.out ∧ t.loop.repeats = u.loop.repeats) ∧
  (u.loop.repeats = [] → (∀ g, u.loop.out ≠ .sending (.repeated g)) → ∀ g, t.loop.out ≠ .sending (.repeated g))

/-- A command ends in the next state `after`, but for the arbiter's one choice and the check sum, which follows the contents. -/
def State.BecomesSending (s : State) (i : Instr) (after : State) : Prop :=
  ∃ t, exec i s = .next t ∧ t.Settles after ∧ after.ArbiterChose t

/-- The part takes events: it is not stopped and no restart is awaited. -/
def State.Awake (s : State) : Prop := s.starter.stopped = false ∧ s.orders.restart = .clear

/-! ### Sending -/

/-- A drive entry awaits sending, or the arbiter has just started it (R22, R38, R41). -/
def State.AwaitsSending (t : State) (d : DriveId) (cls : DriveClass) (since : Nat) : Prop :=
  (t.entry d).dirty = some { cls := cls, since := since } ∨ ∃ f, t.loop.out = .sending (.drive f d cls since)

/-- The place of a class in the arbiter's order (R22). -/
def DriveClass.rank : DriveClass → Nat
  | .safety => 0
  | .change => 1
  | .feed => 2
  | .lights => 3
  | .refresh => 4

/-- A drive entry is available to the arbiter: it is mapped and waits under a class since a moment (R22, R43). -/
def State.DriveWaits (s : State) (d : DriveId) (cls : DriveClass) (since : Nat) : Prop :=
  (s.entry d).station ≠ 0 ∧ (s.entry d).dirty = some { cls := cls, since := since }

/-- The arbiter's order between two waiting drive entries: class, dirtied time, index (R22). -/
def driveBefore (cls : DriveClass) (since : Nat) (d : DriveId) (cls' : DriveClass) (since' : Nat) (d' : DriveId) : Prop :=
  cls.rank < cls'.rank ∨
    (cls.rank = cls'.rank ∧ (since < since' ∨ (since = since' ∧ (driveIndex d).val ≤ (driveIndex d').val)))

/-- The first of the waiting drive entries in the arbiter's order (R22). -/
def State.FirstWaiting (s : State) (d : DriveId) (cls : DriveClass) (since : Nat) : Prop :=
  s.DriveWaits d cls since ∧ ∀ d' cls' since', s.DriveWaits d' cls' since' → driveBefore cls since d cls' since' d'

/-- The effects of an entry to SEARCH and of the LOOP notice that its cause raises (R12, R13, R20). -/
structure State.SearchEntered (s t : State) (code : Code) : Prop where
  kept : t.Settles
    { s with
      loop :=
        { s.loop with
          state := .search, dwell := some (s.ms + 600), guard := none, leaveAwaiting := false, bypass := true, losses := 0 }
      notices := s.notices.raised .loop .none (some code) }
  repeats : t.loop.repeats = []
  transit : t.loop.transit = []
  silent : ∀ x, t.loop.out ≠ .sending x
  dirty : ∀ d, (s.entry d).dirty.isSome → (t.entry d).dirty.isSome
  abandoned : ∀ f d cls since, s.loop.out = .sending (.drive f d cls since) → (s.entry d).dirty = none →
    (t.entry d).dirty = some { cls := cls, since := since }

/-! ### Frames -/

/-- The house a drive entry serves (R38). -/
def driveHouse : DriveId → House
  | .motor h => h.house
  | .douser h => h.house
  | .lamp h => h.house
  | .feed h => h.house
  | .sound k => k
  | .dim k => k

/-- A head's monitor, lamp regulator and slot are the same. -/
def State.SameHead (s t : State) (h : Head) : Prop := t.mon h = s.mon h ∧ t.lamp h = s.lamp h ∧ t.slot h = s.slot h

/-- The whole of a house is the same: its heads, its engine, its light unit, its part of the fire unit and the values commanded to its
stations. -/
def State.SameHouse (s t : State) (k : House) : Prop :=
  (∀ h : Head, h.house = k → s.SameHead t h) ∧ t.eng k = s.eng k ∧ t.light k = s.light k ∧ t.fireOf k = s.fireOf k ∧
    ∀ d, driveHouse d = k → (t.entry d).value = (s.entry d).value

/-- The tables and settings that no event of the show changes are the same: the reaction matcher, the programme store, the panel, the
station map, the fire settings, the refresh period, the own address, the input lines and the queue of commands. -/
def State.SameTables (s t : State) : Prop :=
  t.matcher = s.matcher ∧ t.programme = s.programme ∧ t.panel = s.panel ∧ t.fire.holdTime = s.fire.holdTime ∧
    t.fire.confirmWindow = s.fire.confirmWindow ∧ t.drive.refreshPeriod = s.drive.refreshPeriod ∧ t.orders = s.orders ∧
    t.starter = s.starter ∧ t.pending = s.pending ∧
    ∀ d, (t.entry d).station = (s.entry d).station ∧ (t.entry d).fn = (s.entry d).fn

/-- The other house. -/
def otherHouse : House → House
  | .one => .two
  | .two => .one

/-- A lamp put out after its consumption has been accounted to a moment while it burned: contactor released, rate 0, timers idle, flag
clear, state DARK (R75, R76, R82, R83). -/
def Lamp.darkAt (l : Lamp) (ms : Nat) : Lamp :=
  let c := l.rem + l.rate * (ms - l.accounted.getD ms)
  { l with
    rem := if l.state = .burning then c % 60000 else l.rem
    rod := if l.state = .burning then l.rod - c / 60000 else l.rod
    accounted := if l.state = .burning then some ms else l.accounted
    state := .dark, contactor := false, rate := 0, strikeTimer := none, staleTimer := none, stale := false }

/-- The drive entries of a head whose lamp has been shut down: douser closed, lamp off, feed 0 (R75, R76). -/
def State.LampEntriesSafe (t : State) (h : Head) : Prop :=
  (t.entry (.douser h)).value = .douser false ∧ (t.entry (.lamp h)).value = .lamp false ∧ (t.entry (.feed h)).value = .feed 0

/-- A role after a halt: a head STARTING becomes THREADED (R129). -/
def Role.halted : Role → Role
  | .starting => .threaded
  | r => r

/-- The effects of a house's entry to FIRE (R163): the fire unit's part, the heads, the sound, the engine, the lights and the notice;
nothing of the other house and none of the tables changes. -/
structure State.FireEntered (s t : State) (k : House) (code : Code) : Prop where
  unit : t.fireOf k = { s.fireOf k with state := .fire, latch := true, port := false, gate := false }
  shutters : ∀ h, h.house = k → t.mon h = { s.mon h with hold := false, idleTimer := none }
  lamps : ∀ h, h.house = k → t.lamp h = (s.lamp h).darkAt s.ms ∧ t.LampEntriesSafe h
  motors : ∀ h, h.house = k → (t.entry (.motor h)).value = .motor false
  roles : ∀ h, h.house = k → t.slot h = { s.slot h with role := (s.role h).halted }
  sound : (t.entry (.sound k)).value = .sound none
  engine : t.eng k = { s.eng k with state := .halted, runup := none }
  lights : (t.light k).position = 255 ∧ (t.light k).fade = none ∧
    (t.light k).requests = { (s.light k).requests with fire := some { position := 255, fade := 0 } }
  notice : t.notices.isPending (fireEvent k) = true ∧
    t.notices.causes.get (fireEvent k).num =
      { cause := .house k, code := some code, count := min ((s.notices.causes.get (fireEvent k).num).count + 1) 255 }
  shutter : ∀ h, h.house = k → (s.mon h).hold = true → s.role h = .showing → t.notices.isPending .shutter = true
  elsewhere : s.SameHouse t (otherHouse k) ∧ s.SameTables t

/-- The effects of a halt that does not come from fire (R128, R129). -/
structure State.HouseHalted (s t : State) (k : House) : Prop where
  heads : ∀ h, h.house = k → (t.entry (.motor h)).value = .motor false ∧ (t.entry (.douser h)).value = .douser false ∧
    t.slot h = { s.slot h with role := (s.role h).halted } ∧ { t.mon h with idleTimer := (s.mon h).idleTimer } = s.mon h
  lamps : ∀ h, h.house = k → t.lamp h = if (s.lamp h).state = .dark then s.lamp h else (s.lamp h).darkAt s.ms
  sound : (t.entry (.sound k)).value = .sound none
  engine : t.eng k = { s.eng k with state := .halted, runup := none, faultClaim := true }
  lights : (t.light k).requests.fault = some { position := (s.light k).faultPos, fade := (s.light k).fastFade }
  elsewhere : s.SameHouse t (otherHouse k) ∧ s.SameTables t

/-! ### The panel's keys -/

/-- The keys of one byte of a key map handed on from bit 0 upward, those alone that stand in the byte delivered and not in the one before
it (R171, R172). -/
def handOn (keys : List (State → State)) (now last : Byte) (s : State) : State :=
  keys.zipIdx.foldl (fun t key => if now.getLsbD key.2 = true ∧ last.getLsbD key.2 = false then key.1 t else t) s

/-- What the keys of a house byte do, bit 0 first (R172). -/
def houseKeys (k : House) : List (State → State) :=
  [fun t => (t.arm k none).1, fun t => (t.start k).1, fun t => (t.change k).1, fun t => (t.haltFunction k).1,
    fun t => (t.resume k).1, fun t => t.lightsUp k, fun t => t.lightsDown k, fun t => t.lightsAuto k]

/-- What the keys of the head byte do: THREAD of Heads 1 to 4, then STRIKE of Heads 1 to 4 (R172). -/
def headKeys : List (State → State) :=
  [.h1, .h2, .h3, .h4].map (fun h t => (State.thread t h).1) ++ [.h1, .h2, .h3, .h4].map fun h t => State.strikeRequest t h

/-- What the keys of the common byte do: FIRE DROP and FIRE RESET of the two houses, then ACK; bits 5 to 7 do nothing (R172, R178). -/
def commonKeys : List (State → State) :=
  [fun t => t.fireDrop .one, fun t => t.fireDrop .two, fun t => (t.fireReset .one).1, fun t => (t.fireReset .two).1,
    fun t => (t.acknowledge 0xFFFF).endOfAlert]

/-! ### The changeover -/

/-- Frames before everything R119 judges: the last picture frame, and for a changeover reel the strike point and the ends of both cue
windows. -/
def Reel.nothingDue (r : Reel) (counter lead fps : Nat) : Prop :=
  counter < r.last ∧
    (r.intervalAfter = false → r.showEnd = false →
      counter + lead * fps < r.motorCue ∧ counter < r.motorCue + r.window ∧ counter < r.changeCue + r.window)

/-- The marks, flags and run-up of an engine clear, and its fault claim withdrawn (R106, R110, R120). -/
def Engine.fresh (e : Engine) : Engine :=
  { e with
    strikeDone := false, motorTaken := false, changeTaken := false, changePending := false, dark := false, runup := none
    faultClaim := false }

/-- The requests of a house whose picture comes up from a record: FAULT withdrawn, and SHOW the record's light cue when it carries one
(R144, R145). -/
def Requests.withCue (r : Requests) (cue : Option LightCue) : Requests :=
  { r with
    fault := none
    shown := match cue with
      | some q => { position := q.position, fade := q.fade }
      | none => r.shown }

/-- A house's heads, lamps and fire are as they were but for the idle timers, and nothing of the other house or of the tables moves. -/
structure State.PictureOnly (s t : State) (k : House) : Prop where
  monitors : ∀ h, { t.mon h with idleTimer := (s.mon h).idleTimer } = s.mon h
  lamps : t.lamps = s.lamps
  fire : t.fire = s.fire
  notices : t.notices = s.notices
  elsewhere : s.SameHouse t (otherHouse k) ∧ s.SameTables t

/-- The effects of a swap to a head after which no step of R119 and no tail's end is due (R120). -/
structure State.Swapped (s t : State) (inc : Head) : Prop where
  dousers : (t.entry (.douser inc.partner)).value = .douser false ∧ (t.entry (.douser inc)).value = .douser true
  sound : (t.entry (.sound inc.house)).value = .sound (some inc)
  shows : t.slot inc = { s.slot inc with role := .showing }
  leaves : t.slot inc.partner =
    { s.slot inc.partner with role := if s.role inc.partner = .showing then .tailing else s.role inc.partner }
  engine : t.eng inc.house = { (s.eng inc.house).fresh with cur := (s.eng inc.house).cur + 1 }
  requests : (t.light inc.house).requests =
    (s.light inc.house).requests.withCue (s.programme.record ((s.eng inc.house).cur + 1)).light
  rest : s.PictureOnly t inc.house

/-- What a swap needs so that nothing more follows in its event: nothing is due for the head coming up on the next record, and the head
left is not at its tail's end (R119, R120, R125). -/
def State.SwapEnds (s : State) (inc : Head) : Prop :=
  let e := s.eng inc.house
  (s.programme.record (e.cur + 1)).nothingDue (s.mon inc).counter e.strikeLead (s.mon inc).fps ∧
    ∀ i, (s.slot inc.partner).held = some i → (s.mon inc.partner).counter < (s.programme.record i).last + e.runout

/-- The incoming head started: its lamp asked to strike, its motor run, its role STARTING, and a run-up for purpose INCOMING, which is
over at once when the head is ready already (R109, R110). -/
def State.incomingStarted (s : State) (inc : Head) : State :=
  let k := inc.house
  let t := ((s.strikeRequest inc).writeDrive (.motor inc) (.motor true)).setRole inc .starting
  t.setEng k
    { t.eng k with
      runup :=
        if (s.mon inc).motion = .locked ∧ (s.lamp inc).state = .burning then none
        else some { head := inc, purpose := .incoming, deadline := s.ms + (s.eng k).runupLimit * 1000 } }

/-- A head started (R109): its lamp asked to strike, its motor run, its role STARTING unless it is the SHOWING head started for RESUME, and
the run-up running to the run-up limit. A head that is ready already is taken by the engine within the same event (R110). -/
def State.headStarted (s : State) (h : Head) (p : Purpose) : State :=
  let k := h.house
  let t := (s.strikeRequest h).writeDrive (.motor h) (.motor true)
  let u := if p = .resume ∧ s.role h = .showing then t else t.setRole h .starting
  let v := u.setEng k { u.eng k with runup := some { head := h, purpose := p, deadline := s.ms + (s.eng k).runupLimit * 1000 } }
  if (s.mon h).motion = .locked ∧ (s.lamp h).state = .burning then v.motionReport h else v

/-- The motor cue taken while no change is pending (R116). -/
def State.motorTaken (s : State) (inc : Head) : State :=
  let t := s.setEng inc.house { s.eng inc.house with motorTaken := true }
  if s.role inc = .threaded then t.incomingStarted inc
  else if s.role inc = .empty ∨ s.role inc = .tailing then t.raise .notThreaded (.head inc) (some .motor)
  else t

/-- The change cue taken with the incoming head not ready (R118). -/
def State.changeHeld (s : State) (inc : Head) : State :=
  (s.setEng inc.house { s.eng inc.house with changeTaken := true, changePending := true }).raise .lateIncoming (.head inc) (some .change)

/-- A head's picture and sound end with its last picture frame (R122 to R125): its douser is closed, the sound is none, and the head is
TAILING, or EMPTY with its motor stopped and its lamp put out when its record's L plus the runout is behind it already. A record outside
the house's region answers no L (R99; log entry 31). -/
structure State.ReelOver (s t : State) (h : Head) : Prop where
  douser : (t.entry (.douser h)).value = .douser false
  sound : (t.entry (.sound h.house)).value = .sound none
  runs : ∀ i, (s.slot h).held = some i → s.programme.owner i = h.house →
    (s.mon h).counter < (s.programme.record i).last + (s.eng h.house).runout →
    t.slot h = { role := .tailing, held := some i } ∧ t.lamp h = s.lamp h ∧ (t.entry (.motor h)).value = (s.entry (.motor h)).value
  done : ∀ i : Fin 64, (s.slot h).held = some i.val → s.programme.owner i = h.house → (s.programme.reels.get i).last ≠ 0 →
    (s.programme.reels.get i).last + (s.eng h.house).runout ≤ (s.mon h).counter →
    t.slot h = { role := .empty, held := none } ∧ (t.entry (.motor h)).value = .motor false ∧
      t.lamp h = if (s.lamp h).state = .dark then s.lamp h else (s.lamp h).darkAt s.ms
  unknown : (∀ i : Fin 64, (s.slot h).held = some i.val → s.programme.owner i ≠ h.house ∨ (s.programme.reels.get i).last = 0) →
    t.slot h = { s.slot h with role := .tailing } ∧ t.lamp h = s.lamp h
  monitors : ∀ h', { t.mon h' with idleTimer := (s.mon h').idleTimer } = s.mon h'
  others : t.fire = s.fire ∧ (∀ h', h' ≠ h → s.SameHead t h') ∧ s.SameHouse t (otherHouse h.house) ∧ s.SameTables t

/-! ### Light lost -/

/-- The effects of an arc that goes out or a lamp that reaches carbon end (R73, R74, R127): the lamp is FAILED with its contactor
released, its rate 0 and its timers idle; a BURNING lamp of the SHOWING head of a RUNNING house loses the picture before the lamp's own
notice is raised. `shut` says that the regulator itself closes the douser. -/
structure State.LampFailed (s t : State) (h : Head) (account : Lamp) (e : Event) (code : Code) (shut : Bool) : Prop where
  lamp : t.lamp h =
    { account with state := .failed, contactor := false, rate := 0, strikeTimer := none, staleTimer := none, stale := false }
  entries : (t.entry (.lamp h)).value = .lamp false ∧ (t.entry (.feed h)).value = .feed 0
  shown : (s.lamp h).state = .burning → (s.eng h.house).state = .running → s.role h = .showing →
    (t.entry (.douser h)).value = .douser false ∧ t.eng h.house = { s.eng h.house with faultClaim := true } ∧
      (t.light h.house).requests =
        { (s.light h.house).requests with
          fault := some { position := (s.light h.house).faultPos, fade := (s.light h.house).fastFade } } ∧
      t.notices = (s.notices.raised .pictureLost (.head h) (some .lamp)).raised e (.head h) (some code)
  unshown : (s.lamp h).state ≠ .burning ∨ (s.eng h.house).state ≠ .running ∨ s.role h ≠ .showing →
    (t.entry (.douser h)).value = (if shut then .douser false else (s.entry (.douser h)).value) ∧ t.eng h.house = s.eng h.house ∧
      t.light h.house = s.light h.house ∧ t.notices = s.notices.raised e (.head h) (some code)
  monitor : t.mon h = { s.mon h with idleTimer := none }
  others : t.slots = s.slots ∧ t.fire = s.fire ∧ (∀ h', h' ≠ h → s.SameHead t h') ∧ s.SameHouse t (otherHouse h.house) ∧
    s.SameTables t

/-! ### Values as sent -/

/-- An enumerated value as sent: its place in the list where its rule names the values, from 0 (R191). -/
def placeIn {α : Type} [DecidableEq α] (names : List α) (x : α) : Byte := BitVec.ofNat 8 (names.idxOf x)

/-- A number in two bytes, high byte first (section 4.8). -/
def twoBytes (n : Nat) : List Byte := [BitVec.ofNat 8 (n / 256), BitVec.ofNat 8 n]

/-- A count or none in two bytes: a count too large is sent as the greatest value, and none as all bits 1 (R191). -/
def twoOrNone : Option Nat → List Byte
  | some n => twoBytes (min n 65535)
  | none => [0xFF, 0xFF]

/-- A flag as sent (R191). -/
def yesNo (b : Bool) : Byte := if b then 1 else 0

/-! ### The start -/

/-- The stored check sum is the sum of the contents (R192). -/
def State.StoreKept (s : State) : Prop := s.checkSum = storeSum s.retained

/-- A house is found in FIRE at a start: its latch is set or its link line is open (R169). -/
def State.foundInFire (s : State) (k : House) : Bool := (s.fireOf k).latch || s.starter.link.get k

/-- The state a warm start leaves (R192, R194, R195 and the initial values that step 3 names): every retained content is kept, and all
the rest is at its start value. -/
structure State.WarmStarted (s t : State) (code : Code) : Prop where
  starter : t.starter = { s.starter with stopped := false, supplyFallen := false }
  orders : t.orders = { s.orders with restart := .clear }
  matcher : t.matcher = { s.matcher with counts := Table.replicate 32 0, malformed := 0 }
  programme : t.programme = s.programme
  loop : { t.loop with fifo := [] } =
    { s.loop with
      state := .search, rate := .r19200, dwell := some (t.ms + 600), guard := none, latch := false, leaveAwaiting := false
      bypass := true, rx := .seeking, repeats := [], transit := [], losses := 0, fifo := [], out := .free
      counters := LoopCounters.zero }
  monitors : ∀ h, t.mon h =
    { s.mon h with
      motion := .stopped, streak := 0, counter := 0, lastPulse := none, interval := none, slowTimer := none, stopTimer := none
      idleTimer := none, overspeed := 0, hold := false }
  lamps : ∀ h, t.lamp h =
    { s.lamp h with
      state := .dark, acc := 0, rate := 0, rem := 0, accounted := none, sample := none, stale := false, strikeTimer := none
      staleTimer := none, carbonLow := false, contactor := false }
  slots : ∀ h, t.slot h = { role := .empty, held := none }
  engines : ∀ k, t.eng k =
    (let first := match k with
      | .one => 0
      | .two => s.programme.split
    { s.eng k with
      state := if s.foundInFire k then .halted else .idle
      cur := first, highest := (first : Int) - 1, strikeDone := false, motorTaken := false, changeTaken := false
      changePending := false, dark := false, runup := none, faultClaim := false, stray := 0 })
  lights : ∀ k, t.light k =
    (let position := if s.foundInFire k then 255 else (s.light k).idlePos
    { s.light k with
      pointer := 0, holder := [], position := position, fade := none, lastTriple := (s.light k).lookup position
      requests :=
        { fire := if s.foundInFire k then some { position := 255, fade := 0 } else none
          fault := none, operator := none, shown := { position := (s.light k).idlePos, fade := 0 } } })
  fire : t.fire.holdTime = s.fire.holdTime ∧ t.fire.confirmWindow = s.fire.confirmWindow ∧
    ∀ k, t.fireOf k =
      { state := if s.foundInFire k then .fire else .clear
        latch := s.foundInFire k, detectors := [], linkOpen := s.starter.link.get k, port := !s.foundInFire k
        gate := !s.foundInFire k }
  drive : t.drive.refreshPeriod = s.drive.refreshPeriod
  entries : ∀ d, (t.entry d).station = (s.entry d).station ∧ (t.entry d).fn = (s.entry d).fn ∧
    (t.entry d).dirty = some { cls := (t.entry d).value.cls, since := t.ms } ∧ (t.entry d).lastValue = none ∧
    (t.entry d).lastTime = none
  values : (∀ h, (t.entry (.motor h)).value = .motor false ∧ t.LampEntriesSafe h) ∧
    ∀ k, (t.entry (.sound k)).value = .sound none ∧ (t.entry (.dim k)).value = .dim (t.light k).lastTriple
  panel : t.panel =
    { s.panel with last := { house1 := 0, house2 := 0, head := 0, common := 0 }, present := false, guard := none }
  notices : t.notices.mask = s.notices.mask ∧ t.notices.quietTime = s.notices.quietTime ∧ t.notices.quietTimer = none ∧
    t.notices.alert = (t.notices.pending &&& ~~~t.notices.mask != 0) ∧
    ∀ e, t.notices.isPending e = decide (e = .restarted ∨ (e = .fire1 ∧ s.foundInFire .one) ∨ (e = .fire2 ∧ s.foundInFire .two))
  causes : t.notices.causes.get Event.restarted.num = { cause := .none, code := some code, count := 1 } ∧
    (∀ k, s.foundInFire k = true → t.notices.causes.get (fireEvent k).num = { cause := .house k, code := some .start, count := 1 }) ∧
    ∀ e, t.notices.isPending e = false → t.notices.causes.get e.num = { cause := .none, code := none, count := 0 }
  fifo : t.loop.fifo =
    if s.notices.isMasked .restarted = false then
      [.notice { pending := t.notices.pending, event := .restarted, cause := .none, code := some code, count := 1 }]
    else if s.foundInFire .two = true ∧ s.notices.isMasked .fire2 = false then
      [.notice
        { pending := if s.foundInFire .one then 3 else 2
          event := .fire2, cause := .house .two, code := some .start, count := 1 }]
    else if s.foundInFire .one = true ∧ s.notices.isMasked .fire1 = false then
      [.notice { pending := 1, event := .fire1, cause := .house .one, code := some .start, count := 1 }]
    else []
  store : t.StoreKept
  rest : t.pending = s.pending ∧ t.freeCount = s.freeCount

/-- The delivered contents of the store, which a cold start writes before it initializes the owners (R192 and the rules it names). -/
def State.delivered (s : State) : State :=
  { s with
    orders := { s.orders with own := 24, addressLock := false }
    loop := { s.loop with guardTime := 1500, returnLimit := 500, console := 1 }
    matcher :=
      { s.matcher with
        writeLock := false
        table := Table.replicate 32
          { inUse := false, source := 0, kind := 0, selValue := 0, selMask := 0, action := .pass, consume := false, protect := false
            lockMark := false } }
    programme :=
      { reels := Table.replicate 64
          { side := .a, last := 0, motorCue := 0, changeCue := 0, window := 0, intervalAfter := false, showEnd := false, light := none }
        split := 32 }
    drive :=
      { entries := Table.ofIndex 20 fun i =>
          { station := 0, fn := BitVec.ofNat 8 (if i < 16 then i % 4 + 1 else i % 2 + 5), value := .feed 0, dirty := none
            lastValue := none, lastTime := none }
        refreshPeriod := 2000 }
    monitors := s.monitors.map fun m => { m with inService := true, fps := 24, stopLimit := 400, idleLimit := 120 }
    lamps := s.lamps.map fun l =>
      { l with
        record :=
          { target := 560, base := 96, kp := 32, ki := 64, fmax := 240, imin := 40, trimLength := 9000, lowMargin := 120
            strikeLimit := 5 }
        rod := 9000 }
    engines := s.engines.map fun e => { e with runupLimit := 10, strikeLead := 40, runout := 192 }
    lights := s.lights.map fun l =>
      { l with
        curve := Table.ofIndex 64 fun i => { ceiling := i * 255 / 63, wall := i * 255 / 63, aisle := i * 255 / 63 }
        idlePos := 255, faultPos := 128, intervalPos := 160, endPos := 255, fastFade := 20 }
    fire := { house := s.fire.house.map fun f => { f with latch := false }, holdTime := 10, confirmWindow := 30 }
    panel := { s.panel with guardTime := 2000 }
    notices := { s.notices with mask := 0, quietTime := 1000 } }

/-- The part stopped by a RESTART that a supply fall or a reset joins (R193, R196; log entry 14): the direct lines are released, the
retained contents and their sum stand, and the wait is over. -/
structure State.RestartHalted (s t : State) : Prop where
  starter : t.starter = { s.starter with stopped := true }
  orders : t.orders = { s.orders with restart := .clear }
  store : t.retained = s.retained ∧ t.StoreKept
  lines : (∀ h, (t.mon h).hold = false ∧ (t.lamp h).contactor = false) ∧ (∀ k, (t.fireOf k).port = false) ∧
    t.notices.alert = false ∧ t.loop.bypass = true

/-- No supply fall and no reset waits next at the same moment (R196; log entry 14). -/
def State.StartsAlone (s : State) : Prop := ∀ rest, s.pending ≠ .supplyFail 0 :: rest ∧ s.pending ≠ .resetAssert 0 :: rest

/-- The house a command concerns, for the commands that concern one alone. -/
def commandHouse : Instr → Option House
  | .framePulse _ h => some h.house
  | .slowTimerExpiry _ h => some h.house
  | .stopTimerExpiry _ h => some h.house
  | .idleTimerExpiry _ h => some h.house
  | .strikeTimerExpiry _ h => some h.house
  | .staleTimerExpiry _ h => some h.house
  | .runupDeadlineExpiry _ k => some k
  | .fadeStep _ k => some k
  | .linkChange _ k _ => some k
  | .detectorExpiry _ k _ => some k
  | .writeLamp _ _ h _ _ => (headOf h).map Head.house
  | .trim _ _ h _ => (headOf h).map Head.house
  | .showArm _ _ k _ => houseOf k
  | .showStart _ _ k _ => houseOf k
  | .showHalt _ _ k _ => houseOf k
  | .showResume _ _ k _ => houseOf k
  | .showChange _ _ k _ => houseOf k
  | .showLightsUp _ _ k _ => houseOf k
  | .showLightsDown _ _ k _ => houseOf k
  | .showLightsAuto _ _ k _ => houseOf k
  | .showFireDrop _ _ k _ => houseOf k
  | .showFireReset _ _ k _ => houseOf k
  | .showThread _ _ h _ => (headOf h).map Head.house
  | .showStrike _ _ h _ => (headOf h).map Head.house
  | .curvePoint _ _ k _ => houseOf k
  | .curveDataHouse1 _ _ _ => some .one
  | .curveDataHouse2 _ _ _ => some .two
  | .setupServiceFlag _ _ h _ => (headOf h).map Head.house
  | .setupNominalRate _ _ h _ => (headOf h).map Head.house
  | .setupStopLimit _ _ h _ => (headOf h).map Head.house
  | .setupIdleLimit _ _ h _ => (headOf h).map Head.house
  | .setupRunupLimit _ _ k _ => houseOf k
  | .setupStrikeLead _ _ k _ => houseOf k
  | .setupRunout _ _ k _ => houseOf k
  | .setupIdlePosition _ _ k _ => houseOf k
  | .setupFaultPosition _ _ k _ => houseOf k
  | .setupIntervalPosition _ _ k _ => houseOf k
  | .setupEndPosition _ _ k _ => houseOf k
  | .setupFastFadeTime _ _ k _ => houseOf k
  | _ => none

/-! ### Conditions held at every moment -/

/-- A lamp with its arc enabled. -/
def LampState.isLit : LampState → Bool
  | .striking => true
  | .burning => true
  | _ => false

/-- The direct lines and the shutter gates stand as their rules say (R56, R66, R154, R179, R193, section 1.4). -/
structure State.LinesTrue (s : State) : Prop where
  shut : ∀ h, (s.mon h).hold = (s.holdCondition h && !s.starter.stopped)
  arc : ∀ h, (s.lamp h).contactor = ((s.lamp h).state.isLit && !s.starter.stopped)
  port : ∀ k, (s.fireOf k).port = (!s.inFire k && !s.starter.stopped)
  gate : ∀ k, (s.fireOf k).gate = !s.inFire k
  alert : s.notices.alert = (s.notices.alertCondition && !s.starter.stopped)
  bypass : s.loop.bypass = (s.loop.state != .held || s.starter.stopped)

/-- A lamp and its feed stay within their bounds (R65, R66, R80 to R83). -/
structure State.LampKept (s : State) (h : Head) : Prop where
  lit : (s.lamp h).state.isLit = true → (s.mon h).inService = true ∧ s.inFire h.house = false
  idle : (s.lamp h).state ≠ .burning → (s.lamp h).rate = 0
  rate : (s.lamp h).rate ≤ (s.lamp h).record.fmax
  base : (s.lamp h).record.base ≤ (s.lamp h).record.fmax
  feed : (s.entry (.feed h)).value = .feed (s.lamp h).rate
  acc : -32767 ≤ (s.lamp h).acc ∧ (s.lamp h).acc ≤ 32767
  rem : (s.lamp h).rem < 60000
  rod : (s.lamp h).rod ≤ 65535 ∧ (s.lamp h).record.trimLength ≤ 65535

/-- Every lamp within its bounds. -/
def State.LampsKept (s : State) : Prop := ∀ h, s.LampKept h

/-- The queues of the loop unit stay within their bounds, and are empty where the loop state says so (R12, R14, R16 to R21). -/
structure State.QueuesKept (s : State) : Prop where
  repeats : s.loop.repeats.length ≤ 4
  transit : s.loop.transit.length ≤ 4
  fifo : s.loop.fifo.length ≤ 4
  notices : s.loop.fifo.countP Waiting.isNotice ≤ 1
  losses : s.loop.losses ≤ 2
  search : s.loop.state = .search → s.loop.transit = [] ∧ s.loop.losses = 0
  held : s.loop.state ≠ .held → s.loop.repeats = []

/-- A house's fire condition holds together: the latch and the FIRE bit stand exactly in FIRE, and in FIRE the lights are full, the
sound is none, the engine is HALTED without a run-up; the detector list keeps its form (R153, R157, R159, R164, R177). -/
structure State.FireKept (s : State) (k : House) : Prop where
  latch : (s.fireOf k).latch = s.inFire k
  bit : s.notices.isPending (fireEvent k) = s.inFire k
  unmasked : s.notices.isMasked (fireEvent k) = false
  request : (s.light k).requests.fire = if s.inFire k then some { position := 255, fade := 0 } else none
  lights : s.inFire k = true → (s.light k).position = 255 ∧ (s.light k).fade = none
  sound : s.inFire k = true → (s.entry (.sound k)).value = .sound none
  engine : s.inFire k = true → (s.eng k).state = .halted ∧ (s.eng k).runup = none
  list : (s.fireOf k).detectors.length ≤ 4 ∧ ((s.fireOf k).detectors.map Detector.source).Nodup
  fires : s.inFire k = false → ∀ d ∈ (s.fireOf k).detectors, d.condition ≠ .fire

/-- Both houses' fire conditions hold together. -/
def State.FiresKept (s : State) : Prop := ∀ k, s.FireKept k

/-- A record is empty, or holds what the store accepts (R91, R93, R94). -/
def Reel.Kept (r : Reel) : Prop := r = Reel.vacant ∨ (r.fieldsOk = true ∧ r.cuesOk = true)

/-- The programme store keeps the form its orders check: the split point in range, every record empty or valid, and sides alternating
within each region (R90, R93 to R95). -/
structure State.ProgrammeKept (s : State) : Prop where
  split : 1 ≤ s.programme.split ∧ s.programme.split ≤ 63
  records : ∀ i : Fin 64, (s.programme.reels.get i).Kept
  sides : ∀ i : Nat, i + 1 < 64 → s.programme.owner i = s.programme.owner (i + 1) → s.programme.sameSide i (i + 1) = false

/-- A house's picture, sound and marks hold together (R103, R104, R118): at most one head is SHOWING; a douser stands open only on a
SHOWING head, so that the two never both do; SOUND names only a SHOWING head of the house; a head is SHOWING only while the house is
RUNNING or HALTED; a run-up for purpose START runs only in ARMED and INTERVAL; and a pending change has had its cue taken. -/
structure State.ShowKept (s : State) (k : House) : Prop where
  one : ∀ h h', h.house = k → h'.house = k → s.role h = .showing → s.role h' = .showing → h = h'
  dousers : ∀ h, h.house = k → (s.entry (.douser h)).value = .douser true → s.role h = .showing
  sound : ∀ h, (s.entry (.sound k)).value = .sound (some h) → h.house = k ∧ s.role h = .showing
  states : ∀ h, h.house = k → s.role h = .showing → (s.eng k).state = .running ∨ (s.eng k).state = .halted
  runup : ∀ r, (s.eng k).runup = some r → r.purpose = .start → (s.eng k).state = .armed ∨ (s.eng k).state = .interval
  pending : (s.eng k).changePending = true → (s.eng k).changeTaken = true

/-- Both houses' pictures hold together. -/
def State.ShowsKept (s : State) : Prop := ∀ k, s.ShowKept k

/-- A house's run-up names a head of the house (R109). -/
def State.RunupsKept (s : State) : Prop := ∀ k r, (s.eng k).runup = some r → r.head.house = k

/-- A house's light position (R148): the effective request's when no fade runs, and otherwise the one its fade's arithmetic gives, which
lies between the fade's start and its target, the effective request's position. -/
structure State.LightKept (s : State) (k : House) : Prop where
  rest : (s.light k).fade = none → (s.light k).position = (s.light k).requests.effective.2.position
  fades : ∀ f, (s.light k).fade = some f →
    f.target = (s.light k).requests.effective.2.position ∧ f.k < f.n ∧
      ((s.light k).position : Int) = (f.p0 : Int) + (((f.target : Int) - f.p0) * f.k).tdiv f.n ∧
      min f.p0 f.target ≤ (s.light k).position ∧ (s.light k).position ≤ max f.p0 f.target

/-- Both houses' light positions as their rule says. -/
def State.LightsKept (s : State) : Prop := ∀ k, s.LightKept k

end Sys2Proof.Machine
end

