-- ==== Sys2Proof/Certificates/Slice0/Obligations.lean ====
section
/-! DEFINITION. The statements for the provers: one definition each, listed in OBLIGATIONS.json. -/

open Sys2Proof Sys2Proof.Machine

/-! ### The queue and the events -/

/-- A step takes the command at the front of the queue and runs it on the state with the queue's rest. On an empty queue the part idles
(the model's choice, log entry 3). -/
def Obligations.StepTakesFrontOrIdles : Prop :=
  (∀ (c : Instr) (rest : List Instr) (s : State), s.pending = c :: rest → step s = exec c { s with pending := rest }) ∧
  (∀ s : State, s.pending = [] → step s = .next s)

/-- Every command ends in a next state, leaves the queue as it was, and never turns time back. That no command stops the part is the
model's inference (log entry 30), and that time moves by a command's dt alone is its choice (log entry 1). -/
def Obligations.CommandsAnswerNext : Prop :=
  ∀ (c : Instr) (s : State), ∃ t, exec c s = .next t ∧ t.pending = s.pending ∧ s.now ≤ t.now

/-! ### Chapter 1: reception -/

/-- A break discards the telegram under assembly, is counted outside SEARCH, and leaves the receiver seeking a lead; a lead that ended a
gap begins the next telegram. A length error is counted outside SEARCH, and every byte is then ignored until the line has been idle. The
commands bring no bytes, so a break that finds the receiver seeking has found bytes of a telegram and is counted too (the model's
inference, log entry 5). A telegram whose sum from destination through check is not 0 modulo 256, or whose source or destination lies
outside its range, is discarded (R7): it is counted outside SEARCH, where no loop counter advances (R24), it locks no rate (R10, R11), and
it does nothing else; the guard is not restarted. None of these is repeated: the repeat FIFO, the in-transit list, the answer/notice FIFO
and LOOP OUT stay as they were, but for the arbiter's one choice at the end of the event among what waited before it (the model's
inference, log entry 11). An end of the idle gap that finds no length error changes nothing (log entry 5), and a telegram given with more
than 12 payload bytes is a length error (log entry 28); both are the model's inferences. -/
def Obligations.ReceptionErrorsDiscard : Prop :=
  (∀ (s : State) (dt : Nat) (c : BreakCause), s.Awake → s.loop.rx ≠ .ignoring →
    s.BecomesSending (.lineBreak dt c)
      { s.elapse dt with
        loop :=
          { s.loop with
            rx := match c with
              | .gap b => if b = 0xA5 then .assembling [0xA5] else .seeking
              | .framing => .seeking
            counters :=
              if s.loop.state = .search then s.loop.counters
              else { s.loop.counters with brk := min (s.loop.counters.brk + 1) 65535 } } }) ∧
  (∀ (s : State) (dt : Nat), s.Awake →
    (s.loop.rx ≠ .ignoring →
      s.BecomesSending (.lengthError dt)
        { s.elapse dt with
          loop :=
            { s.loop with
              rx := .ignoring
              counters :=
                if s.loop.state = .search then s.loop.counters
                else { s.loop.counters with length := min (s.loop.counters.length + 1) 65535 } } }) ∧
    (s.loop.rx = .ignoring →
      (∀ f, s.BecomesSending (.telegramComplete dt f) (s.elapse dt)) ∧ (∀ c, s.BecomesSending (.lineBreak dt c) (s.elapse dt)) ∧
        s.BecomesSending (.lengthError dt) (s.elapse dt) ∧
        s.BecomesSending (.lengthIdleEnd dt) { s.elapse dt with loop := { s.loop with rx := .seeking } }) ∧
    (s.loop.rx ≠ .ignoring → s.BecomesSending (.lengthIdleEnd dt) (s.elapse dt))) ∧
  (∀ (s : State) (dt : Nat) (f : Frame), s.Awake → s.loop.rx ≠ .ignoring → f.payload.length ≤ 12 →
    ((f.dst.toNat + f.src.toNat + f.kind.toNat + f.payload.length + (f.payload.map BitVec.toNat).sum + f.check.toNat) % 256 ≠ 0 ∨
      ¬ (1 ≤ f.src.toNat ∧ f.src.toNat ≤ 30) ∨ ¬ (1 ≤ f.dst.toNat ∧ f.dst.toNat ≤ 31)) →
    s.BecomesSending (.telegramComplete dt f)
      { s.elapse dt with
        loop :=
          { s.loop with
            rx := .seeking
            counters :=
              if s.loop.state = .search then s.loop.counters
              else { s.loop.counters with check := min (s.loop.counters.check + 1) 65535 } } }) ∧
  (∀ (s : State) (dt : Nat) (f : Frame), s.Awake → s.loop.rx ≠ .ignoring → 12 < f.payload.length →
    s.BecomesSending (.telegramComplete dt f)
      { s.elapse dt with
        loop :=
          { s.loop with
            rx := .ignoring
            counters :=
              if s.loop.state = .search then s.loop.counters
              else { s.loop.counters with length := min (s.loop.counters.length + 1) 65535 } } })

/-- A good telegram that is neither stripped nor an ORDER to the part goes to the matcher in HELD and LISTEN and restarts the guard. The
entry that takes it, whatever its action, has its match count advanced and the telegram delivered by its action; with none, nothing is
delivered. The telegram is kept back when it is addressed to the part, when the loop unit is not HELD, and when the taking entry is a DROP
or has its consume field set. Otherwise it joins the tail of the repeat FIFO unchanged, or is dropped and counted when 4 are held, and the
head goes out at once when LOOP OUT is free. That the arbiter chooses once, at the end of the event, so that the repeat goes out first
even when the delivered action has made SAFETY or CHANGE drive claims in it, is the model's inference (log entry 11). -/
def Obligations.GoodTelegramRouted : Prop :=
  ∀ (s : State) (dt : Nat) (f : Frame), s.Awake → s.loop.rx ≠ .ignoring → f.payload.length ≤ 12 → f.checkOk = true →
    f.addressOk = true → s.loop.state ≠ .search → f.src ≠ s.orders.own → (∀ e ∈ s.loop.transit, e.frame.src ≠ f.src) →
    (f.dst = s.orders.own → f.kind ≠ 0x20) →
    let arrived : State :=
      { s.elapse dt with
        loop := { s.loop with rx := .seeking, guard := some ((s.elapse dt).ms + s.loop.guardTime) } }
    let taken := fun i : Fin 32 =>
      { arrived with
        matcher := { s.matcher with counts := s.matcher.counts.set i (min (s.matcher.counts.get i + 1) 65535) } }
    let delivered := match s.matcher.taking f with
      | some i => (taken i).deliver (s.matcher.table.get i).action f
      | none => arrived
    let kept := f.dst = s.orders.own ∨ s.loop.state ≠ .held ∨
      ∃ i, s.matcher.taking f = some i ∧ ((s.matcher.table.get i).action = .drop ∨ (s.matcher.table.get i).consume = true)
    let sending := fun (t : State) (waiting : List Frame) =>
      if s.loop.state = .held ∧ s.loop.out = .free ∧ s.loop.leaveAwaiting = false then
        t.loop.repeats = waiting.tail ∧ ∀ g rest, waiting = g :: rest → t.loop.out = .sending (.repeated g)
      else t.loop.out = s.loop.out ∧ t.loop.repeats = waiting
    (kept → s.BecomesWith (.telegramComplete dt f) delivered fun t => sending t s.loop.repeats) ∧
    (¬ kept → s.loop.repeats.length < 4 →
      s.BecomesWith (.telegramComplete dt f) delivered fun t => sending t (s.loop.repeats ++ [f])) ∧
    (¬ kept → 4 ≤ s.loop.repeats.length →
      s.BecomesWith (.telegramComplete dt f)
        { delivered with
          loop :=
            { delivered.loop with
              counters := { delivered.loop.counters with overrun := min (delivered.loop.counters.overrun + 1) 65535 } } }
        fun t => sending t s.loop.repeats)

/-- A telegram that comes back takes the earliest entry it equals out of the in-transit list, and every older entry is lost: the lost
counter advances by each, the consecutive-loss count is 0, no notice is raised and the loop state stays. The arbiter may list one telegram
more. A stripped telegram that equals no entry is a clash: the list and the loss count stay, the clash counter advances and LOOP is raised
with code CLASH. A stripped telegram is not repeated (R8): the repeat FIFO keeps what it held, its head going out at once when LOOP OUT is
free in HELD with no LEAVE awaiting its move, and of the queues nothing else moves but by the NOTICE of the clash and the arbiter's one
choice at the end of the event (the model's inference, log entry 11). -/
def Obligations.StripHandling : Prop :=
  (∀ (s : State) (dt : Nat) (f : Frame) (k : Nat), s.Awake → s.loop.rx ≠ .ignoring → f.payload.length ≤ 12 → f.checkOk = true →
    f.addressOk = true → s.loop.state ≠ .search → (s.loop.transit[k]?).map Transit.frame = some f →
    (∀ j < k, (s.loop.transit[j]?).map Transit.frame ≠ some f) →
    s.BecomesWith (.telegramComplete dt f)
      { s.elapse dt with
        loop :=
          { s.loop with
            rx := .seeking
            guard := some ((s.elapse dt).ms + s.loop.guardTime)
            losses := 0
            counters := { s.loop.counters with lost := min (s.loop.counters.lost + k) 65535 } } }
      fun t => (∃ new, new.length ≤ 1 ∧ t.loop.transit = s.loop.transit.drop (k + 1) ++ new) ∧
        State.ArbiterChose
          { s.elapse dt with
            loop :=
              { s.loop with
                rx := .seeking
                guard := some ((s.elapse dt).ms + s.loop.guardTime)
                transit := s.loop.transit.drop (k + 1)
                losses := 0
                counters := { s.loop.counters with lost := min (s.loop.counters.lost + k) 65535 } } } t ∧
        s.RepeatsNothing t) ∧
  (∀ (s : State) (dt : Nat) (f : Frame), s.Awake → s.loop.rx ≠ .ignoring → f.payload.length ≤ 12 → f.checkOk = true →
    f.addressOk = true → s.loop.state ≠ .search → (f.src = s.orders.own ∨ ∃ e ∈ s.loop.transit, e.frame.src = f.src) →
    (∀ e ∈ s.loop.transit, e.frame ≠ f) →
    s.BecomesWith (.telegramComplete dt f)
      { s.elapse dt with
        loop :=
          { s.loop with
            rx := .seeking
            guard := some ((s.elapse dt).ms + s.loop.guardTime)
            counters := { s.loop.counters with clash := min (s.loop.counters.clash + 1) 65535 } }
        notices := s.notices.raised .loop .none (some .clash) }
      fun t => (∃ new, new.length ≤ 1 ∧ t.loop.transit = s.loop.transit ++ new) ∧
        State.ArbiterChose
          (State.raise
            { s.elapse dt with
              loop :=
                { s.loop with
                  rx := .seeking
                  guard := some ((s.elapse dt).ms + s.loop.guardTime)
                  counters := { s.loop.counters with clash := min (s.loop.counters.clash + 1) 65535 } } }
            .loop .none (some .clash)) t ∧
        s.RepeatsNothing t)

/-! ### Chapter 1: loop states -/

/-- In SEARCH the dwell's expiry moves on to the next rate of the cycle with a new dwell of 600 ms and discards a telegram under assembly;
the first good telegram locks the rate under trial, starts the guard and, with the latch clear, opens the relay. Stripped, it is then a
clash or a return in the state entered, and is not repeated. Otherwise it is delivered in that state by the entry that takes it, addressed
to the part or not (an ORDER to the part apart, which is taken from the state heard), and is not repeated, whatever the entry says. That
the arbiter chooses once, at the end of the event, is the model's inference (log entry 11). -/
def Obligations.SearchTriesRatesAndLocks : Prop :=
  ∀ (s : State) (dt : Nat), s.Awake → s.loop.state = .search →
    (∀ d, s.loop.dwell = some d → d ≤ (s.elapse dt).ms →
      exec (.searchDwellExpiry dt) s = .next
        { s.elapse dt with
          loop :=
            { s.loop with
              rate := match s.loop.rate with
                | .r19200 => .r9600
                | .r9600 => .r4800
                | .r4800 => .r2400
                | .r2400 => .r19200
              dwell := some ((s.elapse dt).ms + 600)
              rx := match s.loop.rx with
                | .assembling _ => .seeking
                | x => x } }) ∧
    (∀ f : Frame, s.loop.rx ≠ .ignoring → f.payload.length ≤ 12 → f.checkOk = true → f.addressOk = true →
      let locked : State :=
        { s.elapse dt with
          loop :=
            { s.loop with
              state := if s.loop.latch then .listen else .held
              dwell := none
              bypass := s.loop.latch
              rx := .seeking
              guard := some ((s.elapse dt).ms + s.loop.guardTime) } }
      let taken := fun i : Fin 32 =>
        { locked with
          matcher := { s.matcher with counts := s.matcher.counts.set i (min (s.matcher.counts.get i + 1) 65535) } }
      let delivered := match s.matcher.taking f with
        | some i => (taken i).deliver (s.matcher.table.get i).action f
        | none => locked
      (f.src ≠ s.orders.own → (∀ e ∈ s.loop.transit, e.frame.src ≠ f.src) → (f.dst = s.orders.own → f.kind ≠ 0x20) →
        s.BecomesWith (.telegramComplete dt f) delivered locked.RepeatsNothing) ∧
      ((f.src = s.orders.own ∨ ∃ e ∈ s.loop.transit, e.frame.src = f.src) → (∀ e ∈ s.loop.transit, e.frame ≠ f) →
        s.BecomesWith (.telegramComplete dt f)
          { locked with
            loop := { locked.loop with counters := { s.loop.counters with clash := min (s.loop.counters.clash + 1) 65535 } }
            notices := s.notices.raised .loop .none (some .clash) }
          fun t => (∃ new, new.length ≤ 1 ∧ t.loop.transit = s.loop.transit ++ new) ∧ locked.RepeatsNothing t) ∧
      (∀ k : Nat, (s.loop.transit[k]?).map Transit.frame = some f →
        (∀ j < k, (s.loop.transit[j]?).map Transit.frame ≠ some f) →
        s.BecomesWith (.telegramComplete dt f)
          { locked with
            loop :=
              { locked.loop with
                losses := 0
                counters := { s.loop.counters with lost := min (s.loop.counters.lost + k) 65535 } } }
          fun t => (∃ new, new.length ≤ 1 ∧ t.loop.transit = s.loop.transit.drop (k + 1) ++ new) ∧ locked.RepeatsNothing t))

/-- The loop guard's expiry outside SEARCH enters SEARCH and raises LOOP with code GUARD. The entries at the head of the in-transit list
whose deadlines have passed are lost, oldest first; each advances the lost counter and the consecutive-loss count, and when the count
reaches 3 the loop unit enters SEARCH and raises LOOP with code LOSS. A DRIVE cut off by the entry makes its entry dirty again under the
class and the time it had when started, REFRESH among them (the model's inference, log entry 32). -/
def Obligations.SilenceEntersSearch : Prop :=
  (∀ (s : State) (dt d : Nat), s.Awake → s.loop.state ≠ .search → s.loop.guard = some d → d ≤ (s.elapse dt).ms →
    ∃ t, exec (.loopGuardExpiry dt) s = .next t ∧ (s.elapse dt).SearchEntered t .guard) ∧
  (∀ (s : State) (dt : Nat), s.Awake → s.loop.state ≠ .search → s.loop.losses ≤ 2 →
    let k := (s.loop.transit.takeWhile fun e => e.deadline.any fun d => decide (d ≤ (s.elapse dt).ms)).length
    (s.loop.losses + k < 3 →
      s.BecomesWith (.returnDeadlineExpiry dt)
        { s.elapse dt with
          loop :=
            { s.loop with
              losses := s.loop.losses + k
              counters := { s.loop.counters with lost := min (s.loop.counters.lost + k) 65535 } } }
        fun t => ∃ new, new.length ≤ 1 ∧ t.loop.transit = s.loop.transit.drop k ++ new) ∧
    (3 ≤ s.loop.losses + k →
      ∃ t, exec (.returnDeadlineExpiry dt) s = .next t ∧
        State.SearchEntered
          { s.elapse dt with
            loop :=
              { s.loop with
                counters := { s.loop.counters with lost := min (s.loop.counters.lost + (3 - s.loop.losses)) 65535 } } }
          t .loss))

/-- LEAVE is answered DONE and sets the service latch; in HELD it moves the loop unit to LISTEN, at once or, while a telegram is being
sent, when its last byte has been sent. JOIN is answered DONE and clears the service latch and any awaited move; in LISTEN it moves the
loop unit to HELD. -/
def Obligations.LeaveAndJoinMoveLoop : Prop :=
  (∀ (s : State) (dt : Nat) (src : Byte), s.Listens src →
    let l := (s.heard dt).loop
    s.Performs (.leave dt src) src 0x12 .done []
      { s.heard dt with
        loop :=
          if l.state = .held then
            match l.out with
            | .sending _ => { l with latch := true, leaveAwaiting := true }
            | _ => { l with latch := true, state := .listen, bypass := true, leaveAwaiting := false }
          else { l with latch := true } }) ∧
  (∀ (s : State) (dt : Nat) (src : Byte), s.Listens src →
    let l := (s.heard dt).loop
    s.Performs (.join dt src) src 0x13 .done []
      { s.heard dt with
        loop :=
          if l.state = .listen then { l with latch := false, leaveAwaiting := false, state := .held, bypass := false }
          else { l with latch := false, leaveAwaiting := false } })

/-! ### Chapter 1: the arbiter -/

/-- The last byte of a telegram leaves LOOP OUT in its gap, sets the deadlines not yet set, records a DRIVE's last-sent time, and makes an
awaited move to LISTEN. -/
def Obligations.LastByteEndsSending : Prop :=
  ∀ (s : State) (dt : Nat) (x : Sending), s.Awake → s.loop.out = .sending x →
    ∃ t, exec (.lastByteSent dt) s = .next t ∧
      t.loop =
        (let l :=
          { s.loop with
            out := .gap
            transit := s.loop.transit.map fun e =>
              { e with deadline := some (e.deadline.getD ((s.elapse dt).ms + s.loop.returnLimit)) } }
        if s.loop.leaveAwaiting then { l with state := .listen, bypass := true, repeats := [], leaveAwaiting := false } else l) ∧
      (∀ f d cls since, x = .drive f d cls since →
        t.drive = (s.setEntry d { s.entry d with lastTime := some (s.elapse dt).ms }).drive) ∧
      ((∀ f d cls since, x ≠ .drive f d cls since) → t.drive = s.drive) ∧
      { t with loop := s.loop, drive := s.drive } = s.elapse dt

/-- When LOOP OUT falls free in HELD with no LEAVE awaiting its move, a waiting repeat goes first, whatever is in transit; with fewer than
4 in transit the waiting drive entries of SAFETY and CHANGE come next, then the answer/notice FIFO, then the other drive entries, each by
class, dirtied time and index. A DRIVE started leaves its entry not dirty, with the value sent as its last-sent value and no last-sent
time until its last byte (R38). The value bytes of a DRIVE are one byte 0 or 1 for a motor, a douser and a lamp, two for a feed rate, high
byte first, the head's number or 0 for the sound, and three for the lights (R39). The payload of a NOTICE is the pending set, the event's
number, which is its bit, the cause's kind and number, the code's place in the event's list, from 1, or 0 for none, and the raise count
(R174, R176, R191). The check byte of a telegram brings its sum to 0 modulo 256 (R2). -/
def Obligations.ArbiterOrder : Prop :=
  (∀ (s : State) (dt : Nat), s.Awake → s.loop.out = .gap →
    (s.loop.state ≠ .held ∨ s.loop.leaveAwaiting = true →
      exec (.loopOutFree dt) s = .next { s.elapse dt with loop := { s.loop with out := .free } }) ∧
    (s.loop.state = .held → s.loop.leaveAwaiting = false →
      s.BecomesWith (.loopOutFree dt) (s.elapse dt) fun t =>
        (∀ f rest, s.loop.repeats = f :: rest →
          t.loop.out = .sending (.repeated f) ∧ t.loop.repeats = rest ∧ t.loop.transit = s.loop.transit) ∧
        (s.loop.repeats = [] → 4 ≤ s.loop.transit.length → t.loop.out = .free) ∧
        (s.loop.repeats = [] → s.loop.transit.length < 4 →
          (∀ d cls since, s.FirstWaiting d cls since → (cls.rank ≤ 1 ∨ s.loop.fifo = []) →
            let f := Frame.make (s.entry d).station s.orders.own 0x30 ((s.entry d).fn :: (s.entry d).value.bytes)
            t.loop.out = .sending (.drive f d cls since) ∧ t.loop.transit = s.loop.transit ++ [{ frame := f, deadline := none }] ∧
              (t.entry d).dirty = none ∧ (t.entry d).lastValue = some (s.entry d).value ∧ (t.entry d).lastTime = none) ∧
          ((∀ d cls since, s.DriveWaits d cls since → 1 < cls.rank) →
            (∀ dst p named rest, s.loop.fifo = .answer dst p named :: rest →
              t.loop.fifo = rest ∧ t.loop.out = .sending (.answer (Frame.make dst s.orders.own 0x21 p) named)) ∧
            (∀ c rest, s.loop.fifo = .notice c :: rest →
              t.loop.fifo = rest ∧ t.loop.out = .sending (.notice (Frame.make s.loop.console s.orders.own 0x22 c.payload) c))) ∧
          ((∀ d cls since, ¬ s.DriveWaits d cls since) → s.loop.fifo = [] → t.loop.out = .free)))) ∧
  (∀ h : Head,
    (driveIndex (.motor h)).val = 4 * (h.num - 1) ∧ (driveIndex (.douser h)).val = 4 * (h.num - 1) + 1 ∧
    (driveIndex (.lamp h)).val = 4 * (h.num - 1) + 2 ∧ (driveIndex (.feed h)).val = 4 * (h.num - 1) + 3) ∧
  (∀ k : House, (driveIndex (.sound k)).val = 14 + 2 * k.num ∧ (driveIndex (.dim k)).val = 15 + 2 * k.num) ∧
  ((∀ r, (DriveVal.motor r).bytes = [yesNo r]) ∧ (∀ o, (DriveVal.douser o).bytes = [yesNo o]) ∧
    (∀ a, (DriveVal.lamp a).bytes = [yesNo a]) ∧ (∀ n, (DriveVal.feed n).bytes = twoBytes n) ∧ (DriveVal.sound none).bytes = [0] ∧
    (∀ h : Head, (DriveVal.sound (some h)).bytes = [BitVec.ofNat 8 h.num]) ∧
    ∀ t, (DriveVal.dim t).bytes = [BitVec.ofNat 8 t.ceiling, BitVec.ofNat 8 t.wall, BitVec.ofNat 8 t.aisle]) ∧
  (∀ c : NoticeContents,
    let events : List Event :=
      [.fire1, .fire2, .alert, .shutter, .pictureLost, .lateIncoming, .runupFail, .cueMissed, .carbonLow, .carbonEnd, .arcFail,
        .showDone, .notThreaded, .loop, .panelLost, .restarted]
    let codes : List Code := match c.event with
      | .fire1 => [.link, .report, .confirm, .drop, .start]
      | .fire2 => [.link, .report, .confirm, .drop, .start]
      | .alert => [.pre, .fault]
      | .shutter => []
      | .pictureLost => [.slow, .lamp, .dark]
      | .lateIncoming => [.change]
      | .runupFail => [.start, .incoming, .resume]
      | .cueMissed => [.motor, .change]
      | .carbonLow => [.thread, .show]
      | .carbonEnd => [.switch, .rod]
      | .arcFail => [.strike, .out]
      | .showDone => [.interval, .ended]
      | .notThreaded => [.strike, .motor]
      | .loop => [.guard, .loss, .clash]
      | .panelLost => [.guard]
      | .restarted => [.cold, .warm, .order, .supply]
    let cause : List Byte := match c.cause with
      | .none => [0, 0]
      | .head h => [1, BitVec.ofNat 8 h.num]
      | .house k => [2, BitVec.ofNat 8 k.num]
      | .zone z => [3, BitVec.ofNat 8 z.num]
    let number := events.idxOf c.event
    c.event.num.val = number ∧
    (c.code = none ∨ (∃ x, c.code = some x ∧ x ∈ codes) →
      c.payload =
        [c.pending.extractLsb' 8 8, c.pending.extractLsb' 0 8, BitVec.ofNat 8 number] ++ cause ++
          [match c.code with
            | some x => BitVec.ofNat 8 (codes.idxOf x + 1)
            | none => 0, BitVec.ofNat 8 (min c.count 255)])) ∧
  (∀ (dst src kind : Byte) (p : List Byte), p.length ≤ 12 →
    let f := Frame.make dst src kind p
    f.dst = dst ∧ f.src = src ∧ f.kind = kind ∧ f.payload = p ∧
      (dst.toNat + src.toNat + kind.toNat + p.length + (p.map BitVec.toNat).sum + f.check.toNat) % 256 = 0)

/-! ### Chapter 2: the tables -/

/-- R26 and R27: the taking entry is the first in index order that is in use and matches; an entry matches when its source and its kind
are 0 or equal to the telegram's, and its selector passes. The taking entry's action checks the payload and delivers it: a cue to the
engine, a lamp sample to the regulator, a detector report to the fire unit for each house its zone concerns (House 1 first for zone 3, log
entry 35), four key maps to the panel decoder; PASS and DROP deliver nothing, and a payload that fails its check advances the malformed
counter and does nothing else. A delivery of key maps is kept, sets the panel-present flag and starts the panel guard; when the panel was
present already, every newly pressed key is handed on, House 1, House 2, head and common byte in turn, each from bit 0. -/
def Obligations.TakingEntryIsFirstMatch : Prop :=
  (∀ (m : Matcher) (f : Frame),
    let passes := fun (e : ReactEntry) =>
      e.selMask = 0 ∨ ∃ b rest, f.payload = b :: rest ∧ ∀ n < 8, e.selMask.getLsbD n = true → b.getLsbD n = e.selValue.getLsbD n
    let taken := fun (i : Fin 32) =>
      (m.table.get i).inUse = true ∧ ((m.table.get i).source = 0 ∨ (m.table.get i).source = f.src) ∧
        ((m.table.get i).kind = 0 ∨ (m.table.get i).kind = f.kind) ∧ passes (m.table.get i)
    (∀ i, m.taking f = some i ↔ taken i ∧ ∀ j < i, ¬ taken j) ∧ (m.taking f = none ↔ ∀ i, ¬ taken i)) ∧
  (∀ (s : State) (f : Frame),
    let malformed : State := { s with matcher := { s.matcher with malformed := min (s.matcher.malformed + 1) 65535 } }
    let byte := fun n => f.payload.getD n 0
    let count := f.payload.length
    s.deliver .pass f = s ∧ s.deliver .drop f = s ∧
    (∀ h, (count = 0 ∨ (byte 0 ≠ 1 ∧ byte 0 ≠ 2) → s.deliver (.cue h) f = malformed) ∧
      (1 ≤ count → byte 0 = 1 → s.deliver (.cue h) f = s.motorCue h) ∧
      (1 ≤ count → byte 0 = 2 → s.deliver (.cue h) f = s.changeCue h)) ∧
    (∀ h,
      let v := 256 * (byte 0).toNat + (byte 1).toNat
      (count < 4 ∨ 999 < v ∨ 199 < (byte 2).toNat → s.deliver (.lamp h) f = malformed) ∧
      (4 ≤ count → v ≤ 999 → (byte 2).toNat ≤ 199 →
        s.deliver (.lamp h) f = s.lampSample h v (byte 2).toNat ((byte 3).getLsbD 0))) ∧
    (∀ z, (count = 0 ∨ 3 < (byte 0).toNat → s.deliver (.sense z) f = malformed) ∧
      (1 ≤ count → ∀ c, [Condition.normal, .pre, .fire, .fault][(byte 0).toNat]? = some c →
        s.deliver (.sense z) f =
          match z with
          | .z1 => s.houseReport .one f.src .z1 c
          | .z2 => s.houseReport .two f.src .z2 c
          | .z3 => (s.houseReport .one f.src .z3 c).houseReport .two f.src .z3 c)) ∧
    (count < 4 → s.deliver .panel f = malformed) ∧
    (4 ≤ count →
      s.deliver .panel f = s.panelDelivery { house1 := byte 0, house2 := byte 1, head := byte 2, common := byte 3 })) ∧
  (∀ (s : State) (m : KeyMap),
    let last := s.panel.last
    let kept : State :=
      { s with panel := { s.panel with last := m, present := true, guard := some (s.ms + s.panel.guardTime) } }
    (s.panel.present = false → s.panelDelivery m = kept) ∧
    (s.panel.present = true →
      s.panelDelivery m =
        handOn commonKeys m.common last.common
          (handOn headKeys m.head last.head
            (handOn (houseKeys .two) m.house2 last.house2 (handOn (houseKeys .one) m.house1 last.house1 kept)))))

/-- R35: WRITE REACT judges index, lock mark and values in that order; accepted, it replaces every field of the entry and sets the index's
match count to 0, and the lock mark is set when the write lock is in force and the entry is protected. The action byte is 0 PASS, 1 DROP,
2 CUE, 3 LAMP, 4 SENSE or 5 PANEL, and the target a head 1 to 4 for CUE and LAMP, a zone 1 to 3 for SENSE and 0 for the others; any other
pair is not valid. -/
def Obligations.WriteReactReplacesEntry : Prop :=
  (∀ (s : State) (dt : Nat) (src : Byte) (p : ReactParams), s.Listens src →
    let c := Instr.writeReact dt src p
    (32 ≤ p.index.toNat → s.Performs c src 0x02 .badIndex [] (s.heard dt)) ∧
    (∀ i : Fin 32, p.index.toNat = i.val →
      ((s.matcher.table.get i).lockMark = true → s.Performs c src 0x02 .locked [] (s.heard dt)) ∧
      ((s.matcher.table.get i).lockMark = false →
        ((30 < p.source.toNat ∨ actionOf p.action p.target = none ∨ 7 < p.flags.toNat) →
          s.Performs c src 0x02 .badValue [] (s.heard dt)) ∧
        (∀ a, p.source.toNat ≤ 30 → actionOf p.action p.target = some a → p.flags.toNat ≤ 7 →
          s.Performs c src 0x02 .done []
            { s.heard dt with
              matcher :=
                { s.matcher with
                  table := s.matcher.table.set i
                    { inUse := p.flags.getLsbD 0, consume := p.flags.getLsbD 1, protect := p.flags.getLsbD 2
                      source := p.source, kind := p.kind, selValue := p.selValue, selMask := p.selMask, action := a
                      lockMark := s.matcher.writeLock && p.flags.getLsbD 2 }
                  counts := s.matcher.counts.set i 0 } })))) ∧
  (∀ action target : Byte,
    let ofHead := fun (f : Head → Action) => (∀ h : Head, target.toNat = h.num → actionOf action target = some (f h)) ∧
      (target.toNat < 1 ∨ 4 < target.toNat → actionOf action target = none)
    let ofNone := fun (a : Action) => actionOf action target = if target = 0 then some a else none
    (action = 0 → ofNone .pass) ∧ (action = 1 → ofNone .drop) ∧ (action = 2 → ofHead .cue) ∧ (action = 3 → ofHead .lamp) ∧
    (action = 4 → (∀ z : Zone, target.toNat = z.num → actionOf action target = some (.sense z)) ∧
      (target.toNat < 1 ∨ 3 < target.toNat → actionOf action target = none)) ∧
    (action = 5 → ofNone .panel) ∧ (5 < action.toNat → actionOf action target = none))

/-- LOCK puts the write lock in force, marks every protected entry, and is answered DONE with the number of entries then bearing a lock
mark, in one byte (the model's choice of the width, log entry 34). While the part runs on a store whose check sum verifies and CLEAR is
not held, no command changes an entry that bears a lock mark, and none ends the write lock. -/
def Obligations.LockHoldsEntries : Prop :=
  (∀ (s : State) (dt : Nat) (src : Byte), s.Listens src →
    let table := s.matcher.table.map fun e => { e with lockMark := e.lockMark || e.protect }
    s.Performs (.lock dt src) src 0x0D .done [BitVec.ofNat 8 (table.cells.filter ReactEntry.lockMark).length]
      { s.heard dt with matcher := { s.matcher with writeLock := true, table := table } }) ∧
  (∀ (c : Instr) (s t : State), s.StoreKept → (∀ dt, c ≠ .supplyReturn dt true) → (∀ dt, c ≠ .resetRelease dt true) →
    exec c s = .next t →
    (s.matcher.writeLock = true → t.matcher.writeLock = true) ∧
      ∀ i, (s.matcher.table.get i).lockMark = true → t.matcher.table.get i = s.matcher.table.get i)

/-- R40: a written value becomes the commanded value at once; a dirty entry stays dirty under the value's class with its dirtied time
kept, an entry that is not dirty becomes dirty unless the value equals the last-sent value, and nothing else changes. The classes of the
values are SAFETY for stop, close and off, CHANGE for run, open, strike and the sound, FEED for a feed rate, and LIGHTS for a triple. -/
def Obligations.WriteDriveMarksDirty : Prop :=
  (∀ (s : State) (d : DriveId) (v : DriveVal),
      let t := s.writeDrive d v
      (t.entry d).value = v ∧
      (∀ w, (s.entry d).dirty = some w → (t.entry d).dirty = some { cls := v.cls, since := w.since }) ∧
      ((s.entry d).dirty = none → (s.entry d).lastValue ≠ some v → (t.entry d).dirty = some { cls := v.cls, since := s.ms }) ∧
      ((s.entry d).dirty = none → (s.entry d).lastValue = some v → (t.entry d).dirty = none) ∧
      (t.entry d).station = (s.entry d).station ∧ (t.entry d).fn = (s.entry d).fn ∧
      (t.entry d).lastValue = (s.entry d).lastValue ∧ (t.entry d).lastTime = (s.entry d).lastTime ∧
      (∀ d', d' ≠ d → t.entry d' = s.entry d') ∧ { t with drive := s.drive } = s ∧
      t.drive.refreshPeriod = s.drive.refreshPeriod) ∧
  ((∀ r, (DriveVal.motor r).cls = if r then .change else .safety) ∧ (∀ o, (DriveVal.douser o).cls = if o then .change else .safety) ∧
    (∀ a, (DriveVal.lamp a).cls = if a then .change else .safety) ∧ (∀ n, (DriveVal.feed n).cls = .feed) ∧
    (∀ h, (DriveVal.sound h).cls = .change) ∧ ∀ t, (DriveVal.dim t).cls = .lights)

/-- WRITE MAP refuses an index above 19 and an address above 30; accepted, it replaces the station map and leaves the entry awaiting
sending under the class of its commanded value, since its dirtied time or now. A refresh expiry makes an entry that is mapped, not dirty
and last sent longer ago than the refresh period dirty under REFRESH; its commanded value and all else stay. It does nothing to an entry
that is dirty, unmapped or has no last-sent time, its DRIVE never sent or still being sent. -/
def Obligations.MapAndRefresh : Prop :=
  (∀ (s : State) (dt : Nat) (src index station fn : Byte), s.Listens src →
    let c := Instr.writeMap dt src index station fn
    (20 ≤ index.toNat → s.Performs c src 0x03 .badIndex [] (s.heard dt)) ∧
    (∀ d, (driveIndex d).val = index.toNat →
      (30 < station.toNat → s.Performs c src 0x03 .badValue [] (s.heard dt)) ∧
      (station.toNat ≤ 30 →
        ∃ t, exec c s = .next t ∧ t.Answers src [0x03, 0] ∧
          t.Settles ((s.heard dt).setEntry d { s.entry d with station := station, fn := fn }) ∧
          t.AwaitsSending d (s.entry d).value.cls
            (match (s.entry d).dirty with
              | some w => w.since
              | none => (s.elapse dt).ms)))) ∧
  (∀ (s : State) (dt : Nat) (d : DriveId), s.Awake →
    (∀ sent, (s.entry d).station ≠ 0 → (s.entry d).dirty = none → (s.entry d).lastTime = some sent →
      s.drive.refreshPeriod < (s.elapse dt).ms - sent →
      s.BecomesWith (.refreshDue dt d) (s.elapse dt) fun t => t.AwaitsSending d .refresh (s.elapse dt).ms) ∧
    (((s.entry d).station = 0 ∨ (s.entry d).dirty ≠ none ∨ (s.entry d).lastTime = none) → s.loop.out ≠ .free →
      exec (.refreshDue dt d) s = .next (s.elapse dt)))

/-! ### Chapter 3: the head monitors -/

/-- A pulse on a head out of service, or within 10.0 ms of the last accepted pulse, is ignored. Any other pulse in service is accepted: it
advances the frame counter, and is judged by the motion state it finds against the band of the nominal rate. The hold line moves with the
motion state alone; the other heads' monitors keep all but their idle timers, and nothing of the other house moves. -/
def Obligations.FramePulseMovesMonitor : Prop :=
  ∀ (s : State) (dt : Nat) (h : Head), s.Awake →
    let now := s.now + dt
    let m := s.mon h
    let tn := 10000 / m.fps
    let band := fun iv => tn - tn / 20 ≤ iv ∧ iv ≤ tn + tn / 20
    let above := fun iv => tn + tn / 20 < iv
    ((m.inService = false ∨ ∃ p, m.lastPulse = some p ∧ now - p < 100) → s.Becomes (.framePulse dt h) (s.elapse dt)) ∧
    (m.inService = true → (∀ p, m.lastPulse = some p → 100 ≤ now - p) →
      ∃ t, exec (.framePulse dt h) s = .next t ∧
        (t.mon h).counter = min (m.counter + 1) 16777215 ∧ (t.mon h).lastPulse = some now ∧
        (t.mon h).stopTimer = some (now + m.stopLimit * 10) ∧
        (m.motion = .stopped → (t.mon h).motion = .runup ∧ (t.mon h).streak = 0 ∧ (t.mon h).interval = m.interval ∧
          (t.mon h).slowTimer = none ∧ (t.mon h).overspeed = m.overspeed ∧ (t.mon h).idleTimer = none) ∧
        (∀ p, m.lastPulse = some p → m.motion = .runup ∨ m.motion = .slow →
          (t.mon h).interval = some (now - p) ∧ (t.mon h).overspeed = m.overspeed ∧
          (band (now - p) → m.streak + 1 ≠ 8 → (t.mon h).motion = m.motion ∧ (t.mon h).streak = m.streak + 1 ∧
            (t.mon h).slowTimer = m.slowTimer) ∧
          (band (now - p) → m.streak + 1 = 8 → (t.mon h).motion = .locked ∧ (t.mon h).streak = 8 ∧
            (t.mon h).slowTimer = some (now + (tn + tn / 4))) ∧
          (¬ band (now - p) → (t.mon h).motion = m.motion ∧ (t.mon h).streak = 0 ∧ (t.mon h).slowTimer = m.slowTimer)) ∧
        (∀ p, m.lastPulse = some p → m.motion = .locked →
          (t.mon h).interval = some (now - p) ∧
          (above (now - p) → (t.mon h).motion = .slow ∧ (t.mon h).streak = 0 ∧ (t.mon h).slowTimer = none ∧
            (t.mon h).overspeed = m.overspeed) ∧
          (¬ above (now - p) → (t.mon h).motion = .locked ∧ (t.mon h).streak = m.streak ∧
            (t.mon h).slowTimer = some (now + (tn + tn / 4)) ∧
            (t.mon h).overspeed = if band (now - p) then m.overspeed else min (m.overspeed + 1) 65535)) ∧
        (t.mon h).hold =
          (if (t.mon h).motion = m.motion then m.hold else decide ((t.mon h).motion = .locked) && (s.fireOf h.house).gate) ∧
        (t.mon h).inService = true ∧ (t.mon h).fps = m.fps ∧ (t.mon h).stopLimit = m.stopLimit ∧
        (t.mon h).idleLimit = m.idleLimit ∧
        (∀ h', h' ≠ h → { t.mon h' with idleTimer := (s.mon h').idleTimer } = s.mon h') ∧
        s.SameHouse t (otherHouse h.house) ∧ s.SameTables t)

/-- The slow timer's expiry in LOCKED moves the monitor to SLOW and releases the hold line; on a SHOWING head it raises SHUTTER, and in a
RUNNING house PICTURE_LOST with the fault claim. Roles, lamps and the other house stay. The stop timer's expiry in RUNUP or SLOW moves the
monitor to STOPPED: a SHOWING head of a RUNNING house halts the house, a TAILING head ends its run, and a head that is neither, its lamp
burning, begins its idle time. A BURNING lamp ends in DARK even when the shutdown's accounting ends the rod (the model's inference, log
entry 15). -/
def Obligations.MotionTimersExpire : Prop :=
  (∀ (s : State) (dt d : Nat) (h : Head), s.Awake → (s.mon h).motion = .locked → (s.mon h).slowTimer = some d →
    d ≤ s.now + dt →
    ∃ t, exec (.slowTimerExpiry dt h) s = .next t ∧
      t.mon h = { s.mon h with motion := .slow, streak := 0, slowTimer := none, hold := false, idleTimer := none } ∧
      ((s.mon h).hold = true → s.role h = .showing → t.notices.isPending .shutter = true) ∧
      ((s.eng h.house).state = .running → s.role h = .showing →
        t.notices.isPending .pictureLost = true ∧ (t.eng h.house).faultClaim = true ∧
          (t.light h.house).requests.fault =
            some { position := (s.light h.house).faultPos, fade := (s.light h.house).fastFade }) ∧
      (s.role h ≠ .showing → t.notices = s.notices ∧ t.eng h.house = s.eng h.house ∧ t.light h.house = s.light h.house) ∧
      (∀ h', t.slot h' = s.slot h' ∧ t.lamp h' = s.lamp h' ∧ (h' ≠ h → t.mon h' = s.mon h')) ∧
      (∀ e, (t.entry e).value = (s.entry e).value ∨ e = .dim h.house) ∧ s.SameHouse t (otherHouse h.house) ∧ s.SameTables t) ∧
  (∀ (s : State) (dt d : Nat) (h : Head), s.Awake → (s.mon h).motion = .runup ∨ (s.mon h).motion = .slow →
    (s.mon h).stopTimer = some d → d ≤ s.now + dt →
    ∃ t, exec (.stopTimerExpiry dt h) s = .next t ∧
      { t.mon h with idleTimer := (s.mon h).idleTimer } =
        { s.mon h with motion := .stopped, streak := 0, interval := none, slowTimer := none, stopTimer := none, hold := false } ∧
      ((s.eng h.house).state = .running → s.role h = .showing →
        State.HouseHalted ((s.elapse dt).setMon h { t.mon h with idleTimer := (s.mon h).idleTimer }) t h.house) ∧
      (s.role h = .tailing →
        t.slot h = { role := .empty, held := none } ∧ (t.entry (.motor h)).value = .motor false ∧ (t.lamp h).state = .dark ∧
          (t.lamp h).contactor = ((s.lamp h).contactor && decide ((s.lamp h).state = .dark)) ∧ (t.mon h).idleTimer = none) ∧
      (s.role h ≠ .showing → s.role h ≠ .tailing →
        t.lamp h = s.lamp h ∧ t.slot h = s.slot h ∧ t.notices = s.notices ∧
          (t.mon h).idleTimer =
            if (s.lamp h).state = .burning then some ((s.mon h).idleTimer.getD ((s.elapse dt).ms + (s.mon h).idleLimit * 1000))
            else none) ∧
      s.SameHouse t (otherHouse h.house) ∧ s.SameTables t)

/-- The service flag: a head number outside 1 to 4 is refused BAD_INDEX and a value above 1 BAD_VALUE. Out of service, the monitor is
STOPPED with its timers idle and its hold line released, and the lamp is put out by override; a SHOWING head of a RUNNING house then halts
it, and a TAILING head ends its run. Back in service, only the flag changes. A BURNING lamp ends in DARK even when the shutdown's
accounting ends the rod (the model's inference, log entry 15). -/
def Obligations.ServiceFlagTakesHead : Prop :=
  ∀ (s : State) (dt : Nat) (src index : Byte) (value : Word), s.Listens src →
    let c := Instr.setupServiceFlag dt src index value
    (headOf index = none → s.Performs c src 0x06 .badIndex [] (s.heard dt)) ∧
    (∀ h, headOf index = some h →
      (1 < value.toNat → s.Performs c src 0x06 .badValue [] (s.heard dt)) ∧
      (value.toNat = (if (s.mon h).inService then 1 else 0) → s.Performs c src 0x06 .done [] (s.heard dt)) ∧
      (value.toNat = 0 → (s.mon h).inService = true →
        ∃ t, exec c s = .next t ∧ t.Answers src [0x06, 0] ∧
          t.mon h =
            { s.mon h with
              inService := false, motion := .stopped, streak := 0, interval := none, lastPulse := none, slowTimer := none
              stopTimer := none, idleTimer := none, hold := false } ∧
          (t.lamp h).state = .dark ∧ (t.lamp h).contactor = false ∧ (t.lamp h).rate = 0 ∧ t.LampEntriesSafe h ∧
          ((s.mon h).hold = true → s.role h = .showing → t.notices.isPending .shutter = true) ∧
          ((s.mon h).motion ≠ .stopped → (s.eng h.house).state = .running → s.role h = .showing →
            (t.eng h.house).state = .halted ∧ (t.eng h.house).faultClaim = true) ∧
          ((s.mon h).motion ≠ .stopped → s.role h = .tailing → t.slot h = { role := .empty, held := none }) ∧
          s.SameHouse t (otherHouse h.house) ∧ s.SameTables t) ∧
      (value.toNat = 1 → (s.mon h).inService = false → (s.mon h).motion = .stopped → (s.mon h).hold = false →
        (s.mon h).idleTimer = none → (s.lamp h).state = .dark →
        s.Performs c src 0x06 .done [] ((s.heard dt).setMon h { s.mon h with inService := true })))

/-! ### Chapter 4: the lamp regulators -/

/-- R79, R80 and R81: the error is clamped to 200 either way, the integral term is held back where it would push the output further past a
limit it exceeds, the accumulator stays within 32767 either way, and the feed rate is the output clamped to 0 to Fmax. A lamp sample is
kept in every state and does nothing more in DARK and FAILED. In BURNING consumption is accounted at the old rate and the stale timer
starts again; an end switch or a rod at its end is a carbon end, a current below Imin an arc gone out, and otherwise the regulator's rate
is written to FEED, and a SHOWING head whose carbon is short for the frames left raises CARBON_LOW once. In STRIKING an end switch is a
carbon end, a current below Imin changes nothing, and a current of Imin or more makes the lamp BURNING with the regulator run from an
accumulator of 0, a lamp whose monitor is LOCKED being reported ready to the engine, and a head that is SHOWING after the report judged
for its carbon at once (the model's inference, log entry 17). A stale expiry that finds the rod used up is a carbon end. -/
def Obligations.RegulatorSetsFeed : Prop :=
  (∀ (l : Lamp) (v : Nat), -32767 ≤ l.acc → l.acc ≤ 32767 →
    let r := l.record
    let e : Int := max (-200) (min 200 ((v : Int) - r.target))
    let p := ((r.kp : Int) * e).tdiv 16
    let trial : Int := max (-32767) (min 32767 (l.acc + e))
    let u := (r.base : Int) + p + (trial * r.ki).tdiv 1024
    let hold := ((r.fmax : Int) < u ∧ 0 < e) ∨ (u < 0 ∧ e < 0)
    (-200 ≤ e ∧ e ≤ 200) ∧
    (hold → (l.regulate v).1 = l.acc ∧
      ((l.regulate v).2 : Int) = max 0 (min (r.fmax : Int) ((r.base : Int) + p + (l.acc * r.ki).tdiv 1024))) ∧
    (¬ hold → (l.regulate v).1 = trial ∧ ((l.regulate v).2 : Int) = max 0 (min (r.fmax : Int) u)) ∧
    (-32767 ≤ (l.regulate v).1 ∧ (l.regulate v).1 ≤ 32767) ∧ (l.regulate v).2 ≤ r.fmax) ∧
  (∀ (s : State) (h : Head) (v c : Nat), (s.lamp h).state = .burning → s.role h ≠ .showing →
    (s.lamp h).record.imin ≤ c →
    let l := s.lamp h
    let used := l.rem + l.rate * (s.ms - l.accounted.getD s.ms)
    used / 60000 < l.rod →
    let l1 :=
      { l with
        sample := some { voltage := v, current := c, endSwitch := false, moment := s.ms }
        rem := used % 60000, rod := l.rod - used / 60000, accounted := some s.ms
        stale := false, staleTimer := some (s.ms + 3000) }
    s.lampSample h v c false =
      (s.setLamp h { l1 with acc := (l.regulate v).1, rate := (l.regulate v).2 }).writeDrive (.feed h) (.feed (l.regulate v).2)) ∧
  (∀ (s : State) (h : Head) (v c : Nat) (es : Bool),
    let l := s.lamp h
    let kept := { l with sample := some { voltage := v, current := c, endSwitch := es, moment := s.ms } }
    let used := l.rem + l.rate * (s.ms - l.accounted.getD s.ms)
    let counted :=
      { kept with
        rem := used % 60000, rod := l.rod - used / 60000, accounted := some s.ms, stale := false
        staleTimer := some (s.ms + 3000) }
    let fed := fun (x : Lamp) =>
      (s.setLamp h { x with acc := (x.regulate v).1, rate := (x.regulate v).2 }).writeDrive (.feed h) (.feed (x.regulate v).2)
    (l.state = .dark ∨ l.state = .failed → s.lampSample h v c es = s.setLamp h kept) ∧
    (l.state = .burning → s.role h = .showing → es = false → l.record.imin ≤ c → used / 60000 < l.rod →
      ∀ i, (s.slot h).held = some i →
        let left := (s.programme.record i).last - (s.mon h).counter
        let short := counted.rod * 60 / max l.record.base 1 < left / (s.mon h).fps + l.record.lowMargin
        let t := fed counted
        (¬ short ∨ l.carbonLow = true → s.lampSample h v c es = t) ∧
        (short → l.carbonLow = false →
          s.lampSample h v c es = (t.setLamp h { t.lamp h with carbonLow := true }).raise .carbonLow (.head h) (some .show))) ∧
    (s.orders.restart = .clear → l.state = .burning →
      (es = true → s.LampFailed (s.lampSample h v c es) h { counted with rod := 0 } .carbonEnd .switch true) ∧
      (es = false → l.rod ≤ used / 60000 → s.LampFailed (s.lampSample h v c es) h { counted with rod := 0 } .carbonEnd .rod true) ∧
      (es = false → used / 60000 < l.rod → c < l.record.imin →
        s.LampFailed (s.lampSample h v c es) h counted .arcFail .out false)) ∧
    (l.state = .striking →
      (s.orders.restart = .clear → es = true →
        s.LampFailed (s.lampSample h v c es) h { kept with rod := 0 } .carbonEnd .switch true) ∧
      (es = false → c < l.record.imin → s.lampSample h v c es = s.setLamp h kept) ∧
      (es = false → l.record.imin ≤ c →
        let t := fed
          { kept with
            state := .burning, strikeTimer := none, acc := 0, rem := 0, rate := 0, accounted := some s.ms, stale := false
            staleTimer := some (s.ms + 3000) }
        let timed := t.setMon h
          { s.mon h with
            idleTimer :=
              if (s.mon h).motion = .stopped ∧ s.role h ≠ .showing then
                some ((s.mon h).idleTimer.getD (s.ms + (s.mon h).idleLimit * 1000))
              else none }
        let told := if (s.mon h).motion = .locked then timed.litReport h else timed
        (told.role h ≠ .showing → s.lampSample h v c es = told) ∧
        (told.role h = .showing → ∀ i, (told.slot h).held = some i →
          let x := told.lamp h
          let left := (told.programme.record i).last - (told.mon h).counter
          let short := x.rod * 60 / max x.record.base 1 < left / (told.mon h).fps + x.record.lowMargin
          (¬ short ∨ x.carbonLow = true → s.lampSample h v c es = told) ∧
          (short → x.carbonLow = false →
            s.lampSample h v c es = (told.setLamp h { x with carbonLow := true }).raise .carbonLow (.head h) (some .show)))))) ∧
  (∀ (s : State) (dt d : Nat) (h : Head), s.Awake → d ≤ (s.elapse dt).ms →
    let l := s.lamp h
    let used := l.rem + l.rate * ((s.elapse dt).ms - l.accounted.getD (s.elapse dt).ms)
    l.state = .burning → l.staleTimer = some d → l.rod ≤ used / 60000 →
    ∃ t, exec (.staleTimerExpiry dt h) s = .next t ∧
      (s.elapse dt).LampFailed t h { l with rem := used % 60000, rod := 0, accounted := some (s.elapse dt).ms } .carbonEnd .rod true)

/-- SHOW STRIKE: refused BAD_STATE out of service, in FIRE, STRIKING or BURNING; with no rod the lamp is FAILED and CARBON_END is raised;
otherwise the LAMP entry is written strike, the contactor closes and the strike timer starts. -/
def Obligations.StrikeRequestJudged : Prop :=
  ∀ (s : State) (dt : Nat) (src target : Byte), s.Listens src →
    let c := Instr.showStrike dt src target none
    (headOf target = none → s.Performs c src 0x0E .badIndex [] (s.heard dt)) ∧
    (∀ h, headOf target = some h →
      ((s.mon h).inService = false ∨ (s.fireOf h.house).state = .fire ∨ (s.lamp h).state = .striking ∨
          (s.lamp h).state = .burning →
        s.Performs c src 0x0E .badState [] (s.heard dt)) ∧
      ((s.mon h).inService = true → (s.fireOf h.house).state ≠ .fire → (s.lamp h).state = .dark ∨ (s.lamp h).state = .failed →
        ((s.lamp h).rod = 0 →
          ∃ t, exec c s = .next t ∧ t.Answers src [0x0E, 0] ∧ t.lamp h = { s.lamp h with state := .failed } ∧
            t.notices = s.notices.raised .carbonEnd (.head h) (some .rod) ∧ (∀ d, (t.entry d).value = (s.entry d).value) ∧
            (∀ h', h' ≠ h → s.SameHead t h') ∧ s.SameHouse t (otherHouse h.house) ∧ s.SameTables t) ∧
        ((s.lamp h).rod ≠ 0 →
          s.Performs c src 0x0E .done []
            (((s.heard dt).setLamp h
                { s.lamp h with
                  state := .striking, contactor := true
                  strikeTimer := some ((s.elapse dt).ms + (s.lamp h).record.strikeLimit * 1000) }).setMon h
              { s.mon h with idleTimer := none }
              |>.writeDrive (.lamp h) (.lamp true)))))

/-- The lamp timers: the strike timer's expiry fails the lamp with ARC_FAIL STRIKE; the stale timer's expiry sets the stale flag and
accounts consumption at the held rate, the rate and the accumulator kept while rod is left; the idle timer's expiry puts the lamp out. A
BURNING lamp ends in DARK even when the shutdown's accounting ends the rod (the model's inference, log entry 15). -/
def Obligations.LampTimersAct : Prop :=
  ∀ (s : State) (dt d : Nat) (h : Head), s.Awake → d ≤ (s.elapse dt).ms →
    let l := s.lamp h
    (l.state = .striking → l.strikeTimer = some d →
      s.BecomesWith (.strikeTimerExpiry dt h)
        { ((((s.elapse dt).setLamp h
              { l with state := .failed, contactor := false, rate := 0, strikeTimer := none, staleTimer := none, stale := false }).setMon h
            { s.mon h with idleTimer := none }).writeDrive (.lamp h) (.lamp false)) with
          notices := s.notices.raised .arcFail (.head h) (some .strike) }
        fun t => t.notices.isPending .arcFail = true) ∧
    (l.state = .burning → l.staleTimer = some d →
      let used := l.rem + l.rate * ((s.elapse dt).ms - l.accounted.getD (s.elapse dt).ms)
      used / 60000 < l.rod →
      s.Becomes (.staleTimerExpiry dt h)
        ((s.elapse dt).setLamp h
          { l with
            rem := used % 60000, rod := l.rod - used / 60000, accounted := some (s.elapse dt).ms, stale := true
            staleTimer := some ((s.elapse dt).ms + 3000) })) ∧
    ((s.mon h).idleTimer = some d → l.state = .burning →
      ∃ t, exec (.idleTimerExpiry dt h) s = .next t ∧ t.lamp h = l.darkAt (s.elapse dt).ms ∧ t.LampEntriesSafe h ∧
        t.mon h = { s.mon h with idleTimer := none } ∧ t.notices = s.notices ∧ t.slots = s.slots ∧ t.engines = s.engines ∧
        (∀ h', h' ≠ h → s.SameHead t h') ∧ s.SameHouse t (otherHouse h.house) ∧ s.SameTables t)

/-- WRITE LAMP: a head outside 1 to 4 or an item outside 1 to 9 is refused BAD_INDEX; a value outside the item's range is clamped and
answered CLAMPED with the value stored; an Fmax below the base feed lowers it and is answered CLAMPED. An Fmax below the rate in force of
a BURNING lamp accounts its consumption up to the order, and the rate becomes the new Fmax and is written to FEED at once; when the
accounting uses up the rod the lamp goes out instead as a carbon end with code ROD (the model's inference, log entry 16). -/
def Obligations.WriteLampStoresItem : Prop :=
  ∀ (s : State) (dt : Nat) (src head item : Byte) (value : Word), s.Listens src →
    let c := Instr.writeLamp dt src head item value
    let v := value.toNat
    (headOf head = none ∨ ¬ (1 ≤ item.toNat ∧ item.toNat ≤ 9) → s.Performs c src 0x05 .badIndex [] (s.heard dt)) ∧
    (∀ h, headOf head = some h →
      let r := (s.lamp h).record
      let put := fun (lo hi : Nat) (f : Nat → LampRecord) =>
        let w := max lo (min hi v)
        s.Performs c src 0x05 (if lo ≤ v ∧ v ≤ hi then .done else .clamped) (if lo ≤ v ∧ v ≤ hi then [] else be16 w)
          ((s.heard dt).setLamp h { s.lamp h with record := f w })
      (item = 1 → put 300 800 fun w => { r with target := w }) ∧
      (item = 2 → put 0 r.fmax fun w => { r with base := w }) ∧
      (item = 3 → put 0 255 fun w => { r with kp := w }) ∧
      (item = 4 → put 0 255 fun w => { r with ki := w }) ∧
      (item = 6 → put 10 150 fun w => { r with imin := w }) ∧
      (item = 7 → put 1000 65535 fun w => { r with trimLength := w }) ∧
      (item = 8 → put 0 1800 fun w => { r with lowMargin := w }) ∧
      (item = 9 → put 2 20 fun w => { r with strikeLimit := w }) ∧
      (item = 5 → (s.lamp h).state ≠ .burning ∨ (s.lamp h).rate ≤ max 1 (min 511 v) →
        let w := max 1 (min 511 v)
        let asGiven := 1 ≤ v ∧ v ≤ 511 ∧ r.base ≤ w
        s.Performs c src 0x05 (if asGiven then .done else .clamped) (if asGiven then [] else be16 w)
          ((s.heard dt).setLamp h { s.lamp h with record := { r with fmax := w, base := min r.base w } })) ∧
      (item = 5 → (s.lamp h).state = .burning → max 1 (min 511 v) < (s.lamp h).rate →
        let w := max 1 (min 511 v)
        let asGiven := 1 ≤ v ∧ v ≤ 511 ∧ r.base ≤ w
        let now := (s.elapse dt).ms
        let used := (s.lamp h).rem + (s.lamp h).rate * (now - (s.lamp h).accounted.getD now)
        let counted :=
          { s.lamp h with
            record := { r with fmax := w, base := min r.base w }
            rem := used % 60000, rod := (s.lamp h).rod - used / 60000, accounted := some now }
        (used / 60000 < (s.lamp h).rod →
          s.Performs c src 0x05 (if asGiven then .done else .clamped) (if asGiven then [] else be16 w)
            (((s.heard dt).setLamp h { counted with rate := w }).writeDrive (.feed h) (.feed w))) ∧
        ((s.lamp h).rod ≤ used / 60000 →
          ∃ t, exec c s = .next t ∧ t.Answers src ([0x05, (if asGiven then 0 else 1)] ++ if asGiven then [] else be16 w) ∧
            (s.heard dt).LampFailed t h counted .carbonEnd .rod true)))

/-- R84: TRIM refuses a head outside 1 to 4 BAD_INDEX and a STRIKING or BURNING lamp BAD_STATE; otherwise it sets rod remaining to the
length given, or to the record's trim length, and the remainder to 0, and changes nothing else. -/
def Obligations.TrimSetsRod : Prop :=
  ∀ (s : State) (dt : Nat) (src head : Byte) (length : Option Word), s.Listens src →
    let c := Instr.trim dt src head length
    (headOf head = none → s.Performs c src 0x0A .badIndex [] (s.heard dt)) ∧
    (∀ h, headOf head = some h →
      ((s.lamp h).state = .striking ∨ (s.lamp h).state = .burning → s.Performs c src 0x0A .badState [] (s.heard dt)) ∧
      ((s.lamp h).state = .dark ∨ (s.lamp h).state = .failed →
        s.Performs c src 0x0A .done []
          ((s.heard dt).setLamp h
            { s.lamp h with
              rod := match length with
                | some n => n.toNat
                | none => (s.lamp h).record.trimLength
              rem := 0 })))

/-! ### Chapter 5: the programme store -/

/-- WRITE REEL is judged in the order index, in use, empty write, field values, cue ordering, side alternation; accepted, it replaces
every field of the record and nothing else. -/
def Obligations.WriteReelJudgedInOrder : Prop :=
  ∀ (s : State) (dt : Nat) (src : Byte) (p : ReelParams), s.Listens src →
    let c := Instr.writeReel dt src p
    let put := fun (i : Fin 64) (r : Reel) =>
      s.Performs c src 0x04 .done [] { s.heard dt with programme := { s.programme with reels := s.programme.reels.set i r } }
    (64 ≤ p.index.toNat → s.Performs c src 0x04 .badIndex [] (s.heard dt)) ∧
    (∀ i : Fin 64, p.index.toNat = i.val →
      (s.recordInUse i.val = true → s.Performs c src 0x04 .inUse [] (s.heard dt)) ∧
      (s.recordInUse i.val = false →
        (p.last = 0 →
          put i { side := .a, last := 0, motorCue := 0, changeCue := 0, window := 0, intervalAfter := false, showEnd := false
                  light := none }) ∧
        (p.last ≠ 0 →
          let side := if p.flags.getLsbD 0 then Side.b else Side.a
          let fields := 1000 ≤ p.last.toNat ∧ p.window.toNat ≤ 96 ∧ ¬ (p.flags.getLsbD 1 = true ∧ p.flags.getLsbD 2 = true)
          let cues := p.window.toNat ≤ p.motorCue.toNat ∧ p.motorCue.toNat + 2 * p.window.toNat < p.changeCue.toNat ∧
            p.changeCue.toNat + p.window.toNat ≤ p.last.toNat
          let sides := ∀ j : Fin 64, j.val + 1 = i.val ∨ j.val = i.val + 1 → s.programme.owner j.val = s.programme.owner i.val →
            (s.programme.reels.get j).last ≠ 0 → (s.programme.reels.get j).side ≠ side
          (fields → cues → sides →
            put i { side := side, last := p.last.toNat, motorCue := p.motorCue.toNat, changeCue := p.changeCue.toNat
                    window := p.window.toNat, intervalAfter := p.flags.getLsbD 1, showEnd := p.flags.getLsbD 2
                    light := if p.flags.getLsbD 3 then some { position := p.lightPos.toNat, fade := p.lightFade.toNat } else none }) ∧
          (¬ (fields ∧ cues ∧ sides) → s.Performs c src 0x04 .badValue [] (s.heard dt)))))

/-- R100: SPLIT is judged in the order range, write lock, both houses IDLE or ENDED, joined boundary; accepted, it moves the split point
and nothing else. -/
def Obligations.SplitJudgedInOrder : Prop :=
  ∀ (s : State) (dt : Nat) (src n : Byte), s.Listens src → 1 ≤ s.programme.split → s.programme.split ≤ 63 →
    let c := Instr.splitPoint dt src n
    let atRest := ∀ k, (s.eng k).state = .idle ∨ (s.eng k).state = .ended
    let joins := ∃ i j : Fin 64, i.val + 1 = s.programme.split ∧ j.val = s.programme.split ∧ (s.programme.reels.get i).last ≠ 0 ∧
      (s.programme.reels.get j).last ≠ 0 ∧ (s.programme.reels.get i).side = (s.programme.reels.get j).side
    (n.toNat < 1 ∨ 63 < n.toNat → s.Performs c src 0x0B .badIndex [] (s.heard dt)) ∧
    (1 ≤ n.toNat → n.toNat ≤ 63 →
      (s.matcher.writeLock = true → s.Performs c src 0x0B .locked [] (s.heard dt)) ∧
      (s.matcher.writeLock = false →
        (¬ atRest → s.Performs c src 0x0B .inUse [] (s.heard dt)) ∧
        (atRest → n.toNat ≠ s.programme.split → joins → s.Performs c src 0x0B .badValue [] (s.heard dt)) ∧
        (atRest → (n.toNat = s.programme.split ∨ ¬ joins) →
          s.Performs c src 0x0B .done [] { s.heard dt with programme := { s.programme with split := n.toNat } })))

/-- While the part runs on a store whose check sum verifies and CLEAR is not held, no command changes a record that is in use. -/
def Obligations.RecordInUseStays : Prop :=
  ∀ (c : Instr) (s t : State) (i : Fin 64), s.StoreKept → (∀ dt, c ≠ .supplyReturn dt true) → (∀ dt, c ≠ .resetRelease dt true) →
    exec c s = .next t → s.recordInUse i.val = true → t.programme.reels.get i = s.programme.reels.get i

/-! ### Chapter 6: the changeover engines -/

/-- ARM is judged in the order region, house state, fire, service, record. Accepted, every head that is not EMPTY is stopped, closed and
asked for a normal shutdown; both heads are EMPTY, the engine stands ARMED at the start index with its marks, flags, run-up and fault
claim cleared, and the SHOW light request stays. A BURNING lamp ends in DARK even when the shutdown's accounting ends the rod (the model's
inference, log entry 15). -/
def Obligations.ArmPreparesHouse : Prop :=
  ∀ (s : State) (dt : Nat) (src target : Byte) (start : Option Byte), s.Listens src →
    let c := Instr.showArm dt src target start
    let refused := fun r => s.Performs c src 0x0E r [] (s.heard dt)
    (houseOf target = none → refused .badIndex) ∧
    (∀ k, houseOf target = some k →
      let i := (start.map BitVec.toNat).getD (match k with
        | .one => 0
        | .two => s.programme.split)
      let region := match k with
        | .one => i < s.programme.split
        | .two => s.programme.split ≤ i ∧ i < 64
      let open_ := (s.eng k).state = .idle ∨ (s.eng k).state = .ended ∨ (s.eng k).state = .halted
      let served := ∀ h, h.house = k → (s.mon h).inService = true
      (¬ region → refused .badIndex) ∧
      (region → ¬ open_ → refused .badState) ∧
      (region → open_ → (s.fireOf k).state = .fire → refused .badState) ∧
      (region → open_ → (s.fireOf k).state ≠ .fire → ¬ served → refused .badState) ∧
      (∀ j : Fin 64, j.val = i → region → open_ → (s.fireOf k).state ≠ .fire → served →
        ((s.programme.reels.get j).last = 0 → refused .noReel) ∧
        ((s.programme.reels.get j).last ≠ 0 →
          ∃ t, exec c s = .next t ∧ t.Answers src [0x0E, 0] ∧
            (∀ h, h.house = k →
              (s.role h = .empty → t.slot h = s.slot h ∧ t.lamp h = s.lamp h ∧ (t.entry (.motor h)).value = (s.entry (.motor h)).value ∧
                (t.entry (.douser h)).value = (s.entry (.douser h)).value) ∧
              (s.role h ≠ .empty → t.slot h = { role := .empty, held := none } ∧ (t.entry (.motor h)).value = .motor false ∧
                (t.entry (.douser h)).value = .douser false ∧
                t.lamp h = if (s.lamp h).state = .dark then s.lamp h else (s.lamp h).darkAt (s.elapse dt).ms)) ∧
            (t.entry (.sound k)).value = .sound none ∧
            t.eng k =
              { s.eng k with
                state := .armed, cur := i, highest := (i : Int) - 1, strikeDone := false, motorTaken := false, changeTaken := false
                changePending := false, dark := false, runup := none, faultClaim := false } ∧
            (t.light k).requests = { (s.light k).requests with fault := none } ∧ t.notices = s.notices ∧
            t.fireOf k = s.fireOf k ∧ s.SameHouse t (otherHouse k) ∧ s.SameTables t)))

/-- THREAD is judged in the order house state, service, role, record, side. Accepted, an EMPTY head takes the record after the highest
assigned index, the frame counter is 0, and the carbon check sets or clears the carbon-low mark. A THREAD of the incoming head in a
RUNNING house on a changeover reel is followed in its event by the start of that head when the motor cue has been taken, by a strike
request when only the strike point is past, and by nothing otherwise; any other THREAD is followed by nothing. A head started that is
ready already is taken by the engine in the same event. -/
def Obligations.ThreadTakesNextRecord : Prop :=
  ∀ (s : State) (dt : Nat) (src target : Byte), s.Listens src →
    let c := Instr.showThread dt src target none
    let refused := fun r => s.Performs c src 0x0E r [] (s.heard dt)
    (headOf target = none → refused .badIndex) ∧
    (∀ h, headOf target = some h →
      let k := h.house
      let e := s.eng k
      let open_ := e.state = .armed ∨ e.state = .running ∨ e.state = .interval
      (¬ open_ ∨ (s.mon h).inService = false ∨ (s.role h ≠ .empty ∧ s.role h ≠ .threaded) → refused .badState) ∧
      (open_ → (s.mon h).inService = true → s.role h = .empty →
        (s.programme.inRegion k (e.highest + 1).toNat = false ∨ (s.programme.record (e.highest + 1).toNat).last = 0 →
          refused .noReel) ∧
        (s.programme.inRegion k (e.highest + 1).toNat = true → (s.programme.record (e.highest + 1).toNat).last ≠ 0 →
          (s.programme.record (e.highest + 1).toNat).side ≠ h.side → refused .wrongHead)) ∧
      (∀ i, e.state = .armed ∨ e.state = .interval → (s.mon h).inService = true →
        (s.role h = .threaded ∧ (s.slot h).held = some i ∨
          s.role h = .empty ∧ i = (e.highest + 1).toNat ∧ s.programme.inRegion k i = true ∧ (s.programme.record i).last ≠ 0 ∧
            (s.programme.record i).side = h.side) →
        let short := (s.lamp h).rod * 60 / max (s.lamp h).record.base 1 <
          (s.programme.record i).last / (s.mon h).fps + (s.lamp h).record.lowMargin
        ∃ t, exec c s = .next t ∧ t.Answers src [0x0E, 0] ∧
          t.slot h = { role := .threaded, held := some i } ∧
          { t.mon h with idleTimer := (s.mon h).idleTimer } = { s.mon h with counter := 0 } ∧
          t.lamp h = { s.lamp h with carbonLow := decide short } ∧
          t.eng k = (if s.role h = .empty then { e with highest := i } else e) ∧
          t.notices = (if short then s.notices.raised .carbonLow (.head h) (some .thread) else s.notices) ∧
          (∀ d, (t.entry d).value = (s.entry d).value) ∧ t.lights = s.lights ∧ t.fire = s.fire ∧
          (∀ h', h' ≠ h → s.SameHead t h') ∧ s.SameHouse t (otherHouse k) ∧ s.SameTables t) ∧
      (∀ i, open_ → (s.mon h).inService = true →
        (s.role h = .threaded ∧ (s.slot h).held = some i ∨
          s.role h = .empty ∧ i = (e.highest + 1).toNat ∧ s.programme.inRegion k i = true ∧ (s.programme.record i).last ≠ 0 ∧
            (s.programme.record i).side = h.side) →
        let short := (s.lamp h).rod * 60 / max (s.lamp h).record.base 1 <
          (s.programme.record i).last / (s.mon h).fps + (s.lamp h).record.lowMargin
        let slotted := ((s.heard dt).setEng k (if s.role h = .empty then { e with highest := i } else e)).assign h .threaded (some i)
        let checked := (slotted.setMon h { slotted.mon h with counter := 0 }).setLamp h { s.lamp h with carbonLow := decide short }
        let threaded := if short then checked.raise .carbonLow (.head h) (some .thread) else checked
        let cur := s.programme.record e.cur
        let late := e.state = .running ∧ cur.intervalAfter = false ∧ cur.showEnd = false ∧ h.side ≠ cur.side
        (¬ late → s.Performs c src 0x0E .done [] threaded) ∧
        (late → e.motorTaken = true → s.Performs c src 0x0E .done [] (threaded.headStarted h .incoming)) ∧
        (late → e.motorTaken = false → e.strikeDone = true → s.Performs c src 0x0E .done [] (threaded.strikeRequest h)) ∧
        (late → e.motorTaken = false → e.strikeDone = false → s.Performs c src 0x0E .done [] threaded)))

/-- START and RESUME start a head: in ARMED the THREADED head that holds record cur, in INTERVAL the one that holds cur + 1, in RUNNING
the THREADED incoming head of a changeover reel whose motor cue has been taken, in HALTED and out of FIRE the SHOWING head, which keeps
its role, or with none SHOWING the THREADED incoming head when the dark flag is set and the change pending. Its lamp is asked to strike,
its motor runs, and the run-up runs for the run-up limit; a lamp DARK or FAILED with rod left is struck, and one already lit is left as it
is. A head that is ready already is taken by the engine in the same event, a STARTING head resumed with the house RUNNING before the
swap's steps (the model's inference, log entry 19). Any other START and any other RESUME is refused BAD_STATE. -/
def Obligations.StartAndResumeRunUp : Prop :=
  ∀ (s : State) (dt : Nat) (src target : Byte) (k : House), s.Listens src → houseOf target = some k →
    let e := s.eng k
    let started := fun (c : Instr) (h : Head) (p : Purpose) =>
      s.Performs c src 0x0E .done []
        (({ (s.heard dt) with
            slots := s.slots.set h { s.slot h with role := if p = .resume then s.role h else .starting }
            engines := s.engines.set k
              { e with runup := some { head := h, purpose := p, deadline := (s.elapse dt).ms + e.runupLimit * 1000 } }
            lamps := s.lamps.set h
              { s.lamp h with
                state := .striking, contactor := true
                strikeTimer := some ((s.elapse dt).ms + (s.lamp h).record.strikeLimit * 1000) }
            monitors := s.monitors.set h { s.mon h with idleTimer := none } } : State).writeDrive (.lamp h) (.lamp true)
          |>.writeDrive (.motor h) (.motor true))
    let cold := fun h : Head => (s.mon h).inService = true ∧ (s.fireOf k).state ≠ .fire ∧ (s.lamp h).rod ≠ 0 ∧
      ((s.lamp h).state = .dark ∨ (s.lamp h).state = .failed)
    (∀ h, h.house = k → s.role h = .threaded → cold h →
      (e.state = .armed ∧ (s.slot h).held = some e.cur ∨ e.state = .interval ∧ (s.slot h).held = some (e.cur + 1)) →
      (s.slot h.partner).held ≠ (s.slot h).held → started (.showStart dt src target none) h .start) ∧
    ((e.state = .armed → ∀ h, h.house = k → ¬ (s.role h = .threaded ∧ (s.slot h).held = some e.cur)) →
      (e.state = .interval → ∀ h, h.house = k → ¬ (s.role h = .threaded ∧ (s.slot h).held = some (e.cur + 1))) →
      e.state ≠ .running → s.Performs (.showStart dt src target none) src 0x0E .badState [] (s.heard dt)) ∧
    (∀ h, h.house = k → e.state = .halted → s.role h = .showing → s.role h.partner ≠ .showing → cold h →
      started (.showResume dt src target none) h .resume) ∧
    (e.state ≠ .halted ∨ (s.fireOf k).state = .fire →
      s.Performs (.showResume dt src target none) src 0x0E .badState [] (s.heard dt)) ∧
    (let starts := fun (c : Instr) (h : Head) (p : Purpose) => s.Performs c src 0x0E .done [] ((s.heard dt).headStarted h p)
    let refused := fun c : Instr => s.Performs c src 0x0E .badState [] (s.heard dt)
    let start := Instr.showStart dt src target none
    let resume := Instr.showResume dt src target none
    let cur := s.programme.record e.cur
    (∀ h, h.house = k → s.role h = .threaded →
      (e.state = .armed ∧ (s.slot h).held = some e.cur ∨ e.state = .interval ∧ (s.slot h).held = some (e.cur + 1)) →
      (s.slot h.partner).held ≠ (s.slot h).held → starts start h .start) ∧
    (∀ inc : Head, inc.house = k → inc.side ≠ cur.side →
      let manual := e.motorTaken = true ∧ cur.intervalAfter = false ∧ cur.showEnd = false ∧ s.role inc = .threaded
      let dark := e.dark = true ∧ e.changePending = true ∧ s.role inc = .threaded
      (e.state = .running → manual → starts start inc .incoming) ∧
      (e.state = .running → ¬ manual → refused start) ∧
      (e.state = .halted → (s.fireOf k).state ≠ .fire → (∀ h, h.house = k → s.role h ≠ .showing) →
        (dark → starts resume inc .resume) ∧ (¬ dark → refused resume))) ∧
    (∀ h, h.house = k → e.state = .halted → (s.fireOf k).state ≠ .fire → s.role h = .showing → s.role h.partner ≠ .showing →
      starts resume h .resume))

/-- CHANGE on a RUNNING house with a changeover reel on the screen and the change cue not yet taken is answered DONE. With the motor mark
set and the incoming head STARTING but not ready, the change is pending and LATE_INCOMING is raised; with it ready, the picture passes to
it in one event. With the motor mark set and the incoming head in any other role the change is pending with LATE_INCOMING. With the motor
mark clear the motor cue is taken first, with no CUE_MISSED, and the change cue then. CHANGE is refused BAD_STATE when the house is not
RUNNING, the reel is no changeover reel, the change cue is taken, or no head is SHOWING. A start index given with any show function but
ARM is refused BAD_ORDER, and a house outside 1 and 2 BAD_INDEX. -/
def Obligations.ChangePassesPicture : Prop :=
  (∀ (s : State) (dt : Nat) (src target : Byte) (k : House) (out : Head), s.Listens src → houseOf target = some k →
    out.house = k → s.role out = .showing → out.side = (s.programme.record (s.eng k).cur).side →
    let c := Instr.showChange dt src target none
    let e := s.eng k
    let inc := out.partner
    let reel := s.programme.record e.cur
    let next := s.programme.record (e.cur + 1)
    let changeover := fun r : Reel => r.intervalAfter = false ∧ r.showEnd = false
    let ready := (s.mon inc).motion = .locked ∧ (s.lamp inc).state = .burning
    (¬ (e.state = .running ∧ changeover reel ∧ e.changeTaken = false) → s.Performs c src 0x0E .badState [] (s.heard dt)) ∧
    (e.state = .running → changeover reel → e.changeTaken = false → e.motorTaken = true → s.role inc = .starting →
      (¬ ready →
        s.Performs c src 0x0E .done []
          { s.heard dt with
            engines := s.engines.set k { e with changeTaken := true, changePending := true }
            notices := s.notices.raised .lateIncoming (.head inc) (some .change) }) ∧
      (ready → (s.mon inc).counter < next.last → (changeover next → (s.mon inc).counter + e.strikeLead * (s.mon inc).fps < next.motorCue ∧
          (s.mon inc).counter < next.changeCue) →
        (s.mon out).counter < (s.heldReel out).last + e.runout →
        ∃ t, exec c s = .next t ∧ t.Answers src [0x0E, 0] ∧
          (t.entry (.douser out)).value = .douser false ∧ (t.entry (.douser inc)).value = .douser true ∧
          (t.entry (.sound k)).value = .sound (some inc) ∧
          t.slot inc = { s.slot inc with role := .showing } ∧ t.slot out = { s.slot out with role := .tailing } ∧
          t.eng k =
            { e with
              cur := e.cur + 1, strikeDone := false, motorTaken := false, changeTaken := false, changePending := false
              dark := false, runup := none, faultClaim := false } ∧
          (t.light k).requests =
            { (s.light k).requests with
              fault := none
              shown := match next.light with
                | some q => { position := q.position, fade := q.fade }
                | none => (s.light k).requests.shown } ∧
          t.lamps = s.lamps ∧ t.fire = s.fire ∧ t.notices = s.notices ∧ (∀ h, { t.mon h with idleTimer := (s.mon h).idleTimer } = s.mon h) ∧
          s.SameHouse t (otherHouse k) ∧ s.SameTables t))) ∧
  (∀ (s : State) (dt : Nat) (src target : Byte) (k : House), s.Listens src → houseOf target = some k →
    let c := Instr.showChange dt src target none
    let e := s.eng k
    let reel := s.programme.record e.cur
    ((∀ h, h.house = k → s.role h ≠ .showing) → s.Performs c src 0x0E .badState [] (s.heard dt)) ∧
    (∀ out inc : Head, out.house = k → s.role out = .showing → inc.house = k → inc.side ≠ reel.side → e.state = .running →
      reel.intervalAfter = false → reel.showEnd = false → e.changeTaken = false →
      (e.motorTaken = true → s.role inc ≠ .starting → s.Performs c src 0x0E .done [] ((s.heard dt).changeHeld inc)) ∧
      (e.motorTaken = false → e.changePending = false →
        let moved := (s.heard dt).motorTaken inc
        let comes := (s.role inc = .threaded ∨ s.role inc = .starting) ∧ (s.mon inc).motion = .locked ∧ (s.lamp inc).state = .burning
        (¬ comes → s.Performs c src 0x0E .done [] (moved.changeHeld inc)) ∧
        (comes → moved.SwapEnds inc →
          ∃ t, exec c s = .next t ∧ t.Answers src [0x0E, 0] ∧ moved.Swapped t inc)))) ∧
  (∀ (s : State) (dt : Nat) (src target i : Byte), s.Listens src →
    let refused := fun (c : Instr) (r : Result) => s.Performs c src 0x0E r [] (s.heard dt)
    refused (.showStart dt src target (some i)) .badOrder ∧ refused (.showChange dt src target (some i)) .badOrder ∧
    refused (.showHalt dt src target (some i)) .badOrder ∧ refused (.showResume dt src target (some i)) .badOrder ∧
    refused (.showLightsUp dt src target (some i)) .badOrder ∧ refused (.showLightsDown dt src target (some i)) .badOrder ∧
    refused (.showLightsAuto dt src target (some i)) .badOrder ∧ refused (.showThread dt src target (some i)) .badOrder ∧
    refused (.showStrike dt src target (some i)) .badOrder ∧ refused (.showFireDrop dt src target (some i)) .badOrder ∧
    refused (.showFireReset dt src target (some i)) .badOrder ∧
    (¬ (1 ≤ target.toNat ∧ target.toNat ≤ 2) →
      refused (.showStart dt src target none) .badIndex ∧ refused (.showChange dt src target none) .badIndex ∧
        refused (.showResume dt src target none) .badIndex ∧ refused (.showLightsUp dt src target none) .badIndex ∧
        refused (.showLightsDown dt src target none) .badIndex ∧ refused (.showLightsAuto dt src target none) .badIndex))

/-- HALT in ARMED, RUNNING or INTERVAL stops both heads, closes both dousers, puts the lamps out by normal shutdown, ends the run-up, sets
the fault claim and leaves the house HALTED; elsewhere it is refused BAD_STATE. A run-up's deadline stops the head's motor, raises
RUNUP_FAIL with the purpose as code, and ends the run-up; a head STARTING becomes THREADED, and the house state and the lamp stay. Without
a run-up, or before its deadline, nothing happens. A BURNING lamp ends in DARK even when the shutdown's accounting ends the rod (the
model's inference, log entry 15). That an expiry command before its deadline does nothing is its inference too (log entry 2). -/
def Obligations.HaltAndRunupDeadline : Prop :=
  (∀ (s : State) (dt : Nat) (src target : Byte), s.Listens src →
    let c := Instr.showHalt dt src target none
    (houseOf target = none → s.Performs c src 0x0E .badIndex [] (s.heard dt)) ∧
    (∀ k, houseOf target = some k →
      ((s.eng k).state = .armed ∨ (s.eng k).state = .running ∨ (s.eng k).state = .interval →
        ∃ t, exec c s = .next t ∧ t.Answers src [0x0E, 0] ∧ (s.heard dt).HouseHalted t k ∧ t.notices = s.notices ∧
          t.fire = s.fire) ∧
      ((s.eng k).state = .idle ∨ (s.eng k).state = .ended ∨ (s.eng k).state = .halted →
        s.Performs c src 0x0E .badState [] (s.heard dt)))) ∧
  (∀ (s : State) (dt : Nat) (k : House), s.Awake →
    (∀ r, (s.eng k).runup = some r → r.head.house = k → r.deadline ≤ (s.elapse dt).ms →
      ∃ t, exec (.runupDeadlineExpiry dt k) s = .next t ∧ (t.entry (.motor r.head)).value = .motor false ∧
        t.slot r.head = { s.slot r.head with role := if s.role r.head = .starting then .threaded else s.role r.head } ∧
        t.eng k = { s.eng k with runup := none } ∧ t.lamps = s.lamps ∧ t.lights = s.lights ∧ t.fire = s.fire ∧
        t.notices =
          s.notices.raised .runupFail (.head r.head)
            (some (match r.purpose with
              | .start => .start
              | .incoming => .incoming
              | .resume => .resume)) ∧
        (∀ d, d ≠ .motor r.head → (t.entry d).value = (s.entry d).value) ∧ (∀ h, h ≠ r.head → s.SameHead t h) ∧
        s.SameHouse t (otherHouse k) ∧ s.SameTables t) ∧
    ((∀ r, (s.eng k).runup = some r → (s.elapse dt).ms < r.deadline) → s.Becomes (.runupDeadlineExpiry dt k) (s.elapse dt)))

/-- The cue steps. A frame event of the SHOWING head of a RUNNING house that is due for nothing changes nothing. On a changeover reel the
strike point, with its mark clear, sets the mark and has the incoming lamp struck or raises NOT_THREADED; the motor cue by footage, at M +
W, raises CUE_MISSED and takes the motor cue; the change cue by footage, at C + W, raises CUE_MISSED and takes the change cue, which swaps
to an incoming head that is STARTING and ready and otherwise leaves the change pending with LATE_INCOMING. After a step that leaves the
head SHOWING the frame event goes on with the steps that remain. A reader's cue in order is taken without CUE_MISSED, and any other
advances the stray-cue counter and does nothing else. Every pulse accepted is the frame event of its head, judged before the pulse moves
the motion state (the model's order, log entry 18): a pulse that leaves the motion state alone brings nothing more but the monitor's own
fields; one that takes a STOPPED head to RUNUP idles its idle timer; one that takes a LOCKED head to SLOW releases the hold line, with
SHUTTER on a head still SHOWING, and raises PICTURE_LOST SLOW with the fault claim when that head shows in a RUNNING house; the move to
LOCKED is stated with the ready heads (ReadyHeadsAct). -/
def Obligations.CuesAndFootageTaken : Prop :=
  (∀ (s : State) (h inc : Head),
    let e := s.eng h.house
    let r := s.programme.record e.cur
    let n := (s.mon h).counter
    let changeover := r.intervalAfter = false ∧ r.showEnd = false
    let strikeDue := changeover ∧ e.strikeDone = false ∧ r.motorCue ≤ n + e.strikeLead * (s.mon h).fps
    let motorDue := changeover ∧ e.motorTaken = false ∧ r.motorCue + r.window ≤ n
    let changeDue := changeover ∧ e.changeTaken = false ∧ r.changeCue + r.window ≤ n
    s.role h = .showing → e.state = .running → inc.house = h.house → inc.side ≠ r.side →
    (¬ strikeDue → ¬ motorDue → ¬ changeDue → n < r.last → s.frameEvent h = s) ∧
    (strikeDue →
      let t := s.setEng h.house { e with strikeDone := true }
      (s.role inc = .threaded → s.frameEvent h = (t.strikeRequest inc).frameEvent h) ∧
      (s.role inc = .empty ∨ s.role inc = .tailing →
        s.frameEvent h = (t.raise .notThreaded (.head inc) (some .strike)).frameEvent h) ∧
      (s.role inc = .starting ∨ s.role inc = .showing → s.frameEvent h = t.frameEvent h)) ∧
    (¬ strikeDue → motorDue → e.changePending = false →
      s.frameEvent h = ((s.raise .cueMissed (.head h) (some .motor)).motorTaken inc).frameEvent h) ∧
    (¬ strikeDue → ¬ motorDue → changeDue →
      let t := s.raise .cueMissed (.head h) (some .change)
      let ready := s.role inc = .starting ∧ (s.mon inc).motion = .locked ∧ (s.lamp inc).state = .burning
      (¬ ready → s.frameEvent h = (t.changeHeld inc).frameEvent h) ∧
      (ready → s.SwapEnds inc → t.Swapped (s.frameEvent h) inc))) ∧
  (∀ (s : State) (h inc : Head),
    let e := s.eng h.house
    let r := s.programme.record e.cur
    let n := (s.mon h).counter
    let stray := s.setEng h.house { e with stray := min (e.stray + 1) 65535 }
    let inOrder := fun (mark : Bool) (cue : Nat) =>
      e.state = .running ∧ s.role h = .showing ∧ r.intervalAfter = false ∧ r.showEnd = false ∧ mark = false ∧
        cue ≤ n + r.window ∧ n ≤ cue + r.window
    inc.house = h.house → inc.side ≠ r.side →
    (¬ inOrder e.motorTaken r.motorCue → s.motorCue h = stray) ∧
    (inOrder e.motorTaken r.motorCue → e.changePending = false → s.motorCue h = s.motorTaken inc) ∧
    (¬ inOrder e.changeTaken r.changeCue → s.changeCue h = stray) ∧
    (inOrder e.changeTaken r.changeCue →
      let ready := s.role inc = .starting ∧ (s.mon inc).motion = .locked ∧ (s.lamp inc).state = .burning
      (¬ ready → s.changeCue h = s.changeHeld inc) ∧
      (ready → s.SwapEnds inc → s.Swapped (s.changeCue h) inc))) ∧
  (∀ (s : State) (dt p : Nat) (h : Head), s.Awake →
    let now := s.now + dt
    let m := s.mon h
    let tn := 10000 / m.fps
    let band := tn - tn / 20 ≤ now - p ∧ now - p ≤ tn + tn / 20
    m.inService = true → m.lastPulse = some p → 100 ≤ now - p →
    (m.motion = .locked ∧ now - p ≤ tn + tn / 20) ∨ ((m.motion = .runup ∨ m.motion = .slow) ∧ ¬ (band ∧ m.streak + 1 = 8)) →
    let framed := ((s.elapse dt).setMon h { m with lastPulse := some now, counter := min (m.counter + 1) 16777215 }).frameEvent h
    ∃ m', s.Becomes (.framePulse dt h) (framed.setMon h m')) ∧
  (∀ (s : State) (dt : Nat) (h : Head), s.Awake →
    let now := s.now + dt
    let m := s.mon h
    let tn := 10000 / m.fps
    let framed := ((s.elapse dt).setMon h { m with lastPulse := some now, counter := min (m.counter + 1) 16777215 }).frameEvent h
    m.inService = true →
    (m.motion = .stopped → m.hold = false → (∀ p, m.lastPulse = some p → 100 ≤ now - p) →
      s.Becomes (.framePulse dt h)
        (framed.setMon h
          { framed.mon h with
            motion := .runup, streak := 0, slowTimer := none, stopTimer := some (now + m.stopLimit * 10), idleTimer := none })) ∧
    (∀ p, m.motion = .locked → m.lastPulse = some p → 100 ≤ now - p → tn + tn / 20 < now - p →
      let slowed := framed.setMon h
        { framed.mon h with
          motion := .slow, streak := 0, interval := some (now - p), slowTimer := none, stopTimer := some (now + m.stopLimit * 10)
          hold := false, idleTimer := none }
      let held := if m.hold = true ∧ framed.role h = .showing then slowed.raise .shutter (.head h) none else slowed
      let lost := held.raise .pictureLost (.head h) (some .slow)
      let k := h.house
      ((framed.eng k).state = .running → framed.role h = .showing →
        s.Becomes (.framePulse dt h)
          ((lost.setEng k { lost.eng k with faultClaim := true }).setRequests k
            { (framed.light k).requests with
              fault := some { position := (framed.light k).faultPos, fade := (framed.light k).fastFade } })) ∧
      ((framed.eng k).state ≠ .running ∨ framed.role h ≠ .showing → s.Becomes (.framePulse dt h) held)))

/-- A head that becomes ready, by its monitor's move to LOCKED while its lamp burns or by its lamp's move to BURNING while its monitor is
LOCKED: with a run-up for START the engine enters RUNNING with it; for INCOMING the run-up ends, and a pending change swaps; for RESUME a
SHOWING head brings the picture back and a STARTING one swaps; with no run-up a SHOWING head of a RUNNING house is ready again and a
STARTING one swaps under a pending change; in any other case nothing happens. The steps of R119 are judged at once for the head then
SHOWING. A pulse that completes the streak of 8 reports the move to LOCKED; with the lamp not burning it brings nothing at the engine.
Three points are the model's inferences: an INCOMING run-up acts in a RUNNING house alone (log entry 37), a house resumed by a STARTING
head is RUNNING before the swap's steps (log entry 19), and a pulse brings its frame event first and re-judges the hold line and the idle
timer before the engine is told (log entry 18). -/
def Obligations.ReadyHeadsAct : Prop :=
  (∀ (s : State) (h : Head),
    let k := h.house
    let e := s.eng k
    let mine := ∃ r, e.runup = some r ∧ r.head = h
    let up := fun (t : State) => (t.writeDrive (.douser h) (.douser true)).writeDrive (.sound k) (.sound (some h))
    ((s.lamp h).state ≠ .burning → (s.mon h).motion = .locked → s.motionReport h = s) ∧
    ((s.mon h).motion ≠ .locked → s.litReport h = s) ∧
    ((s.mon h).motion = .locked → (s.lamp h).state = .burning →
      s.litReport h = s.motionReport h ∧
      (∀ r, e.runup = some r → r.head = h → r.purpose = .start → ∀ i, (s.slot h).held = some i →
        let lit : State :=
          up ((s.setRole h .showing).setEng k { e.fresh with state := .running, cur := i })
        s.motionReport h =
          (lit.setRequests k ((s.light k).requests.withdraw .fault)
            |>.setRequests k ((s.light k).requests.withCue (s.programme.record i).light)).frameEvent h) ∧
      (∀ r, e.runup = some r → r.head = h → r.purpose = .incoming →
        (e.changePending = false ∨ e.state ≠ .running → s.motionReport h = s.setEng k { e with runup := none }) ∧
        (e.changePending = true → e.state = .running → s.SwapEnds h → s.Swapped (s.motionReport h) h)) ∧
      (∀ r, e.runup = some r → r.head = h → r.purpose = .resume →
        (s.role h = .starting → s.SwapEnds h → (s.setEng k { e with state := .running }).Swapped (s.motionReport h) h) ∧
        (s.role h = .showing → ∀ inc : Head, inc.house = k →
          let back : State :=
            ((up (s.setEng k { e with runup := none, faultClaim := false, state := .running })).setRequests k
              { (s.light k).requests with fault := none }).frameEvent h
          let reel := back.programme.record (back.eng k).cur
          inc.side ≠ reel.side →
          let again := (back.eng k).motorTaken = true ∧ reel.intervalAfter = false ∧ reel.showEnd = false ∧ back.role inc = .threaded
          (¬ again → s.motionReport h = back) ∧
          (again → (back.eng k).changePending = false ∨ (back.mon inc).motion ≠ .locked ∨ (back.lamp inc).state ≠ .burning →
            s.motionReport h = back.incomingStarted inc)) ∧
        (s.role h ≠ .starting → s.role h ≠ .showing → s.motionReport h = s)) ∧
      (¬ mine →
        (e.state = .running → s.role h = .showing →
          s.motionReport h =
            (up (s.setEng k { e with faultClaim := false })).setRequests k { (s.light k).requests with fault := none }) ∧
        (e.state = .running → s.role h = .starting → e.changePending = true → s.SwapEnds h → s.Swapped (s.motionReport h) h) ∧
        (e.state ≠ .running ∨ (s.role h ≠ .showing ∧ (s.role h = .starting → e.changePending = false)) →
          s.motionReport h = s)))) ∧
  (∀ (s : State) (dt p : Nat) (h : Head), s.Awake →
    let now := s.now + dt
    let m := s.mon h
    let tn := 10000 / m.fps
    m.inService = true → m.lastPulse = some p → 100 ≤ now - p → tn - tn / 20 ≤ now - p → now - p ≤ tn + tn / 20 →
    m.motion = .runup ∨ m.motion = .slow → m.streak = 7 → (s.fireOf h.house).gate = true →
    let framed := ((s.elapse dt).setMon h { m with lastPulse := some now, counter := min (m.counter + 1) 16777215 }).frameEvent h
    s.Becomes (.framePulse dt h)
      ((framed.setMon h
        { framed.mon h with
          motion := .locked, streak := 8, interval := some (now - p), slowTimer := some (now + (tn + tn / 4))
          stopTimer := some (now + m.stopLimit * 10), hold := true, idleTimer := none }).motionReport h))

/-- The last picture frame. When the counter of the SHOWING head of a RUNNING house reaches L with nothing else due, the picture and the
sound end on it. A changeover reel leaves the screen dark: the dark flag and the fault claim are set, FAULT is placed, and PICTURE_LOST is
raised with code DARK. A reel with INTERVAL_AFTER puts the house in INTERVAL and one with SHOW_END in ENDED, each with its light request
placed and SHOW_DONE raised. A TAILING head's run ends when its counter reaches L plus the runout of the record it holds; a record that
the lookup finds outside the house's region or empty answers no L, and the run then ends at STOPPED alone (the model's choice, log entry
31). A frame event of any other head does nothing. -/
def Obligations.LastFrameEndsReel : Prop :=
  ∀ (s : State) (h : Head), s.orders.restart = .clear →
    let k := h.house
    let e := s.eng k
    let r := s.programme.record e.cur
    let n := (s.mon h).counter
    let l := s.light k
    let t := s.frameEvent h
    (s.role h = .showing → e.state = .running → r.last ≤ n →
      (r.intervalAfter = false → r.showEnd = false →
        (e.strikeDone = true ∨ n + e.strikeLead * (s.mon h).fps < r.motorCue) → (e.motorTaken = true ∨ n < r.motorCue + r.window) →
        (e.changeTaken = true ∨ n < r.changeCue + r.window) →
        s.ReelOver t h ∧ t.eng k = { e with dark := true, faultClaim := true } ∧
          (t.light k).requests = { l.requests with fault := some { position := l.faultPos, fade := l.fastFade } } ∧
          t.notices = s.notices.raised .pictureLost (.head h) (some .dark)) ∧
      (r.intervalAfter = true → r.showEnd = false →
        s.ReelOver t h ∧ t.eng k = { e with state := .interval } ∧
          (t.light k).requests = { l.requests with shown := { position := l.intervalPos, fade := l.fastFade } } ∧
          t.notices = s.notices.raised .showDone (.house k) (some .interval)) ∧
      (r.showEnd = true →
        s.ReelOver t h ∧ t.eng k = { e with state := .ended } ∧
          (t.light k).requests = { l.requests with shown := { position := l.endPos, fade := l.fastFade } } ∧
          t.notices = s.notices.raised .showDone (.house k) (some .ended))) ∧
    (∀ i : Fin 64, s.role h = .tailing → (s.slot h).held = some i.val →
      let last := (s.programme.reels.get i).last
      (s.programme.owner i ≠ k ∨ last = 0 ∨ n < last + e.runout → t = s) ∧
      (s.programme.owner i = k → last ≠ 0 → last + e.runout ≤ n →
        t.slot h = { role := .empty, held := none } ∧ (t.entry (.motor h)).value = .motor false ∧
          (t.lamp h = if (s.lamp h).state = .dark then s.lamp h else (s.lamp h).darkAt s.ms) ∧
          ((s.lamp h).state ≠ .dark → (t.entry (.douser h)).value = .douser false ∧ (t.entry (.lamp h)).value = .lamp false) ∧
          t.engines = s.engines ∧ t.lights = s.lights ∧ t.fire = s.fire ∧ t.notices = s.notices ∧
          (∀ h', h' ≠ h → s.SameHead t h') ∧ s.SameHouse t (otherHouse k) ∧ s.SameTables t)) ∧
    (s.role h = .empty ∨ s.role h = .threaded ∨ s.role h = .starting ∨ (s.role h = .showing ∧ e.state ≠ .running) → t = s)

/-! ### Chapter 7: the house lights -/

/-- R147: a request list whose effective request has the same source and position as before leaves position and fade alone; otherwise a
target equal to the position ends any fade, a fade time of 0 moves the position at once, and any other starts a new fade from the present
position. -/
def Obligations.EffectiveRequestMovesLights : Prop :=
  ∀ (s : State) (k : House) (r : Requests),
    let l := s.light k
    let old := l.requests.effective
    let new := r.effective
    let t := s.setRequests k r
    (t.light k).requests = r ∧ s.SameHouse t (otherHouse k) ∧
    (new.1 = old.1 → new.2.position = old.2.position →
      t.light k = { l with requests := r } ∧ ∀ d, t.entry d = s.entry d) ∧
    (new.1 ≠ old.1 ∨ new.2.position ≠ old.2.position →
      (new.2.position = l.position → t.light k = { l with requests := r, fade := none } ∧ ∀ d, t.entry d = s.entry d) ∧
      (new.2.position ≠ l.position → new.2.fade = 0 →
        t.light k = { l with requests := r, position := new.2.position, fade := none, lastTriple := l.lookup new.2.position } ∧
          (l.lookup new.2.position ≠ l.lastTriple → (t.entry (.dim k)).value = .dim (l.lookup new.2.position)) ∧
          (l.lookup new.2.position = l.lastTriple → t.entry (.dim k) = s.entry (.dim k))) ∧
      (new.2.position ≠ l.position → new.2.fade ≠ 0 →
        t.light k =
            { l with
              requests := r
              fade := some { p0 := l.position, target := new.2.position, n := new.2.fade, k := 0, began := s.ms } } ∧
          ∀ d, t.entry d = s.entry d))

/-- The light functions place or withdraw the OPERATOR request, discard the partial triple and are answered DONE in every state; a fade's
step at its moment moves the position by the fade's arithmetic, and its last step ends it at the target. -/
def Obligations.LightFunctionsAndFade : Prop :=
  (∀ (s : State) (dt : Nat) (src target : Byte) (k : House), s.Listens src → houseOf target = some k →
    let lights := fun (c : Instr) (r : Requests) =>
      s.Performs c src 0x0E .done []
        (((s.heard dt).setRequests k r).setLight k { ((s.heard dt).setRequests k r).light k with holder := [] })
    let l := s.light k
    lights (.showLightsUp dt src target none) { l.requests with operator := some { position := 255, fade := l.fastFade } } ∧
    lights (.showLightsDown dt src target none) { l.requests with operator := some { position := 0, fade := l.fastFade } } ∧
    lights (.showLightsAuto dt src target none) { l.requests with operator := none }) ∧
  (∀ (s : State) (dt : Nat) (k : House) (f : Fade), s.Awake → (s.light k).fade = some f → f.k < f.n → f.began + (f.k + 1) * 100 ≤ (s.elapse dt).ms →
    ∃ t, exec (.fadeStep dt k) s = .next t ∧
      ((t.light k).position : Int) = (f.p0 : Int) + (((f.target : Int) - f.p0) * (f.k + 1)).tdiv f.n ∧
      (t.light k).fade = (if f.k + 1 = f.n then none else some { f with k := f.k + 1 }) ∧
      (f.k + 1 = f.n → (t.light k).position = f.target) ∧
      (t.light k).lastTriple = (s.light k).lookup (t.light k).position ∧ (t.light k).requests = (s.light k).requests ∧
      (∀ d, d ≠ .dim k → (t.entry d).value = (s.entry d).value) ∧ t.monitors = s.monitors ∧ t.lamps = s.lamps ∧
      t.engines = s.engines ∧ t.fire = s.fire ∧ t.notices = s.notices ∧ s.SameHouse t (otherHouse k) ∧ s.SameTables t)

/-- CURVE POINT sets the write pointer and empties the holder. The lookup of a position interpolates each channel between the entry at a
quarter of the position and the next, entry 63 standing above itself. CURVE DATA of 1 to 11 bytes takes them in order and is answered DONE
with the pointer and the number of bytes then held, each in one byte (the model's choice of the widths, log entry 38). A byte is held
while fewer than two are; the third byte of a triple replaces the entry at the pointer, empties the holder and moves the pointer on. While
a fade runs, or when the present position does not use the entry, no lookup is made; otherwise the triple looked up, if it differs from
the last one written, is written to DIM. -/
def Obligations.CurveLoadsTriples : Prop :=
  (∀ (s : State) (dt : Nat) (src house entry : Byte), s.Listens src →
    let c := Instr.curvePoint dt src house entry
    (houseOf house = none ∨ 64 ≤ entry.toNat → s.Performs c src 0x07 .badIndex [] (s.heard dt)) ∧
    (∀ k, ∀ i : Fin 64, houseOf house = some k → entry.toNat = i.val →
      s.Performs c src 0x07 .done [] ((s.heard dt).setLight k { s.light k with pointer := i, holder := [] }))) ∧
  (∀ (l : LightUnit) (p : Nat) (i j : Fin 64), p ≤ 255 → i.val = p / 4 → j.val = min (p / 4 + 1) 63 →
    let lo := l.curve.get i
    let hi := l.curve.get j
    let between := fun (c d : Nat) => (c : Int) + (((d : Int) - c) * (p % 4 : Nat)).tdiv 4
    ((l.lookup p).ceiling : Int) = between lo.ceiling hi.ceiling ∧ ((l.lookup p).wall : Int) = between lo.wall hi.wall ∧
      ((l.lookup p).aisle : Int) = between lo.aisle hi.aisle) ∧
  (∀ (s : State) (dt : Nat) (src : Byte) (bytes : List Byte) (k : House), s.Listens src → 1 ≤ bytes.length → bytes.length ≤ 11 →
    (s.light k).holder.length ≤ 2 →
    let c := match k with
      | .one => Instr.curveDataHouse1 dt src bytes
      | .two => Instr.curveDataHouse2 dt src bytes
    let code : Byte := match k with
      | .one => 0x08
      | .two => 0x09
    let count := (s.light k).holder.length + bytes.length
    s.Performs c src code .done [BitVec.ofNat 8 (((s.light k).pointer + count / 3) % 64), BitVec.ofNat 8 (count % 3)]
      (bytes.foldl (fun t b => t.curveByte k b) (s.heard dt))) ∧
  (∀ (s : State) (k : House) (a b d : Byte),
    let l := s.light k
    (l.holder = [] → s.curveByte k a = s.setLight k { l with holder := [a] }) ∧
    (l.holder = [a] → s.curveByte k b = s.setLight k { l with holder := [a, b] }) ∧
    (l.holder = [a, b] →
      let l1 :=
        { l with
          curve := l.curve.set l.pointer { ceiling := a.toNat, wall := b.toNat, aisle := d.toNat }
          holder := [], pointer := l.pointer + 1 }
      let used := l.pointer.val = min (l.position / 4) 63 ∨ l.pointer.val = min (l.position / 4 + 1) 63
      let found := l1.lookup l.position
      (l.fade ≠ none ∨ ¬ used ∨ found = l.lastTriple → s.curveByte k d = s.setLight k l1) ∧
      (l.fade = none → used → found ≠ l.lastTriple →
        s.curveByte k d = (s.setLight k { l1 with lastTriple := found }).writeDrive (.dim k) (.dim found))))

/-! ### Chapter 8: fire -/

/-- A link line opening, and FIRE DROP, put a house that is not in FIRE into FIRE with all the effects of dropping the house; found in
FIRE the one records the line and the other is answered DONE and changes nothing. A line closing records its level alone. The lamps end in
DARK even when their last accounting ends the rod (log entry 15), and the start logic's record of the LINK line moves with it (log entry
26); both are the model's inferences. FIRE RESET is refused BAD_STATE out of FIRE, with the link line open, or with a detector in FIRE.
Otherwise the latch and the notice bit clear, the port line and the gate open, a head still LOCKED and in service has its shutter raised,
and the house is in ALERT when a detector stands in PRE, and CLEAR otherwise; the ALERT raised then names the zone of the first PRE entry
in list order (the model's choice of the oldest, log entry 25); the engine stays as it is. -/
def Obligations.FireDropsHouse : Prop :=
  (∀ (s : State) (dt : Nat) (k : House), s.Awake →
      (let lined := fun opened => ({ s.elapse dt with starter := { s.starter with link := s.starter.link.set k opened } } : State)
      ((s.fireOf k).linkOpen = false → (s.fireOf k).state ≠ .fire → (s.light k).requests.fire = none →
        ∃ t, exec (.linkChange dt k true) s = .next t ∧
          ((lined true).setFire k { s.fireOf k with linkOpen := true }).FireEntered t k .link) ∧
      ((s.fireOf k).linkOpen = false → (s.fireOf k).state = .fire →
        s.Becomes (.linkChange dt k true) ((lined true).setFire k { s.fireOf k with linkOpen := true })) ∧
      (s.Becomes (.linkChange dt k false) ((lined false).setFire k { s.fireOf k with linkOpen := false }))) ∧
      (∀ src target : Byte, s.Listens src →
        (houseOf target = none → s.Performs (.showFireDrop dt src target none) src 0x0E .badIndex [] (s.heard dt)) ∧
        (houseOf target = some k → (s.fireOf k).state ≠ .fire → (s.light k).requests.fire = none →
          ∃ t, exec (.showFireDrop dt src target none) s = .next t ∧ t.Answers src [0x0E, 0] ∧ (s.heard dt).FireEntered t k .drop) ∧
        (houseOf target = some k → (s.fireOf k).state = .fire →
          s.Performs (.showFireDrop dt src target none) src 0x0E .done [] (s.heard dt)))) ∧
  (∀ (s : State) (dt : Nat) (src target : Byte), s.Listens src →
      let c := Instr.showFireReset dt src target none
      (houseOf target = none → s.Performs c src 0x0E .badIndex [] (s.heard dt)) ∧
      (∀ k, houseOf target = some k →
        let f := s.fireOf k
        (f.state ≠ .fire ∨ f.linkOpen = true ∨ (∃ d ∈ f.detectors, d.condition = .fire) →
          s.Performs c src 0x0E .badState [] (s.heard dt)) ∧
        (f.state = .fire → f.linkOpen = false → (∀ d ∈ f.detectors, d.condition ≠ .fire) →
          ∃ t, exec c s = .next t ∧ t.Answers src [0x0E, 0] ∧
            t.fireOf k =
              { f with
                latch := false, port := true, gate := true
                state := if f.detectors.any (fun d => d.condition == .pre) then .alert else .clear } ∧
            t.notices.isPending (fireEvent k) = false ∧
            (∀ d, f.detectors.find? (fun d => d.condition == .pre) = some d →
              t.notices.isPending .alert = true ∧ (t.notices.causes.get Event.alert.num).cause = .zone d.zone) ∧
            (∀ h, h.house = k → (t.mon h).hold = (decide ((s.mon h).motion = .locked) && (s.mon h).inService)) ∧
            (t.light k).requests = { (s.light k).requests with fire := none } ∧ t.engines = s.engines ∧ t.slots = s.slots ∧
            t.lamps = s.lamps ∧ s.SameHouse t (otherHouse k) ∧ s.SameTables t)))

/-- A detector report for a house enters its list: an entry of its source takes the new zone and condition and moves to the tail, keeping
its PRE since while it stays PRE; a new source gets an entry unless the condition is NORMAL, the entry heard longest ago making room when
4 are held. The house is then judged on the list. FIRE puts a house that is not in FIRE into FIRE with code REPORT. PRE that enters PRE
while another source has been PRE for no longer than the confirm window does so with code CONFIRM; any other PRE puts a house in CLEAR
into ALERT and raises ALERT. FAULT that enters FAULT raises ALERT, in FIRE too. A house in ALERT whose list holds no PRE or FIRE entry
moves to CLEAR. A detector entry past its deadline is removed at its expiry, and the house is judged the same way; before its deadline
nothing happens (the model's inference, log entry 2). A house entering FIRE puts its lamps in DARK even when their last accounting ends
the rod (the model's inference, log entry 15). -/
def Obligations.DetectorEntriesJudged : Prop :=
  (∀ (s : State) (k : House) (source : Byte) (zone : Zone) (c : Condition) (list : List Detector), s.orders.restart = .clear →
    let f := s.fireOf k
    let entry := fun (pre : Option Nat) =>
      ({ source := source, zone := zone, condition := c, lastHeard := s.ms, preSince := if c = .pre then pre else none
         deadline := s.ms + s.fire.holdTime * 1000 } : Detector)
    let fresh := ∀ d ∈ f.detectors, d.source ≠ source
    let entered :=
      (∃ before old after, f.detectors = before ++ old :: after ∧ old.source = source ∧
        (∀ d ∈ before ++ after, d.source ≠ source) ∧
        list = before ++ after ++ [entry (if old.condition = .pre then old.preSince else some s.ms)]) ∨
      (fresh ∧ c = .normal ∧ list = f.detectors) ∨
      (fresh ∧ c ≠ .normal ∧ f.detectors.length < 4 ∧ list = f.detectors ++ [entry (some s.ms)]) ∨
      (fresh ∧ c ≠ .normal ∧ 4 ≤ f.detectors.length ∧ list = f.detectors.tail ++ [entry (some s.ms)])
    let was := fun (x : Condition) => ∃ d ∈ f.detectors, d.source = source ∧ d.condition = x
    let confirmed := ∃ d ∈ list, d.source ≠ source ∧ d.condition = .pre ∧
      ∃ p, d.preSince = some p ∧ s.ms - p ≤ s.fire.confirmWindow * 1000
    let alarmed := ∃ d ∈ list, d.condition = .pre ∨ d.condition = .fire
    let t := s.houseReport k source zone c
    let listed := s.setFire k { f with detectors := list }
    let judged := s.setFire k { f with detectors := list, state := .clear }
    entered →
    (c = .fire →
      (f.state ≠ .fire → (s.light k).requests.fire = none → listed.FireEntered t k .report) ∧ (f.state = .fire → t = listed)) ∧
    (c = .pre →
      (f.state ≠ .fire → ¬ was .pre → confirmed → (s.light k).requests.fire = none → listed.FireEntered t k .confirm) ∧
      (f.state = .clear → was .pre ∨ ¬ confirmed →
        t = (s.setFire k { f with detectors := list, state := .alert }).raise .alert (.zone zone) (some .pre)) ∧
      (f.state = .alert → was .pre ∨ ¬ confirmed → t = listed) ∧ (f.state = .fire → t = listed)) ∧
    (c = .fault →
      (f.state = .alert → ¬ alarmed → was .fault → t = judged) ∧
      (f.state = .alert → ¬ alarmed → ¬ was .fault → t = judged.raise .alert (.zone zone) (some .fault)) ∧
      (f.state ≠ .alert ∨ alarmed → was .fault → t = listed) ∧
      (f.state ≠ .alert ∨ alarmed → ¬ was .fault → t = listed.raise .alert (.zone zone) (some .fault))) ∧
    (c = .normal → (f.state = .alert → ¬ alarmed → t = judged) ∧ (f.state ≠ .alert ∨ alarmed → t = listed))) ∧
  (∀ (s : State) (dt : Nat) (k : House) (source : Byte), s.Awake →
    let f := s.fireOf k
    let rest := f.detectors.filter fun d => d.source != source
    ((∃ d ∈ f.detectors, d.source = source ∧ d.deadline ≤ (s.elapse dt).ms) →
      s.Becomes (.detectorExpiry dt k source)
        ((s.elapse dt).setFire k
          { f with
            detectors := rest
            state := if f.state = .alert ∧ ∀ d ∈ rest, d.condition ≠ .pre ∧ d.condition ≠ .fire then .clear else f.state })) ∧
    ((∀ d ∈ f.detectors, d.source = source → (s.elapse dt).ms < d.deadline) →
      s.Becomes (.detectorExpiry dt k source) (s.elapse dt)))

/-! ### Chapter 9: the panel and the notices -/

/-- R175: a raise records cause and code, advances the raise count up to 255, sets the bit pending and re-judges the ALERT line; a NOTICE
with the pending set after the raise is queued, or put in a waiting one's place, only when the event is unmasked and was not pending. A
waiting NOTICE keeps its place whatever else the FIFO holds; a new one that finds 4 ANSWERs waiting drops the oldest, which is counted
outside SEARCH (R21) and, named by a restart wait, requests the start (R190). Whatever the FIFO holds, nothing else changes. -/
def Obligations.RaiseRecordsEvent : Prop :=
  ∀ (s : State) (e : Event) (cause : Cause) (code : Option Code),
    let t := s.raise e cause code
    let contents : NoticeContents :=
      { pending := t.notices.pending, event := e, cause := cause, code := code
        count := min ((s.notices.causes.get e.num).count + 1) 255 }
    t.notices.causes.get e.num = { cause := cause, code := code, count := contents.count } ∧
    (∀ e', e' ≠ e → t.notices.causes.get e'.num = s.notices.causes.get e'.num) ∧
    (∀ n < 16, t.notices.pending.getLsbD n = (s.notices.pending.getLsbD n || decide (n = e.num.val))) ∧
    t.notices.alert = ((t.notices.pending &&& ~~~t.notices.mask != 0) && t.notices.quietTimer.isNone) ∧
    t.notices.mask = s.notices.mask ∧ t.notices.quietTimer = s.notices.quietTimer ∧ t.notices.quietTime = s.notices.quietTime ∧
    (s.notices.pending.getLsbD e.num = true ∨ s.notices.mask.getLsbD e.num = true → t.loop = s.loop ∧ t.orders = s.orders) ∧
    (s.notices.pending.getLsbD e.num = false → s.notices.mask.getLsbD e.num = false →
      ((∀ w ∈ s.loop.fifo, w.isNotice = false) → s.loop.fifo.length < 4 →
        t.loop = { s.loop with fifo := s.loop.fifo ++ [.notice contents] } ∧ t.orders = s.orders) ∧
      (∀ dst p named rest, s.loop.fifo = .answer dst p named :: rest → (∀ w ∈ rest, w.isNotice = false) → s.loop.fifo.length = 4 →
        t.loop =
          { s.loop with
            fifo := rest ++ [.notice contents]
            counters :=
              if s.loop.state = .search then s.loop.counters
              else { s.loop.counters with answerDrop := min (s.loop.counters.answerDrop + 1) 65535 } } ∧
        t.orders =
          { s.orders with restart := if named = true ∧ s.orders.restart = .waiting then .requested else s.orders.restart }) ∧
      (∀ before old after, s.loop.fifo = before ++ .notice old :: after → (∀ w ∈ before ++ after, w.isNotice = false) →
        t.loop = { s.loop with fifo := before ++ .notice contents :: after } ∧ t.orders = s.orders)) ∧
    { t with loop := s.loop, notices := s.notices, orders := s.orders } = s

/-- ACK clears the marked bits 2 to 15, MASK takes the marks of bits 2 to 15, ENDALERT releases the ALERT line and starts the quiet timer;
each is answered DONE, and the line follows the pending unmasked events while the quiet timer is idle. The panel guard's expiry clears the
panel-present flag and raises PANEL_LOST with code GUARD; the quiet timer's expiry asserts the ALERT line when an unmasked event is
pending. -/
def Obligations.NoticeOrdersAndTimers : Prop :=
  (∀ (s : State) (dt : Nat) (src : Byte) (marks : Word), s.Listens src →
    let line := fun (pending mask : Word) => (pending &&& ~~~mask != 0) && s.notices.quietTimer.isNone
    let kept := s.notices.pending &&& ~~~(marks &&& 0xFFFC)
    s.Performs (.ack dt src marks) src 0x0F .done []
      { s.heard dt with notices := { s.notices with pending := kept, alert := line kept s.notices.mask } } ∧
    s.Performs (.mask dt src marks) src 0x11 .done []
      { s.heard dt with
        notices := { s.notices with mask := marks &&& 0xFFFC, alert := line s.notices.pending (marks &&& 0xFFFC) } } ∧
    s.Performs (.endAlert dt src) src 0x10 .done []
      { s.heard dt with
        notices := { s.notices with alert := false, quietTimer := some ((s.elapse dt).ms + s.notices.quietTime) } }) ∧
  (∀ (s : State) (dt d : Nat), s.Awake → d ≤ (s.elapse dt).ms →
    (s.panel.present = true → s.panel.guard = some d →
      s.Becomes (.panelGuardExpiry dt)
        { s.elapse dt with
          panel := { s.panel with present := false, guard := none }
          notices := s.notices.raised .panelLost .none (some .guard) }) ∧
    (s.notices.quietTimer = some d →
      s.Becomes (.quietTimerExpiry dt)
        { s.elapse dt with
          notices := { s.notices with quietTimer := none, alert := s.notices.pending &&& ~~~s.notices.mask != 0 } }))

/-! ### Chapter 10: orders -/

/-- READ answers DONE with the section, the page and the page's bytes, and changes nothing of the part (the map entry section takes one
free value, log entry 9); a selector or a page out of range is refused BAD_INDEX, and so is a section outside 1 to 13, which has no row of
its own and arrives as a telegram. The curve entry section alone discards the named house's partial triple. The bytes of every section's
pages are given one by one: those of sections 6 and 9 to 13 and of the lamp state as R191 lays them out; a section without a layout of its
own is cut after every 8 bytes (log entry 10); a commanded value stands at the left of its 3 bytes and lists are numbered in the order of
their rules (log entry 24), and log entry 27 holds for the rest; all three are the model's inferences. -/
def Obligations.ReadAnswersPages : Prop :=
  (∀ (s : State) (dt : Nat) (src a b page : Byte), s.Listens src →
      let h := s.heard dt
      let answers := fun (c : Instr) (sec : Byte) (pages : Option (List (List Byte))) (after : State) =>
        ((pages = none ∨ page.toNat = 0 ∨ ∃ ps, pages = some ps ∧ ps.length < page.toNat) →
          s.Performs c src 0x01 .badIndex [] h) ∧
        (∀ ps bs, pages = some ps → 1 ≤ page.toNat → ps[page.toNat - 1]? = some bs →
          s.Performs c src 0x01 .done ([sec, page] ++ bs) after)
      answers (.readReactionEntry dt src a b page) 1 ((toIndex 32 a.toNat).map h.reactionPages) h ∧
      answers (.readMapEntry dt src a b page) 2 ((driveAt a.toNat).map h.mapPages) { h with freeCount := s.freeCount + 1 } ∧
      answers (.readReelRecord dt src a b page) 3 ((toIndex 64 a.toNat).map h.reelPages) h ∧
      answers (.readLampRecord dt src a b page) 4 ((headOf a).map h.lampRecordPages) h ∧
      answers (.readLampState dt src a b page) 5 ((headOf a).map h.lampStatePages) h ∧
      (∀ k, ∀ i : Fin 64, houseOf a = some k → b.toNat = i.val →
        answers (.readCurveEntry dt src a b page) 6 (some (h.curvePages k i)) (h.setLight k { s.light k with holder := [] })) ∧
      (houseOf a = none ∨ 64 ≤ b.toNat → answers (.readCurveEntry dt src a b page) 6 none h) ∧
      answers (.readSettingsItem dt src a b page) 7 (h.settingsPages a b) h ∧
      answers (.readCounters dt src a b page) 8 (h.counterPages a) h ∧
      answers (.readLoopState dt src a b page) 9 (some h.loopPages) h ∧
      answers (.readHouseState dt src a b page) 10 ((houseOf a).map h.housePages) h ∧
      answers (.readHeadMonitor dt src a b page) 11 ((headOf a).map h.monitorPages) h ∧
      answers (.readFireState dt src a b page) 12 ((houseOf a).map h.firePages) h ∧
      answers (.readNoticeSet dt src a b page) 13 (some h.noticePages) h ∧
      (∀ sec : Byte, sec.toNat < 1 ∨ 13 < sec.toNat →
        s.Performs (.telegramComplete dt (Frame.make s.orders.own src 0x20 [0x01, sec, a, b, page])) src 0x01 .badIndex [] h)) ∧
  (∀ (s : State) (i : Fin 32),
    let e := s.matcher.table.get i
    let flags := (if e.inUse then 1 else 0) + (if e.consume then 2 else 0) + (if e.protect then 4 else 0) + (if e.lockMark then 8 else 0)
    let act : List Byte := match e.action with
      | .pass => [0, 0]
      | .drop => [1, 0]
      | .cue h => [2, BitVec.ofNat 8 h.num]
      | .lamp h => [3, BitVec.ofNat 8 h.num]
      | .sense z => [4, BitVec.ofNat 8 z.num]
      | .panel => [5, 0]
    s.reactionPages i =
      [[BitVec.ofNat 8 flags, e.source, e.kind, e.selValue, e.selMask] ++ act ++ (twoBytes (s.matcher.counts.get i)).take 1,
        (twoBytes (s.matcher.counts.get i)).drop 1]) ∧
  (∀ (s : State) (d : DriveId),
    let e := s.entry d
    let value : List Byte := match e.value with
      | .motor b => [yesNo b, 0, 0]
      | .douser b => [yesNo b, 0, 0]
      | .lamp b => [yesNo b, 0, 0]
      | .feed n => twoBytes n ++ [0]
      | .sound none => [0, 0, 0]
      | .sound (some h) => [BitVec.ofNat 8 h.num, 0, 0]
      | .dim t => [BitVec.ofNat 8 t.ceiling, BitVec.ofNat 8 t.wall, BitVec.ofNat 8 t.aisle]
    (∀ w, e.dirty = some w →
      s.mapPages d = [[e.station, e.fn] ++ value ++ [1, placeIn [.safety, .change, .feed, .lights, .refresh] w.cls]]) ∧
    (e.dirty = none → ∃ free, s.mapPages d = [[e.station, e.fn] ++ value ++ [0, free]])) ∧
  (∀ (s : State) (i : Fin 64),
    let r := s.programme.reels.get i
    let q := r.light.getD { position := 0, fade := 0 }
    let k := s.programme.owner i
    let first := match k with
      | .one => 0
      | .two => s.programme.split
    let flags := (if r.side = .b then 1 else 0) + (if r.intervalAfter then 2 else 0) + (if r.showEnd then 4 else 0) +
      (if r.light.isSome then 8 else 0)
    let joined := ∀ j : Fin 64, first ≤ j.val → j.val ≤ i.val → (s.programme.reels.get j).last ≠ 0
    ∃ inProgramme : Bool, (inProgramme = true ↔ joined) ∧
      s.reelPages i =
        [[BitVec.ofNat 8 flags] ++ twoBytes r.last ++ twoBytes r.motorCue ++ twoBytes r.changeCue ++ [BitVec.ofNat 8 r.window],
          [BitVec.ofNat 8 q.position, BitVec.ofNat 8 q.fade, BitVec.ofNat 8 k.num, BitVec.ofNat 8 (i.val - first + 1),
            yesNo (s.recordInUse i), yesNo inProgramme]]) ∧
  (∀ (s : State) (h : Head),
    let l := s.lamp h
    let r := l.record
    let m := s.mon h
    let acc := BitVec.ofInt 16 l.acc
    s.lampRecordPages h =
      [twoBytes r.target, twoBytes r.base, twoBytes r.kp, twoBytes r.ki, twoBytes r.fmax, twoBytes r.imin, twoBytes r.trimLength,
        twoBytes r.lowMargin, twoBytes r.strikeLimit] ∧
    (∀ feed, (s.entry (.feed h)).value = .feed feed →
      s.lampStatePages h =
        [[placeIn [.dark, .striking, .burning, .failed] l.state] ++ twoBytes l.rod ++ twoBytes l.rem ++
            [acc.extractLsb' 8 8, acc.extractLsb' 0 8, yesNo l.stale],
          twoBytes l.rate ++ twoBytes feed ++
            [yesNo l.carbonLow,
              match l.strikeTimer with
              | some d => BitVec.ofNat 8 (min ((d - s.ms) / 1000) 255)
              | none => 0xFF],
          match l.sample with
          | some x => twoBytes x.voltage ++ [BitVec.ofNat 8 x.current, yesNo x.endSwitch] ++ twoBytes (min (s.ms - x.moment) 65535)
          | none => [0xFF, 0xFF, 0xFF, 0xFF, 0xFF, 0xFF]]) ∧
    s.monitorPages h =
      [[yesNo m.inService, placeIn [.stopped, .runup, .locked, .slow] m.motion, BitVec.ofNat 8 m.streak,
          BitVec.ofNat 8 (m.counter / 65536), BitVec.ofNat 8 (m.counter / 256), BitVec.ofNat 8 m.counter] ++ twoOrNone m.interval,
        (match m.interval with
          | some iv => twoBytes (100000 / iv)
          | none => [0, 0]) ++ twoBytes m.overspeed ++ [yesNo m.hold, BitVec.ofNat 8 m.fps] ++ twoBytes m.stopLimit,
        twoBytes m.idleLimit ++ twoOrNone (m.idleTimer.map fun d => (d - s.ms) / 1000)]) ∧
  (∀ (s : State) (k : House) (i : Fin 64),
    let l := s.light k
    let t := l.curve.get i
    let r := l.requests
    let e := s.eng k
    let f := s.fireOf k
    let request : Option LightReq → List Byte := fun
      | some q => [BitVec.ofNat 8 q.position, BitVec.ofNat 8 q.fade]
      | none => [0, 0]
    let present := (if r.fire.isSome then 1 else 0) + (if r.fault.isSome then 2 else 0) + (if r.operator.isSome then 4 else 0) + 8
    let fade := l.fade.getD { p0 := 0, target := 0, n := 0, k := 0, began := 0 }
    let head := fun x : Head =>
      [placeIn [.empty, .threaded, .starting, .showing, .tailing] (s.role x),
        match (s.slot x).held with
        | some j => BitVec.ofNat 8 j
        | none => 0xFF]
    s.curvePages k i =
      [[BitVec.ofNat 8 t.ceiling, BitVec.ofNat 8 t.wall, BitVec.ofNat 8 t.aisle, BitVec.ofNat 8 l.position,
          placeIn [.fire, .fault, .operator, .shown] r.effective.1, BitVec.ofNat 8 present] ++ request r.fire,
        request r.fault ++ request r.operator ++ request (some r.shown) ++ [BitVec.ofNat 8 fade.p0, BitVec.ofNat 8 fade.target],
        [BitVec.ofNat 8 fade.n, BitVec.ofNat 8 fade.k, BitVec.ofNat 8 l.lastTriple.ceiling, BitVec.ofNat 8 l.lastTriple.wall,
          BitVec.ofNat 8 l.lastTriple.aisle, BitVec.ofNat 8 l.pointer, BitVec.ofNat 8 l.holder.length]] ∧
    (∀ a b : Head, a.house = k → a.side = .a → b.house = k → b.side = .b →
      s.housePages k =
        [[placeIn [.idle, .armed, .running, .interval, .ended, .halted] e.state, BitVec.ofNat 8 e.cur, BitVec.ofInt 8 e.highest] ++
            head a ++ head b ++ [yesNo e.strikeDone],
          [yesNo e.motorTaken, yesNo e.changeTaken, yesNo e.changePending, yesNo e.dark, yesNo e.faultClaim] ++
            match e.runup with
            | some u =>
              [BitVec.ofNat 8 u.head.num, placeIn [.start, .incoming, .resume] u.purpose,
                BitVec.ofNat 8 (min ((u.deadline - s.ms) / 1000) 255)]
            | none => [0xFF, 0xFF, 0xFF]]) ∧
    s.firePages k =
      [placeIn [.clear, .alert, .fire] f.state, yesNo f.latch, yesNo f.linkOpen, yesNo f.port, yesNo f.gate,
          BitVec.ofNat 8 f.detectors.length] ::
        f.detectors.map fun d =>
          [d.source, BitVec.ofNat 8 d.zone.num, placeIn [.normal, .pre, .fire, .fault] d.condition] ++
            twoBytes (min (s.ms - d.lastHeard) 65535) ++ twoOrNone (d.preSince.map fun p => s.ms - p) ++
            [BitVec.ofNat 8 (min ((d.deadline - s.ms) / 1000) 255)]) ∧
  (∀ s : State,
    let l := s.loop
    let n := s.notices
    let m := s.panel.last
    let word := fun w : Word => [w.extractLsb' 8 8, w.extractLsb' 0 8]
    s.loopPages =
      [[placeIn [.search, .held, .listen] l.state, placeIn [.r19200, .r9600, .r4800, .r2400] l.rate, yesNo l.latch,
        yesNo l.leaveAwaiting, s.orders.own, BitVec.ofNat 8 l.transit.length, BitVec.ofNat 8 l.repeats.length,
        BitVec.ofNat 8 l.fifo.length]] ∧
    s.noticePages =
      [word n.pending ++ word n.mask ++ [yesNo n.alert] ++ twoOrNone (n.quietTimer.map fun d => d - s.ms) ++ [yesNo s.panel.present],
        [m.house1, m.house2, m.head, m.common]] ++
      ([.fire1, .fire2, .alert, .shutter, .pictureLost, .lateIncoming, .runupFail, .cueMissed, .carbonLow, .carbonEnd, .arcFail,
        .showDone, .notThreaded, .loop, .panelLost, .restarted] : List Event).map fun e =>
          let c := n.causes.get e.num
          (match c.cause with
            | .none => [0, 0]
            | .head h => [1, BitVec.ofNat 8 h.num]
            | .house k => [2, BitVec.ofNat 8 k.num]
            | .zone z => [3, BitVec.ofNat 8 z.num]) ++
          [match c.code with
            | some x => BitVec.ofNat 8 (e.codes.idxOf x + 1)
            | none => 0, BitVec.ofNat 8 (min c.count 255)]) ∧
  (∀ (s : State) (a b : Byte),
    let flag := fun x : Bool => if x then 1 else 0
    let item := fun (v : Nat) => s.settingsPages a b = some [twoBytes v]
    (a = 1 → item s.loop.guardTime) ∧ (a = 2 → item s.loop.returnLimit) ∧ (a = 3 → item s.drive.refreshPeriod) ∧
    (a = 4 → item s.loop.console.toNat) ∧ (a = 17 → item s.fire.holdTime) ∧ (a = 18 → item s.fire.confirmWindow) ∧
    (a = 19 → item s.panel.guardTime) ∧ (a = 20 → item s.notices.quietTime) ∧ (a = 21 → item s.orders.own.toNat) ∧
    (a = 22 → item (flag s.orders.addressLock)) ∧ (a = 23 → item (flag s.matcher.writeLock)) ∧ (a = 24 → item s.programme.split) ∧
    (∀ h, headOf b = some h →
      (a = 5 → item (flag (s.mon h).inService)) ∧ (a = 6 → item (s.mon h).fps) ∧ (a = 7 → item (s.mon h).stopLimit) ∧
        (a = 8 → item (s.mon h).idleLimit)) ∧
    (headOf b = none → 5 ≤ a.toNat → a.toNat ≤ 8 → s.settingsPages a b = none) ∧
    (∀ k, houseOf b = some k →
      (a = 9 → item (s.eng k).runupLimit) ∧ (a = 10 → item (s.eng k).strikeLead) ∧ (a = 11 → item (s.eng k).runout) ∧
        (a = 12 → item (s.light k).idlePos) ∧ (a = 13 → item (s.light k).faultPos) ∧ (a = 14 → item (s.light k).intervalPos) ∧
        (a = 15 → item (s.light k).endPos) ∧ (a = 16 → item (s.light k).fastFade)) ∧
    (houseOf b = none → 9 ≤ a.toNat → a.toNat ≤ 16 → s.settingsPages a b = none) ∧
    (a = 0 ∨ 24 < a.toNat → s.settingsPages a b = none) ∧
    (a.toNat ≤ 45 →
      s.counterPages a =
        some
          [((([s.loop.counters.brk, s.loop.counters.length, s.loop.counters.check, s.loop.counters.overrun, s.loop.counters.lost,
                    s.loop.counters.clash, s.loop.counters.answerDrop] ++
                  s.matcher.counts.cells ++ [s.matcher.malformed, (s.mon .h1).overspeed, (s.mon .h2).overspeed, (s.mon .h3).overspeed,
                    (s.mon .h4).overspeed, (s.eng .one).stray, (s.eng .two).stray]).drop a.toNat).take 3).flatMap twoBytes]) ∧
    (45 < a.toNat → s.counterPages a = none))

/-- SETUP's tuning items: a value in range is stored and answered DONE, one outside it is clamped and answered CLAMPED with the value
stored; a head outside 1 to 4 or a house outside 1 and 2 is refused BAD_INDEX; the fire items are refused LOCKED under the write lock. -/
def Obligations.SetupStoresTuningValue : Prop :=
  ∀ (s : State) (dt : Nat) (src x : Byte) (value : Word), s.Listens src →
    let h := s.heard dt
    let v := value.toNat
    let put := fun (c : Instr) (lo hi : Nat) (after : Nat → State) =>
      s.Performs c src 0x06 (if lo ≤ v ∧ v ≤ hi then .done else .clamped)
        (if lo ≤ v ∧ v ≤ hi then [] else be16 (max lo (min hi v))) (after (max lo (min hi v)))
    let refused := fun (c : Instr) (r : Result) => s.Performs c src 0x06 r [] h
    put (.setupLoopGuardTime dt src x value) 500 5000 (fun w => { h with loop := { h.loop with guardTime := w } }) ∧
    put (.setupReturnLimit dt src x value) 100 2000 (fun w => { h with loop := { h.loop with returnLimit := w } }) ∧
    put (.setupRefreshPeriod dt src x value) 500 10000 (fun w => { h with drive := { s.drive with refreshPeriod := w } }) ∧
    put (.setupPanelGuardTime dt src x value) 500 5000 (fun w => { h with panel := { s.panel with guardTime := w } }) ∧
    put (.setupQuietTime dt src x value) 100 5000 (fun w => { h with notices := { s.notices with quietTime := w } }) ∧
    (∀ hd, headOf x = some hd →
      put (.setupNominalRate dt src x value) 16 30 (fun w => h.setMon hd { s.mon hd with fps := w }) ∧
      put (.setupStopLimit dt src x value) 200 2000 (fun w => h.setMon hd { s.mon hd with stopLimit := w }) ∧
      put (.setupIdleLimit dt src x value) 10 600 (fun w => h.setMon hd { s.mon hd with idleLimit := w })) ∧
    (headOf x = none →
      refused (.setupNominalRate dt src x value) .badIndex ∧ refused (.setupStopLimit dt src x value) .badIndex ∧
        refused (.setupIdleLimit dt src x value) .badIndex) ∧
    (∀ k, houseOf x = some k →
      put (.setupRunupLimit dt src x value) 2 30 (fun w => h.setEng k { s.eng k with runupLimit := w }) ∧
      put (.setupStrikeLead dt src x value) 0 120 (fun w => h.setEng k { s.eng k with strikeLead := w }) ∧
      put (.setupRunout dt src x value) 0 960 (fun w => h.setEng k { s.eng k with runout := w }) ∧
      put (.setupIdlePosition dt src x value) 0 255 (fun w => h.setLight k { s.light k with idlePos := w, holder := [] }) ∧
      put (.setupFaultPosition dt src x value) 0 255 (fun w => h.setLight k { s.light k with faultPos := w, holder := [] }) ∧
      put (.setupIntervalPosition dt src x value) 0 255
        (fun w => h.setLight k { s.light k with intervalPos := w, holder := [] }) ∧
      put (.setupEndPosition dt src x value) 0 255 (fun w => h.setLight k { s.light k with endPos := w, holder := [] }) ∧
      put (.setupFastFadeTime dt src x value) 0 255 (fun w => h.setLight k { s.light k with fastFade := w, holder := [] })) ∧
    (houseOf x = none →
      refused (.setupRunupLimit dt src x value) .badIndex ∧ refused (.setupStrikeLead dt src x value) .badIndex ∧
        refused (.setupRunout dt src x value) .badIndex ∧ refused (.setupIdlePosition dt src x value) .badIndex ∧
        refused (.setupFaultPosition dt src x value) .badIndex ∧ refused (.setupIntervalPosition dt src x value) .badIndex ∧
        refused (.setupEndPosition dt src x value) .badIndex ∧ refused (.setupFastFadeTime dt src x value) .badIndex) ∧
    (s.matcher.writeLock = false →
      put (.setupDetectorHoldTime dt src x value) 2 60 (fun w => { h with fire := { s.fire with holdTime := w } }) ∧
      put (.setupConfirmWindow dt src x value) 5 120 (fun w => { h with fire := { s.fire with confirmWindow := w } })) ∧
    (s.matcher.writeLock = true →
      refused (.setupDetectorHoldTime dt src x value) .locked ∧ refused (.setupConfirmWindow dt src x value) .locked)

/-- The console address takes 1 to 30 and is refused BAD_VALUE outside; a SETUP item outside 1 to 20 is refused BAD_INDEX, a SHOW function
outside 1 to 12 BAD_VALUE, and a payload whose structure is refused BAD_ORDER, with its code echoed and 0 for an empty payload. -/
def Obligations.StructuralValuesRefused : Prop :=
  ∀ (s : State) (dt : Nat) (src x y : Byte) (value : Word) (start : Option Byte) (payload : List Byte), s.Listens src →
    (1 ≤ value.toNat → value.toNat ≤ 30 →
      s.Performs (.setupConsoleAddress dt src x value) src 0x06 .done []
        { s.heard dt with loop := { (s.heard dt).loop with console := BitVec.ofNat 8 value.toNat } }) ∧
    (value.toNat < 1 ∨ 30 < value.toNat → s.Performs (.setupConsoleAddress dt src x value) src 0x06 .badValue [] (s.heard dt)) ∧
    (x.toNat < 1 ∨ 20 < x.toNat → s.Performs (.setupBadItem dt src x y value) src 0x06 .badIndex [] (s.heard dt)) ∧
    (x.toNat < 1 ∨ 12 < x.toNat → s.Performs (.showBadFunction dt src x y start) src 0x0E .badValue [] (s.heard dt)) ∧
    (badPayload payload = true →
      s.Performs (.unknownOrder dt src payload) src (payload.headD 0) .badOrder [] (s.heard dt))

/-- An order refused with any result from BAD_ORDER to NO_REEL changes nothing, whatever the state it finds. -/
def Obligations.RefusedOrderChangesNothing : Prop :=
  ∀ (o : Order) (s : State), 2 ≤ (judgeOrder o s).2.result.code.toNat → (judgeOrder o s).1 = s ∧ (judgeOrder o s).2.data = []

/-- ADDRESS is refused LOCKED under the address lock, BAD_VALUE for an address outside 1 to 30 or a flag above 1, and otherwise sets the
own address, and the address lock for a flag of 1. -/
def Obligations.AddressMovesOwnAddress : Prop :=
  ∀ (s : State) (dt : Nat) (src a flag : Byte), s.Listens src →
    let c := Instr.address dt src a flag
    (s.orders.addressLock = true → s.Performs c src 0x0C .locked [] (s.heard dt)) ∧
    (s.orders.addressLock = false →
      (a.toNat < 1 ∨ 30 < a.toNat ∨ 1 < flag.toNat → s.Performs c src 0x0C .badValue [] (s.heard dt)) ∧
      (1 ≤ a.toNat → a.toNat ≤ 30 → flag.toNat ≤ 1 →
        s.Performs c src 0x0C .done []
          { s.heard dt with orders := { s.orders with own := a, addressLock := decide (flag = 1) } }))

/-- R189: CLEAR COUNTERS sets the 46 counters to 0 and nothing else, and is answered DONE. -/
def Obligations.ClearCountersZeroesAll : Prop :=
  ∀ (s : State) (dt : Nat) (src : Byte), s.Listens src →
    ∃ t, exec (.clearCounters dt src) s = .next t ∧ t.Answers src [0x14, 0] ∧
      (s.loop.fifo.length < 4 → t.counterList = List.replicate 46 0) ∧
      t.Settles
        { s.heard dt with
          loop := { (s.heard dt).loop with counters := LoopCounters.zero }
          matcher := { s.matcher with counts := Table.replicate 32 0, malformed := 0 }
          monitors := s.monitors.map fun m => { m with overspeed := 0 }
          engines := s.engines.map fun e => { e with stray := 0 } }

/-- Decoding the payload of an encoded order gives the order back, and every payload that is not refused encodes back to itself. An
order's row of the opcode table is the arrival of the good ORDER telegram to the part that carries the order's encoding. This last is the
model's reading of the rows (log entry 6). Each order's bytes are laid out as section 10.7 gives them, two-byte values high byte first;
results are coded 0 to 9 as R183 lists them; and heads 1 and 2 are sides A and B of House 1, heads 3 and 4 of House 2. -/
def Obligations.OrderCodingRoundTrip : Prop :=
  ((∀ o : Order, (∀ c, o ≠ .bad c) → (∀ k bs, o = .curveData k bs → 1 ≤ bs.length ∧ bs.length ≤ 11) →
      decodeOrder (encodeOrder o) = o) ∧
    ∀ p : List Byte, (∀ c, decodeOrder p ≠ .bad c) → encodeOrder (decodeOrder p) = p) ∧
  (∀ (o : Order) (dt : Nat) (src : Byte) (c : Instr) (s : State), o.row dt src = some c →
      (∀ k bs, o = .curveData k bs → 1 ≤ bs.length ∧ bs.length ≤ 11) →
      exec c s =
        exec (.telegramComplete dt { dst := s.orders.own, src := src, kind := 0x20, payload := encodeOrder o
                                     check := (Frame.make s.orders.own src 0x20 (encodeOrder o)).check }) s) ∧
  (let word := fun w : Word => [w.extractLsb' 8 8, w.extractLsb' 0 8];
    (∀ a b c d, encodeOrder (.read a b c d) = [0x01, a, b, c, d]) ∧
    (∀ p, encodeOrder (.writeReact p) = [0x02, p.index, p.flags, p.source, p.kind, p.selValue, p.selMask, p.action, p.target]) ∧
    (∀ i a f, encodeOrder (.writeMap i a f) = [0x03, i, a, f]) ∧
    (∀ p, encodeOrder (.writeReel p) =
      [0x04, p.index, p.flags] ++ word p.last ++ word p.motorCue ++ word p.changeCue ++ [p.window, p.lightPos, p.lightFade]) ∧
    (∀ h i v, encodeOrder (.writeLamp h i v) = [0x05, h, i] ++ word v) ∧ (∀ i x v, encodeOrder (.setup i x v) = [0x06, i, x] ++ word v) ∧
    (∀ k i, encodeOrder (.curvePoint k i) = [0x07, k, i]) ∧ (∀ bs, encodeOrder (.curveData .one bs) = 0x08 :: bs) ∧
    (∀ bs, encodeOrder (.curveData .two bs) = 0x09 :: bs) ∧ (∀ h, encodeOrder (.trim h none) = [0x0A, h]) ∧
    (∀ h n, encodeOrder (.trim h (some n)) = [0x0A, h] ++ word n) ∧ (∀ i, encodeOrder (.splitPoint i) = [0x0B, i]) ∧
    (∀ a l, encodeOrder (.address a l) = [0x0C, a, l]) ∧ encodeOrder .lock = [0x0D] ∧
    (∀ f x, encodeOrder (.showFn f x none) = [0x0E, f, x]) ∧ (∀ f x i, encodeOrder (.showFn f x (some i)) = [0x0E, f, x, i]) ∧
    (∀ m, encodeOrder (.ack m) = 0x0F :: word m) ∧ encodeOrder .endAlert = [0x10] ∧ (∀ m, encodeOrder (.mask m) = 0x11 :: word m) ∧
    encodeOrder .leave = [0x12] ∧ encodeOrder .join = [0x13] ∧ encodeOrder .clearCounters = [0x14] ∧ encodeOrder .restart = [0x15]) ∧
  ([Result.done, .clamped, .badOrder, .badIndex, .badValue, .badState, .inUse, .locked, .wrongHead, .noReel].map Result.code =
      [0, 1, 2, 3, 4, 5, 6, 7, 8, 9]) ∧
  ((∀ (b : Byte) (h : Head), headOf b = some h ↔ b.toNat = h.num) ∧ (∀ (b : Byte) (k : House), houseOf b = some k ↔ b.toNat = k.num) ∧
    [Head.h1, .h2, .h3, .h4].map (fun h => (h.num, h.house, h.side)) =
      [(1, .one, .a), (2, .one, .b), (3, .two, .a), (4, .two, .b)] ∧ House.one.num = 1 ∧ House.two.num = 2)

/-! ### Chapter 11: start, stop and the retained store -/

/-- The stop: at a supply fall or a reset the direct lines are released, the bypass relay closes and what is being sent is abandoned, and
until the supply returns or the reset is released a command only lets time pass and moves the input lines. The blocks stand still and
raise nothing (log entry 23); SUPPLY_FAIL records the line low and the fall, RESET_ASSERT the line driven low and LINK_CHANGE the level of
its line, and nothing else (log entry 26); both are the model's inferences. A start that ends a stop on a store whose check sum verifies,
CLEAR not held, is warm: the direct lines are safe, every retained content of R192 is kept (tables, programme, lamp records and rods,
curves, addresses, locks and every setting), a fire latch being set where the house is then found in FIRE, the loop unit is in SEARCH at
19200 bit/s, every lamp is DARK, every monitor STOPPED and every head EMPTY, a house is HALTED in FIRE when its latch or its link line
says so and IDLE otherwise, every drive entry holds its safe value or the light position's and is dirty, and RESTARTED is pending with the
code of the cause. The record of a supply fall is then cleared and the SUPPLY, RESET and CLEAR records stand as the lines do (R194); the
answer/notice FIFO holds the one NOTICE alone with the contents of the last unmasked raise, House 2's after House 1's (the model's choice,
log entry 36); and the cause record of an event not raised holds none. LOOP OUT is free after a start with no gap (the model's choice, log
entry 33). While the other line still holds the stop, it lasts. A start with CLEAR held or on a store whose check sum fails is cold: every
retained item takes its delivered value, all else is as after a warm start, a latch is lost, a house is in FIRE when its link line says
so, and RESTARTED is pending with code COLD. -/
def Obligations.StopTakesNoEvent : Prop :=
  (∀ (s : State) (dt : Nat), s.starter.stopped = false →
    let stopped := fun (u : StartUnit) =>
      ({ s.elapse dt with
         monitors := s.monitors.map fun m => { m with hold := false }
         lamps := s.lamps.map fun l => { l with contactor := false }
         fire := { s.fire with house := s.fire.house.map fun f => { f with port := false } }
         notices := { s.notices with alert := false }
         loop := { s.loop with bypass := true, rx := .seeking, out := .free }
         starter := { u with stopped := true } } : State)
    exec (.supplyFail dt) s = .next (stopped { s.starter with supply := false, supplyFallen := true }) ∧
    exec (.resetAssert dt) s = .next (stopped { s.starter with reset := true })) ∧
  (∀ (s t : State) (c : Instr), s.starter.stopped = true → (∀ dt b, c ≠ .supplyReturn dt b) → (∀ dt b, c ≠ .resetRelease dt b) →
    exec c s = .next t →
    { t with now := s.now, starter := s.starter } = s ∧ t.starter.stopped = true ∧
      ((∀ dt, c ≠ .supplyFail dt) → (∀ dt, c ≠ .resetAssert dt) → (∀ dt k o, c ≠ .linkChange dt k o) → t.starter = s.starter)) ∧
  (∀ (s : State) (dt : Nat), s.starter.stopped = true →
    exec (.supplyFail dt) s = .next { s.elapse dt with starter := { s.starter with supply := false, supplyFallen := true } } ∧
    exec (.resetAssert dt) s = .next { s.elapse dt with starter := { s.starter with reset := true } } ∧
    ∀ k o, ∃ t, exec (.linkChange dt k o) s = .next t ∧ t.starter.link.get k = o ∧
      (∀ j, j ≠ k → t.starter.link.get j = s.starter.link.get j) ∧
      t = { s.elapse dt with starter := { s.starter with link := t.starter.link } }) ∧
  (∀ (s : State) (dt : Nat), s.starter.stopped = true → s.StoreKept →
      (∀ c, (c = Instr.supplyReturn dt false ∧ s.starter.reset = false) ∨ (c = Instr.resetRelease dt false ∧ s.starter.supply = true) →
        ∃ t, exec c s = .next t ∧
          State.WarmStarted { s with starter := { s.starter with supply := true, reset := false, clear := false } } t
            (if s.starter.supplyFallen then .supply else .warm)) ∧
      (∀ b, s.starter.reset = true →
        exec (.supplyReturn dt b) s = .next { s.elapse dt with starter := { s.starter with supply := true, clear := b } }) ∧
      (∀ b, s.starter.supply = false →
        exec (.resetRelease dt b) s = .next { s.elapse dt with starter := { s.starter with reset := false, clear := b } })) ∧
  (∀ (s : State) (dt : Nat) (b : Bool), s.starter.stopped = true → b = true ∨ ¬ s.StoreKept →
    ∀ c, (c = Instr.supplyReturn dt b ∧ s.starter.reset = false) ∨ (c = Instr.resetRelease dt b ∧ s.starter.supply = true) →
      ∃ t, exec c s = .next t ∧
        State.WarmStarted
          (State.delivered { s with starter := { s.starter with supply := true, reset := false, clear := b } }) t .cold ∧
        t.starter = { s.starter with stopped := false, supply := true, reset := false, clear := b, supplyFallen := false } ∧
        t.StoreKept ∧
        t.orders = { own := 24, addressLock := false, restart := .clear } ∧
        t.loop.guardTime = 1500 ∧ t.loop.returnLimit = 500 ∧ t.loop.console = 1 ∧ t.loop.state = .search ∧ t.loop.rate = .r19200 ∧
        t.loop.dwell = some (t.ms + 600) ∧ t.loop.latch = false ∧ t.loop.transit = [] ∧ t.loop.counters = LoopCounters.zero ∧
        (∀ i, (t.matcher.table.get i).inUse = false ∧ (t.matcher.table.get i).lockMark = false ∧ t.matcher.counts.get i = 0) ∧
        t.matcher.writeLock = false ∧ t.matcher.malformed = 0 ∧
        (∀ i, (t.programme.reels.get i).last = 0) ∧ t.programme.split = 32 ∧ t.drive.refreshPeriod = 2000 ∧
        (∀ d, (t.entry d).station = 0 ∧ (t.entry d).fn = deliveredFn d ∧ (t.entry d).lastValue = none ∧ (t.entry d).dirty.isSome) ∧
        (∀ h, (t.lamp h).record =
              { target := 560, base := 96, kp := 32, ki := 64, fmax := 240, imin := 40, trimLength := 9000, lowMargin := 120
                strikeLimit := 5 } ∧
          (t.lamp h).rod = 9000 ∧ (t.lamp h).state = .dark ∧ (t.lamp h).contactor = false ∧ (t.mon h).inService = true ∧
          (t.mon h).fps = 24 ∧ (t.mon h).stopLimit = 400 ∧ (t.mon h).idleLimit = 120 ∧ (t.mon h).motion = .stopped ∧
          (t.mon h).hold = false ∧ t.slot h = { role := .empty, held := none } ∧ (t.entry (.motor h)).value = .motor false ∧
          t.LampEntriesSafe h) ∧
        (∀ k, (∀ i : Fin 64, (t.light k).curve.get i =
              { ceiling := i.val * 255 / 63, wall := i.val * 255 / 63, aisle := i.val * 255 / 63 }) ∧
          (t.light k).idlePos = 255 ∧ (t.light k).faultPos = 128 ∧ (t.light k).intervalPos = 160 ∧ (t.light k).endPos = 255 ∧
          (t.light k).fastFade = 20 ∧ (t.light k).position = 255 ∧ (t.eng k).runupLimit = 10 ∧ (t.eng k).strikeLead = 40 ∧
          (t.eng k).runout = 192 ∧ (t.entry (.sound k)).value = .sound none ∧
          if s.starter.link.get k = true then
            (t.fireOf k).state = .fire ∧ (t.fireOf k).latch = true ∧ (t.fireOf k).port = false ∧ (t.eng k).state = .halted
          else
            (t.fireOf k).state = .clear ∧ (t.fireOf k).latch = false ∧ (t.fireOf k).port = true ∧ (t.fireOf k).gate = true ∧
              (t.eng k).state = .idle) ∧
        t.fire.holdTime = 10 ∧ t.fire.confirmWindow = 30 ∧ t.panel.guardTime = 2000 ∧ t.panel.present = false ∧ t.notices.mask = 0 ∧
        t.notices.quietTime = 1000 ∧ t.notices.isPending .restarted = true ∧
        (t.notices.causes.get Event.restarted.num).code = some .cold)

/-- RESTART is answered DONE. In HELD the restart wait is set and the named ANSWER waits or is being sent; in LISTEN the part restarts
within the order's event, warm with code ORDER, its stop and its start being one event (the model's choice, log entry 14). The wait ends
in that start with the last byte of the named ANSWER, with the move to LISTEN that a LEAVE makes at once or after the telegram being sent,
with an entry to SEARCH by the guard or by the third loss, and with the drop of the named ANSWER from a full FIFO. Until then every order
is taken, executed and answered, a second RESTART answered DONE and changing nothing more, no command ends the wait in any other way than
that start, and while it lasts every other block goes on as usual: any command but a RESTART does what it does with no restart awaited.
When a supply fall or a reset waits next at the same moment, it prolongs the stop that the RESTART has begun (the model's reading of
reaching the start logic together, log entry 14): the RESTART leaves the part stopped, and the one start that follows is the fall's. An
ANSWER dropped from a full FIFO is the oldest, is counted outside SEARCH, and requests the start when it is the named one; an event that
ends with the start requested carries it out. At an entry to SEARCH a NOTICE being sent goes back to the head of the FIFO, which makes
room without counting, unless another waits there, and an ANSWER being sent is lost, LOOP OUT being free at once (presumed, log entry 12);
a restart wait is then a request. -/
def Obligations.RestartWaitsForAnswer : Prop :=
  (∀ (s : State) (dt : Nat) (src : Byte), s.StoreKept →
    (s.Listens src → (s.heard dt).loop.state = .held →
      ∃ t, exec (.restart dt src) s = .next t ∧
        t.Settles { s.heard dt with orders := { s.orders with restart := .waiting } } ∧
        (Waiting.answer src [0x15, 0] true ∈ t.loop.fifo ∨
          t.loop.out = .sending (.answer (Frame.make src s.orders.own 0x21 [0x15, 0]) true))) ∧
    (s.Listens src → (s.heard dt).loop.state = .listen →
      ∃ t, exec (.restart dt src) s = .next t ∧
        (s.StartsAlone → s.WarmStarted t .order) ∧ (¬ s.StartsAlone → s.RestartHalted t ∧ t.checkSum = s.checkSum)) ∧
    (s.starter.stopped = false → s.orders.restart = .waiting →
      let ends := fun c : Instr => ∃ t, exec c s = .next t ∧
        (s.StartsAlone → s.WarmStarted t .order) ∧ (¬ s.StartsAlone → s.RestartHalted t ∧ t.checkSum = s.checkSum)
      (∀ f, s.loop.out = .sending (.answer f true) → ends (.lastByteSent dt)) ∧
      (∀ x, s.loop.out = .sending x → s.loop.leaveAwaiting = true → ends (.lastByteSent dt)) ∧
      (∀ d, s.loop.state ≠ .search → s.loop.guard = some d → d ≤ (s.elapse dt).ms → ends (.loopGuardExpiry dt)) ∧
      (s.loop.state ≠ .search → s.loop.losses ≤ 2 →
        3 ≤ s.loop.losses + (s.loop.transit.takeWhile fun e => e.deadline.any fun d => decide (d ≤ (s.elapse dt).ms)).length →
        ends (.returnDeadlineExpiry dt)))) ∧
  (∀ (s : State) (dt : Nat) (src : Byte), s.StoreKept → s.orders.restart = .waiting → (s.setRestart .clear).Listens src →
    let started := fun (u : State) (c : Instr) => ∃ t, exec c s = .next t ∧
      (s.StartsAlone → u.WarmStarted t .order) ∧ (¬ s.StartsAlone → u.RestartHalted t)
    let taken := fun (o : Order) (c : Instr) =>
      let u := (judgeOrder o (s.heard dt)).1
      let r := (judgeOrder o (s.heard dt)).2
      (u.orders.restart = .waiting →
        (u.loop.fifo.length < 4 → s.Performs c src o.code r.result r.data u) ∧
        (∀ before dst p named after, u.loop.fifo = before ++ .answer dst p named :: after → u.loop.fifo.length = 4 →
          (∀ w ∈ before, w.isNotice = true) →
          (named = false → s.Performs c src o.code r.result r.data u) ∧ (named = true → started u c))) ∧
      (u.orders.restart = .requested → started u c)
    (∀ o c, o.row dt src = some c → (∀ k bs, o = .curveData k bs → 1 ≤ bs.length ∧ bs.length ≤ 11) → taken o c) ∧
    (∀ p, badPayload p = true → taken (.bad (p.headD 0)) (.unknownOrder dt src p)) ∧
    (s.loop.fifo.length < 4 → s.Performs (.restart dt src) src 0x15 .done [] (s.heard dt)) ∧
    ((s.heard dt).loop.state = .held → (∀ x, s.loop.out ≠ .sending x) → started (s.heard dt) (.leave dt src)) ∧
    (s.loop.fifo.length < 4 → ∀ x, (s.heard dt).loop.state = .held → s.loop.out = .sending x →
      s.Performs (.leave dt src) src 0x12 .done []
        { s.heard dt with loop := { (s.heard dt).loop with latch := true, leaveAwaiting := true } })) ∧
  (∀ (s before : State), before.StoreKept → s.orders.restart = .requested →
    (s.StartsAlone → s.WarmStarted (s.conclude before) .order) ∧ (¬ s.StartsAlone → s.RestartHalted (s.conclude before))) ∧
  (∀ (c : Instr) (s t : State), s.StoreKept → s.StartsAlone → s.starter.stopped = false → s.orders.restart = .waiting →
    exec c s = .next t →
    t.orders.restart = .waiting ∨
      (t.orders.restart = .clear ∧ t.starter.stopped = false ∧ t.loop.state = .search ∧
        (∀ h, t.slot h = { role := .empty, held := none } ∧ (t.lamp h).state = .dark ∧ (t.mon h).motion = .stopped) ∧
        t.notices.isPending .restarted = true ∧ (t.notices.causes.get Event.restarted.num).code = some .order)) ∧
  (∀ (c : Instr) (s t u : State), s.orders.restart = .waiting → (∀ dt src, c ≠ .restart dt src) →
    (∀ dt f, c = .telegramComplete dt f → decodeOrder f.payload ≠ .restart) →
    (∀ dt src p, c = .unknownOrder dt src p → decodeOrder p ≠ .restart) →
    exec c s = .next t → exec c (s.setRestart .clear) = .next u → t.orders.restart = .waiting → t = u.setRestart .waiting) ∧
  (∀ (s : State) (w : Waiting) (before after : List Waiting) (dst : Byte) (p : List Byte) (named : Bool), s.loop.fifo.length = 4 →
    s.loop.fifo = before ++ .answer dst p named :: after → (∀ x ∈ before, x.isNotice = true) →
    s.enqueue w =
      { s with
        loop :=
          { s.loop with
            fifo := before ++ after ++ [w]
            counters :=
              if s.loop.state = .search then s.loop.counters
              else { s.loop.counters with answerDrop := min (s.loop.counters.answerDrop + 1) 65535 } }
        orders :=
          { s.orders with
            restart := if named = true ∧ s.orders.restart = .waiting then .requested else s.orders.restart } }) ∧
  (∀ s : State,
    let t := s.enterSearch
    t.orders.restart = (if s.orders.restart = .waiting then .requested else s.orders.restart) ∧
    (∀ f c, s.loop.out = .sending (.notice f c) →
      (s.loop.fifo.any Waiting.isNotice = true → t.loop.fifo = s.loop.fifo) ∧
      (s.loop.fifo.any Waiting.isNotice = false → s.loop.fifo.length < 4 → t.loop.fifo = .notice c :: s.loop.fifo) ∧
      (s.loop.fifo.any Waiting.isNotice = false → s.loop.fifo.length = 4 → t.loop.fifo = .notice c :: s.loop.fifo.tail ∧
        t.loop.counters = s.loop.counters)) ∧
    (∀ f named, s.loop.out = .sending (.answer f named) → t.loop.fifo = s.loop.fifo ∧ t.loop.out = .free))

/-- Right after the reset state: SEARCH at 19200 bit/s with the relay closed and a dwell of 600 ms, no entry in use and no lock, an empty
programme split at 32, every house IDLE, lamp DARK with 9000 steps of rod, monitor STOPPED and in service, own address 24 and console
address 1, and RESTARTED pending with code COLD. That the reset state is the end of a cold start at moment 0 with both LINK lines closed
and SUPPLY present is the model's choice (log entry 4). The pictures and the light positions stand in it as their rules say. -/
def Obligations.ResetIsAColdStart : Prop :=
  State.reset.loop.state = .search ∧ State.reset.loop.rate = .r19200 ∧ State.reset.loop.bypass = true ∧
    State.reset.loop.dwell = some 600 ∧ State.reset.loop.guardTime = 1500 ∧ State.reset.loop.returnLimit = 500 ∧
    State.reset.loop.console = 1 ∧ State.reset.orders.own = 24 ∧ State.reset.orders.addressLock = false ∧
    State.reset.matcher.writeLock = false ∧ (∀ i, (State.reset.matcher.table.get i).inUse = false) ∧
    State.reset.programme.split = 32 ∧ (∀ i, (State.reset.programme.reels.get i).last = 0) ∧
    (∀ k, (State.reset.eng k).state = .idle ∧ (State.reset.fireOf k).state = .clear ∧ (State.reset.light k).position = 255) ∧
    (∀ h, (State.reset.lamp h).state = .dark ∧ (State.reset.lamp h).rod = 9000 ∧ (State.reset.mon h).motion = .stopped ∧
      (State.reset.mon h).inService = true ∧ (State.reset.mon h).fps = 24 ∧ State.reset.role h = .empty) ∧
    (∀ d, (State.reset.entry d).station = 0) ∧ State.reset.drive.refreshPeriod = 2000 ∧
    State.reset.notices.pending = 0x8000 ∧ State.reset.notices.alert = true ∧
    (State.reset.notices.causes.get Event.restarted.num).code = some .cold ∧
    State.reset.ShowsKept ∧ State.reset.LightsKept

/-! ### Conditions held at every moment -/

/-- The direct lines and the shutter gates stand as their rules say after every command. -/
def Obligations.LinesStayTrue : Prop :=
  ∀ (s t : State), s.LinesTrue → step s = .next t → t.LinesTrue

/-- Every lamp stays within its bounds: lit only in service and out of FIRE, the rate in force and FEED within Fmax and 0 when not
BURNING, the accumulator within 32767 either way, the remainder below 60000. -/
def Obligations.LampsStayInBounds : Prop := ∀ (s t : State), s.LampsKept → step s = .next t → t.LampsKept

/-- The repeat FIFO, the in-transit list and the answer/notice FIFO never hold more than 4, with at most one NOTICE, and the consecutive-
loss count stands below 3 between commands. -/
def Obligations.QueuesStayBounded : Prop := ∀ (s t : State), s.QueuesKept → step s = .next t → t.QueuesKept

/-- While a house is in FIRE its light position is 255, its SOUND entry is none, its engine is HALTED and its notice bit is pending; the
bit and the latch stand at no other time. -/
def Obligations.FireConditionHolds : Prop := ∀ (s t : State), s.FiresKept → step s = .next t → t.FiresKept

/-- The programme store keeps the form its orders check: the split point in 1 to 63, every record empty or valid, and sides alternating
within each region. -/
def Obligations.ProgrammeStaysValid : Prop := ∀ (s t : State), s.ProgrammeKept → step s = .next t → t.ProgrammeKept

/-- The stored check sum is the sum of the retained contents after every command. The bytes the sum runs over and their layout are the
model's choice (log entry 7). -/
def Obligations.CheckSumFollowsContents : Prop := ∀ (s t : State), s.StoreKept → step s = .next t → t.StoreKept

/-- R104, R109 and R148: in each house at most one head is SHOWING; a douser stands open only on a SHOWING head, so that the two never
both do; SOUND names only a SHOWING head of the house; a house's run-up names a head of the house, for which no other condition is needed;
and the light position equals the effective request's when no fade runs, and lies between the start and the target of a running fade. -/
def Obligations.ShowAndLightsStayTrue : Prop :=
  (∀ (s t : State), s.ShowsKept → step s = .next t → t.ShowsKept) ∧
  (∀ (s t : State), s.LightsKept → step s = .next t → t.LightsKept) ∧
  (∀ (s t : State), s.RunupsKept → step s = .next t → t.RunupsKept)

/-- The reset state meets every condition the statements above keep, the pictures', the light positions' and the run-ups' among them. -/
def Obligations.ResetMeetsConditions : Prop :=
  State.reset.LinesTrue ∧ State.reset.LampsKept ∧ State.reset.QueuesKept ∧ State.reset.FiresKept ∧ State.reset.ProgrammeKept ∧
    State.reset.StoreKept ∧ State.reset.ShowsKept ∧ State.reset.LightsKept ∧
    State.reset.RunupsKept

/-- A command that concerns one house leaves the whole of the other house as it was. The premise on run-ups rules out states no run
reaches, in which a house's run-up names a head of the other; it holds at reset and after every command (ResetMeetsConditions,
ShowAndLightsStayTrue). -/
def Obligations.HousesAreIndependent : Prop :=
  ∀ (c : Instr) (k : House) (s t : State), commandHouse c = some k → s.orders.restart = .clear → s.RunupsKept →
    exec c s = .next t → s.SameHouse t (otherHouse k)
end

