-- ==== Sys2Proof/Laws/State.lean ====
section
/-! SUPPORT. The updates of the state, field by field: what each leaves alone, and what is read back from the one it writes. -/

namespace Sys2Proof

/-! ### Containers -/

@[simp] theorem PerHead.get_set_same {α : Type} (p : PerHead α) (h : Head) (x : α) : (p.set h x).get h = x := by cases h <;> rfl
theorem PerHead.get_set_ne {α : Type} (p : PerHead α) {h h' : Head} (x : α) (ne : h' ≠ h) : (p.set h x).get h' = p.get h' := by
  cases h <;> cases h' <;> first | rfl | exact absurd rfl ne
theorem PerHead.get_set {α : Type} (p : PerHead α) (h h' : Head) (x : α) :
    (p.set h x).get h' = if h' = h then x else p.get h' := by
  by_cases e : h' = h
  · subst e; simp
  · simp [e, PerHead.get_set_ne p x e]
@[simp] theorem PerHead.get_map {α β : Type} (f : α → β) (p : PerHead α) (h : Head) : (p.map f).get h = f (p.get h) := by cases h <;> rfl
@[simp] theorem PerHead.get_all {α : Type} (x : α) (h : Head) : (PerHead.all x).get h = x := by cases h <;> rfl
theorem PerHead.ext_get {α : Type} {p q : PerHead α} (e : ∀ h, p.get h = q.get h) : p = q := by
  have h1 := e .h1
  have h2 := e .h2
  have h3 := e .h3
  have h4 := e .h4
  cases p; cases q
  simp_all [PerHead.get]
@[simp] theorem PerHouse.get_set_same {α : Type} (p : PerHouse α) (k : House) (x : α) : (p.set k x).get k = x := by cases k <;> rfl
theorem PerHouse.get_set_ne {α : Type} (p : PerHouse α) {k k' : House} (x : α) (ne : k' ≠ k) : (p.set k x).get k' = p.get k' := by
  cases k <;> cases k' <;> first | rfl | exact absurd rfl ne
theorem PerHouse.get_set {α : Type} (p : PerHouse α) (k k' : House) (x : α) :
    (p.set k x).get k' = if k' = k then x else p.get k' := by
  by_cases e : k' = k
  · subst e; simp
  · simp [e, PerHouse.get_set_ne p x e]
@[simp] theorem PerHouse.get_map {α β : Type} (f : α → β) (p : PerHouse α) (k : House) : (p.map f).get k = f (p.get k) := by cases k <;> rfl
@[simp] theorem PerHouse.get_all {α : Type} (x : α) (k : House) : (PerHouse.all x).get k = x := by cases k <;> rfl
theorem PerHouse.ext_get {α : Type} {p q : PerHouse α} (e : ∀ k, p.get k = q.get k) : p = q := by
  have h1 := e .one
  have h2 := e .two
  cases p; cases q
  simp_all [PerHouse.get]
@[simp] theorem Table.get_set_same {α : Type} {n : Nat} (t : Table α n) (i : Fin n) (x : α) : (t.set i x).get i = x := by
  simp [Table.get, Table.set]
theorem Table.get_set_ne {α : Type} {n : Nat} (t : Table α n) {i j : Fin n} (x : α) (ne : j ≠ i) :
    (t.set i x).get j = t.get j := by
  have : i.val ≠ j.val := fun e => ne (Fin.ext e.symm)
  simp [Table.get, Table.set, this]
theorem Table.get_set {α : Type} {n : Nat} (t : Table α n) (i j : Fin n) (x : α) :
    (t.set i x).get j = if j = i then x else t.get j := by
  by_cases e : j = i
  · subst e; simp
  · simp [e, Table.get_set_ne t x e]
@[simp] theorem Table.get_map {α β : Type} {n : Nat} (f : α → β) (t : Table α n) (i : Fin n) : (t.map f).get i = f (t.get i) := by
  simp [Table.get, Table.map]
@[simp] theorem Table.map_set {α β : Type} {n : Nat} (f : α → β) (t : Table α n) (i : Fin n) (x : α) :
    (t.set i x).map f = (t.map f).set i (f x) := by
  simp [Table.map, Table.set, List.map_set]
@[simp] theorem Table.get_replicate {α : Type} (n : Nat) (x : α) (i : Fin n) : (Table.replicate n x).get i = x := by
  simp [Table.get, Table.replicate]
theorem Table.ext_get {α : Type} {n : Nat} {t u : Table α n} (e : ∀ i, t.get i = u.get i) : t = u := by
  obtain ⟨a, ha⟩ := t
  obtain ⟨b, hb⟩ := u
  have : a = b := List.ext_getElem (by rw [ha, hb]) fun i h1 h2 => e ⟨i, by rw [← ha]; exact h1⟩
  subst this
  rfl
theorem Table.set_get_self {α : Type} {n : Nat} (t : Table α n) (i : Fin n) : t.set i (t.get i) = t := by
  apply Table.ext_get
  intro j
  by_cases e : j = i
  · subst e; simp
  · rw [Table.get_set_ne _ _ e]

/-- The partner head is another head of the same house (section 4.1). -/
@[simp] theorem Head.partner_house (h : Head) : h.partner.house = h.house := by cases h <;> rfl
theorem Head.partner_ne (h : Head) : h.partner ≠ h := by cases h <;> decide
@[simp] theorem Head.partner_partner (h : Head) : h.partner.partner = h := by cases h <;> rfl
@[simp] theorem House.head_house (k : House) (x : Side) : (k.head x).house = k := by cases k <;> cases x <;> rfl
@[simp] theorem House.head_side (k : House) (x : Side) : (k.head x).side = x := by cases k <;> cases x <;> rfl
@[simp] theorem Head.house_head (h : Head) : h.house.head h.side = h := by cases h <;> rfl

namespace Machine

/-- No two drive entries share an index (R38). -/
theorem driveIndex_inj {d d' : DriveId} (e : driveIndex d = driveIndex d') : d = d' := by
  rcases d with h | h | h | h | k | k <;> rcases d' with h' | h' | h' | h' | k' | k' <;>
    first
    | (cases h <;> cases h' <;> first | rfl | exact absurd e (by decide))
    | (cases h <;> cases k' <;> first | rfl | exact absurd e (by decide))
    | (cases k <;> cases h' <;> first | rfl | exact absurd e (by decide))
    | (cases k <;> cases k' <;> first | rfl | exact absurd e (by decide))

/-- The drive entries in index order stand at their indexes (R38). -/
theorem driveIds_at (d : DriveId) : driveIds[(driveIndex d).val]? = some d := by
  rcases d with h | h | h | h | k | k <;> first | (cases h <;> rfl) | (cases k <;> rfl)

/-! ### elapse -/

@[simp] theorem State.elapse_pending (s : State) (dt : Nat) : (s.elapse dt).pending = s.pending := rfl
@[simp] theorem State.elapse_loop (s : State) (dt : Nat) : (s.elapse dt).loop = s.loop := rfl
@[simp] theorem State.elapse_matcher (s : State) (dt : Nat) : (s.elapse dt).matcher = s.matcher := rfl
@[simp] theorem State.elapse_drive (s : State) (dt : Nat) : (s.elapse dt).drive = s.drive := rfl
@[simp] theorem State.elapse_monitors (s : State) (dt : Nat) : (s.elapse dt).monitors = s.monitors := rfl
@[simp] theorem State.elapse_lamps (s : State) (dt : Nat) : (s.elapse dt).lamps = s.lamps := rfl
@[simp] theorem State.elapse_programme (s : State) (dt : Nat) : (s.elapse dt).programme = s.programme := rfl
@[simp] theorem State.elapse_slots (s : State) (dt : Nat) : (s.elapse dt).slots = s.slots := rfl
@[simp] theorem State.elapse_engines (s : State) (dt : Nat) : (s.elapse dt).engines = s.engines := rfl
@[simp] theorem State.elapse_lights (s : State) (dt : Nat) : (s.elapse dt).lights = s.lights := rfl
@[simp] theorem State.elapse_fire (s : State) (dt : Nat) : (s.elapse dt).fire = s.fire := rfl
@[simp] theorem State.elapse_panel (s : State) (dt : Nat) : (s.elapse dt).panel = s.panel := rfl
@[simp] theorem State.elapse_notices (s : State) (dt : Nat) : (s.elapse dt).notices = s.notices := rfl
@[simp] theorem State.elapse_orders (s : State) (dt : Nat) : (s.elapse dt).orders = s.orders := rfl
@[simp] theorem State.elapse_starter (s : State) (dt : Nat) : (s.elapse dt).starter = s.starter := rfl
@[simp] theorem State.elapse_checkSum (s : State) (dt : Nat) : (s.elapse dt).checkSum = s.checkSum := rfl
@[simp] theorem State.elapse_freeCount (s : State) (dt : Nat) : (s.elapse dt).freeCount = s.freeCount := rfl
@[simp] theorem State.elapse_mon (s : State) (dt : Nat) (h' : Head) : (s.elapse dt).mon h' = s.mon h' := rfl
@[simp] theorem State.elapse_lamp (s : State) (dt : Nat) (h' : Head) : (s.elapse dt).lamp h' = s.lamp h' := rfl
@[simp] theorem State.elapse_slot (s : State) (dt : Nat) (h' : Head) : (s.elapse dt).slot h' = s.slot h' := rfl
@[simp] theorem State.elapse_role (s : State) (dt : Nat) (h' : Head) : (s.elapse dt).role h' = s.role h' := rfl
@[simp] theorem State.elapse_eng (s : State) (dt : Nat) (k' : House) : (s.elapse dt).eng k' = s.eng k' := rfl
@[simp] theorem State.elapse_light (s : State) (dt : Nat) (k' : House) : (s.elapse dt).light k' = s.light k' := rfl
@[simp] theorem State.elapse_fireOf (s : State) (dt : Nat) (k' : House) : (s.elapse dt).fireOf k' = s.fireOf k' := rfl
@[simp] theorem State.elapse_entry (s : State) (dt : Nat) (d' : DriveId) : (s.elapse dt).entry d' = s.entry d' := rfl

/-! ### setMon -/

@[simp] theorem State.setMon_now (s : State) (h : Head) (m : Monitor) : (s.setMon h m).now = s.now := rfl
@[simp] theorem State.setMon_pending (s : State) (h : Head) (m : Monitor) : (s.setMon h m).pending = s.pending := rfl
@[simp] theorem State.setMon_loop (s : State) (h : Head) (m : Monitor) : (s.setMon h m).loop = s.loop := rfl
@[simp] theorem State.setMon_matcher (s : State) (h : Head) (m : Monitor) : (s.setMon h m).matcher = s.matcher := rfl
@[simp] theorem State.setMon_drive (s : State) (h : Head) (m : Monitor) : (s.setMon h m).drive = s.drive := rfl
@[simp] theorem State.setMon_lamps (s : State) (h : Head) (m : Monitor) : (s.setMon h m).lamps = s.lamps := rfl
@[simp] theorem State.setMon_programme (s : State) (h : Head) (m : Monitor) : (s.setMon h m).programme = s.programme := rfl
@[simp] theorem State.setMon_slots (s : State) (h : Head) (m : Monitor) : (s.setMon h m).slots = s.slots := rfl
@[simp] theorem State.setMon_engines (s : State) (h : Head) (m : Monitor) : (s.setMon h m).engines = s.engines := rfl
@[simp] theorem State.setMon_lights (s : State) (h : Head) (m : Monitor) : (s.setMon h m).lights = s.lights := rfl
@[simp] theorem State.setMon_fire (s : State) (h : Head) (m : Monitor) : (s.setMon h m).fire = s.fire := rfl
@[simp] theorem State.setMon_panel (s : State) (h : Head) (m : Monitor) : (s.setMon h m).panel = s.panel := rfl
@[simp] theorem State.setMon_notices (s : State) (h : Head) (m : Monitor) : (s.setMon h m).notices = s.notices := rfl
@[simp] theorem State.setMon_orders (s : State) (h : Head) (m : Monitor) : (s.setMon h m).orders = s.orders := rfl
@[simp] theorem State.setMon_starter (s : State) (h : Head) (m : Monitor) : (s.setMon h m).starter = s.starter := rfl
@[simp] theorem State.setMon_checkSum (s : State) (h : Head) (m : Monitor) : (s.setMon h m).checkSum = s.checkSum := rfl
@[simp] theorem State.setMon_freeCount (s : State) (h : Head) (m : Monitor) : (s.setMon h m).freeCount = s.freeCount := rfl
@[simp] theorem State.setMon_lamp (s : State) (h : Head) (m : Monitor) (h' : Head) : (s.setMon h m).lamp h' = s.lamp h' := rfl
@[simp] theorem State.setMon_slot (s : State) (h : Head) (m : Monitor) (h' : Head) : (s.setMon h m).slot h' = s.slot h' := rfl
@[simp] theorem State.setMon_role (s : State) (h : Head) (m : Monitor) (h' : Head) : (s.setMon h m).role h' = s.role h' := rfl
@[simp] theorem State.setMon_eng (s : State) (h : Head) (m : Monitor) (k' : House) : (s.setMon h m).eng k' = s.eng k' := rfl
@[simp] theorem State.setMon_light (s : State) (h : Head) (m : Monitor) (k' : House) : (s.setMon h m).light k' = s.light k' := rfl
@[simp] theorem State.setMon_fireOf (s : State) (h : Head) (m : Monitor) (k' : House) : (s.setMon h m).fireOf k' = s.fireOf k' := rfl
@[simp] theorem State.setMon_entry (s : State) (h : Head) (m : Monitor) (d' : DriveId) : (s.setMon h m).entry d' = s.entry d' := rfl
@[simp] theorem State.setMon_ms (s : State) (h : Head) (m : Monitor) : (s.setMon h m).ms = s.ms := rfl

/-! ### setLamp -/

@[simp] theorem State.setLamp_now (s : State) (h : Head) (l : Lamp) : (s.setLamp h l).now = s.now := rfl
@[simp] theorem State.setLamp_pending (s : State) (h : Head) (l : Lamp) : (s.setLamp h l).pending = s.pending := rfl
@[simp] theorem State.setLamp_loop (s : State) (h : Head) (l : Lamp) : (s.setLamp h l).loop = s.loop := rfl
@[simp] theorem State.setLamp_matcher (s : State) (h : Head) (l : Lamp) : (s.setLamp h l).matcher = s.matcher := rfl
@[simp] theorem State.setLamp_drive (s : State) (h : Head) (l : Lamp) : (s.setLamp h l).drive = s.drive := rfl
@[simp] theorem State.setLamp_monitors (s : State) (h : Head) (l : Lamp) : (s.setLamp h l).monitors = s.monitors := rfl
@[simp] theorem State.setLamp_programme (s : State) (h : Head) (l : Lamp) : (s.setLamp h l).programme = s.programme := rfl
@[simp] theorem State.setLamp_slots (s : State) (h : Head) (l : Lamp) : (s.setLamp h l).slots = s.slots := rfl
@[simp] theorem State.setLamp_engines (s : State) (h : Head) (l : Lamp) : (s.setLamp h l).engines = s.engines := rfl
@[simp] theorem State.setLamp_lights (s : State) (h : Head) (l : Lamp) : (s.setLamp h l).lights = s.lights := rfl
@[simp] theorem State.setLamp_fire (s : State) (h : Head) (l : Lamp) : (s.setLamp h l).fire = s.fire := rfl
@[simp] theorem State.setLamp_panel (s : State) (h : Head) (l : Lamp) : (s.setLamp h l).panel = s.panel := rfl
@[simp] theorem State.setLamp_notices (s : State) (h : Head) (l : Lamp) : (s.setLamp h l).notices = s.notices := rfl
@[simp] theorem State.setLamp_orders (s : State) (h : Head) (l : Lamp) : (s.setLamp h l).orders = s.orders := rfl
@[simp] theorem State.setLamp_starter (s : State) (h : Head) (l : Lamp) : (s.setLamp h l).starter = s.starter := rfl
@[simp] theorem State.setLamp_checkSum (s : State) (h : Head) (l : Lamp) : (s.setLamp h l).checkSum = s.checkSum := rfl
@[simp] theorem State.setLamp_freeCount (s : State) (h : Head) (l : Lamp) : (s.setLamp h l).freeCount = s.freeCount := rfl
@[simp] theorem State.setLamp_mon (s : State) (h : Head) (l : Lamp) (h' : Head) : (s.setLamp h l).mon h' = s.mon h' := rfl
@[simp] theorem State.setLamp_slot (s : State) (h : Head) (l : Lamp) (h' : Head) : (s.setLamp h l).slot h' = s.slot h' := rfl
@[simp] theorem State.setLamp_role (s : State) (h : Head) (l : Lamp) (h' : Head) : (s.setLamp h l).role h' = s.role h' := rfl
@[simp] theorem State.setLamp_eng (s : State) (h : Head) (l : Lamp) (k' : House) : (s.setLamp h l).eng k' = s.eng k' := rfl
@[simp] theorem State.setLamp_light (s : State) (h : Head) (l : Lamp) (k' : House) : (s.setLamp h l).light k' = s.light k' := rfl
@[simp] theorem State.setLamp_fireOf (s : State) (h : Head) (l : Lamp) (k' : House) : (s.setLamp h l).fireOf k' = s.fireOf k' := rfl
@[simp] theorem State.setLamp_entry (s : State) (h : Head) (l : Lamp) (d' : DriveId) : (s.setLamp h l).entry d' = s.entry d' := rfl
@[simp] theorem State.setLamp_ms (s : State) (h : Head) (l : Lamp) : (s.setLamp h l).ms = s.ms := rfl

/-! ### setSlot -/

@[simp] theorem State.setSlot_now (s : State) (h : Head) (x : Slot) : (s.setSlot h x).now = s.now := rfl
@[simp] theorem State.setSlot_pending (s : State) (h : Head) (x : Slot) : (s.setSlot h x).pending = s.pending := rfl
@[simp] theorem State.setSlot_loop (s : State) (h : Head) (x : Slot) : (s.setSlot h x).loop = s.loop := rfl
@[simp] theorem State.setSlot_matcher (s : State) (h : Head) (x : Slot) : (s.setSlot h x).matcher = s.matcher := rfl
@[simp] theorem State.setSlot_drive (s : State) (h : Head) (x : Slot) : (s.setSlot h x).drive = s.drive := rfl
@[simp] theorem State.setSlot_monitors (s : State) (h : Head) (x : Slot) : (s.setSlot h x).monitors = s.monitors := rfl
@[simp] theorem State.setSlot_lamps (s : State) (h : Head) (x : Slot) : (s.setSlot h x).lamps = s.lamps := rfl
@[simp] theorem State.setSlot_programme (s : State) (h : Head) (x : Slot) : (s.setSlot h x).programme = s.programme := rfl
@[simp] theorem State.setSlot_engines (s : State) (h : Head) (x : Slot) : (s.setSlot h x).engines = s.engines := rfl
@[simp] theorem State.setSlot_lights (s : State) (h : Head) (x : Slot) : (s.setSlot h x).lights = s.lights := rfl
@[simp] theorem State.setSlot_fire (s : State) (h : Head) (x : Slot) : (s.setSlot h x).fire = s.fire := rfl
@[simp] theorem State.setSlot_panel (s : State) (h : Head) (x : Slot) : (s.setSlot h x).panel = s.panel := rfl
@[simp] theorem State.setSlot_notices (s : State) (h : Head) (x : Slot) : (s.setSlot h x).notices = s.notices := rfl
@[simp] theorem State.setSlot_orders (s : State) (h : Head) (x : Slot) : (s.setSlot h x).orders = s.orders := rfl
@[simp] theorem State.setSlot_starter (s : State) (h : Head) (x : Slot) : (s.setSlot h x).starter = s.starter := rfl
@[simp] theorem State.setSlot_checkSum (s : State) (h : Head) (x : Slot) : (s.setSlot h x).checkSum = s.checkSum := rfl
@[simp] theorem State.setSlot_freeCount (s : State) (h : Head) (x : Slot) : (s.setSlot h x).freeCount = s.freeCount := rfl
@[simp] theorem State.setSlot_mon (s : State) (h : Head) (x : Slot) (h' : Head) : (s.setSlot h x).mon h' = s.mon h' := rfl
@[simp] theorem State.setSlot_lamp (s : State) (h : Head) (x : Slot) (h' : Head) : (s.setSlot h x).lamp h' = s.lamp h' := rfl
@[simp] theorem State.setSlot_eng (s : State) (h : Head) (x : Slot) (k' : House) : (s.setSlot h x).eng k' = s.eng k' := rfl
@[simp] theorem State.setSlot_light (s : State) (h : Head) (x : Slot) (k' : House) : (s.setSlot h x).light k' = s.light k' := rfl
@[simp] theorem State.setSlot_fireOf (s : State) (h : Head) (x : Slot) (k' : House) : (s.setSlot h x).fireOf k' = s.fireOf k' := rfl
@[simp] theorem State.setSlot_entry (s : State) (h : Head) (x : Slot) (d' : DriveId) : (s.setSlot h x).entry d' = s.entry d' := rfl
@[simp] theorem State.setSlot_ms (s : State) (h : Head) (x : Slot) : (s.setSlot h x).ms = s.ms := rfl

/-! ### setEng -/

@[simp] theorem State.setEng_now (s : State) (k : House) (e : Engine) : (s.setEng k e).now = s.now := rfl
@[simp] theorem State.setEng_pending (s : State) (k : House) (e : Engine) : (s.setEng k e).pending = s.pending := rfl
@[simp] theorem State.setEng_loop (s : State) (k : House) (e : Engine) : (s.setEng k e).loop = s.loop := rfl
@[simp] theorem State.setEng_matcher (s : State) (k : House) (e : Engine) : (s.setEng k e).matcher = s.matcher := rfl
@[simp] theorem State.setEng_drive (s : State) (k : House) (e : Engine) : (s.setEng k e).drive = s.drive := rfl
@[simp] theorem State.setEng_monitors (s : State) (k : House) (e : Engine) : (s.setEng k e).monitors = s.monitors := rfl
@[simp] theorem State.setEng_lamps (s : State) (k : House) (e : Engine) : (s.setEng k e).lamps = s.lamps := rfl
@[simp] theorem State.setEng_programme (s : State) (k : House) (e : Engine) : (s.setEng k e).programme = s.programme := rfl
@[simp] theorem State.setEng_slots (s : State) (k : House) (e : Engine) : (s.setEng k e).slots = s.slots := rfl
@[simp] theorem State.setEng_lights (s : State) (k : House) (e : Engine) : (s.setEng k e).lights = s.lights := rfl
@[simp] theorem State.setEng_fire (s : State) (k : House) (e : Engine) : (s.setEng k e).fire = s.fire := rfl
@[simp] theorem State.setEng_panel (s : State) (k : House) (e : Engine) : (s.setEng k e).panel = s.panel := rfl
@[simp] theorem State.setEng_notices (s : State) (k : House) (e : Engine) : (s.setEng k e).notices = s.notices := rfl
@[simp] theorem State.setEng_orders (s : State) (k : House) (e : Engine) : (s.setEng k e).orders = s.orders := rfl
@[simp] theorem State.setEng_starter (s : State) (k : House) (e : Engine) : (s.setEng k e).starter = s.starter := rfl
@[simp] theorem State.setEng_checkSum (s : State) (k : House) (e : Engine) : (s.setEng k e).checkSum = s.checkSum := rfl
@[simp] theorem State.setEng_freeCount (s : State) (k : House) (e : Engine) : (s.setEng k e).freeCount = s.freeCount := rfl
@[simp] theorem State.setEng_mon (s : State) (k : House) (e : Engine) (h' : Head) : (s.setEng k e).mon h' = s.mon h' := rfl
@[simp] theorem State.setEng_lamp (s : State) (k : House) (e : Engine) (h' : Head) : (s.setEng k e).lamp h' = s.lamp h' := rfl
@[simp] theorem State.setEng_slot (s : State) (k : House) (e : Engine) (h' : Head) : (s.setEng k e).slot h' = s.slot h' := rfl
@[simp] theorem State.setEng_role (s : State) (k : House) (e : Engine) (h' : Head) : (s.setEng k e).role h' = s.role h' := rfl
@[simp] theorem State.setEng_light (s : State) (k : House) (e : Engine) (k' : House) : (s.setEng k e).light k' = s.light k' := rfl
@[simp] theorem State.setEng_fireOf (s : State) (k : House) (e : Engine) (k' : House) : (s.setEng k e).fireOf k' = s.fireOf k' := rfl
@[simp] theorem State.setEng_entry (s : State) (k : House) (e : Engine) (d' : DriveId) : (s.setEng k e).entry d' = s.entry d' := rfl
@[simp] theorem State.setEng_ms (s : State) (k : House) (e : Engine) : (s.setEng k e).ms = s.ms := rfl

/-! ### setLight -/

@[simp] theorem State.setLight_now (s : State) (k : House) (l : LightUnit) : (s.setLight k l).now = s.now := rfl
@[simp] theorem State.setLight_pending (s : State) (k : House) (l : LightUnit) : (s.setLight k l).pending = s.pending := rfl
@[simp] theorem State.setLight_loop (s : State) (k : House) (l : LightUnit) : (s.setLight k l).loop = s.loop := rfl
@[simp] theorem State.setLight_matcher (s : State) (k : House) (l : LightUnit) : (s.setLight k l).matcher = s.matcher := rfl
@[simp] theorem State.setLight_drive (s : State) (k : House) (l : LightUnit) : (s.setLight k l).drive = s.drive := rfl
@[simp] theorem State.setLight_monitors (s : State) (k : House) (l : LightUnit) : (s.setLight k l).monitors = s.monitors := rfl
@[simp] theorem State.setLight_lamps (s : State) (k : House) (l : LightUnit) : (s.setLight k l).lamps = s.lamps := rfl
@[simp] theorem State.setLight_programme (s : State) (k : House) (l : LightUnit) : (s.setLight k l).programme = s.programme := rfl
@[simp] theorem State.setLight_slots (s : State) (k : House) (l : LightUnit) : (s.setLight k l).slots = s.slots := rfl
@[simp] theorem State.setLight_engines (s : State) (k : House) (l : LightUnit) : (s.setLight k l).engines = s.engines := rfl
@[simp] theorem State.setLight_fire (s : State) (k : House) (l : LightUnit) : (s.setLight k l).fire = s.fire := rfl
@[simp] theorem State.setLight_panel (s : State) (k : House) (l : LightUnit) : (s.setLight k l).panel = s.panel := rfl
@[simp] theorem State.setLight_notices (s : State) (k : House) (l : LightUnit) : (s.setLight k l).notices = s.notices := rfl
@[simp] theorem State.setLight_orders (s : State) (k : House) (l : LightUnit) : (s.setLight k l).orders = s.orders := rfl
@[simp] theorem State.setLight_starter (s : State) (k : House) (l : LightUnit) : (s.setLight k l).starter = s.starter := rfl
@[simp] theorem State.setLight_checkSum (s : State) (k : House) (l : LightUnit) : (s.setLight k l).checkSum = s.checkSum := rfl
@[simp] theorem State.setLight_freeCount (s : State) (k : House) (l : LightUnit) : (s.setLight k l).freeCount = s.freeCount := rfl
@[simp] theorem State.setLight_mon (s : State) (k : House) (l : LightUnit) (h' : Head) : (s.setLight k l).mon h' = s.mon h' := rfl
@[simp] theorem State.setLight_lamp (s : State) (k : House) (l : LightUnit) (h' : Head) : (s.setLight k l).lamp h' = s.lamp h' := rfl
@[simp] theorem State.setLight_slot (s : State) (k : House) (l : LightUnit) (h' : Head) : (s.setLight k l).slot h' = s.slot h' := rfl
@[simp] theorem State.setLight_role (s : State) (k : House) (l : LightUnit) (h' : Head) : (s.setLight k l).role h' = s.role h' := rfl
@[simp] theorem State.setLight_eng (s : State) (k : House) (l : LightUnit) (k' : House) : (s.setLight k l).eng k' = s.eng k' := rfl
@[simp] theorem State.setLight_fireOf (s : State) (k : House) (l : LightUnit) (k' : House) : (s.setLight k l).fireOf k' = s.fireOf k' := rfl
@[simp] theorem State.setLight_entry (s : State) (k : House) (l : LightUnit) (d' : DriveId) : (s.setLight k l).entry d' = s.entry d' := rfl
@[simp] theorem State.setLight_ms (s : State) (k : House) (l : LightUnit) : (s.setLight k l).ms = s.ms := rfl

/-! ### setFire -/

@[simp] theorem State.setFire_now (s : State) (k : House) (f : FireHouse) : (s.setFire k f).now = s.now := rfl
@[simp] theorem State.setFire_pending (s : State) (k : House) (f : FireHouse) : (s.setFire k f).pending = s.pending := rfl
@[simp] theorem State.setFire_loop (s : State) (k : House) (f : FireHouse) : (s.setFire k f).loop = s.loop := rfl
@[simp] theorem State.setFire_matcher (s : State) (k : House) (f : FireHouse) : (s.setFire k f).matcher = s.matcher := rfl
@[simp] theorem State.setFire_drive (s : State) (k : House) (f : FireHouse) : (s.setFire k f).drive = s.drive := rfl
@[simp] theorem State.setFire_monitors (s : State) (k : House) (f : FireHouse) : (s.setFire k f).monitors = s.monitors := rfl
@[simp] theorem State.setFire_lamps (s : State) (k : House) (f : FireHouse) : (s.setFire k f).lamps = s.lamps := rfl
@[simp] theorem State.setFire_programme (s : State) (k : House) (f : FireHouse) : (s.setFire k f).programme = s.programme := rfl
@[simp] theorem State.setFire_slots (s : State) (k : House) (f : FireHouse) : (s.setFire k f).slots = s.slots := rfl
@[simp] theorem State.setFire_engines (s : State) (k : House) (f : FireHouse) : (s.setFire k f).engines = s.engines := rfl
@[simp] theorem State.setFire_lights (s : State) (k : House) (f : FireHouse) : (s.setFire k f).lights = s.lights := rfl
@[simp] theorem State.setFire_panel (s : State) (k : House) (f : FireHouse) : (s.setFire k f).panel = s.panel := rfl
@[simp] theorem State.setFire_notices (s : State) (k : House) (f : FireHouse) : (s.setFire k f).notices = s.notices := rfl
@[simp] theorem State.setFire_orders (s : State) (k : House) (f : FireHouse) : (s.setFire k f).orders = s.orders := rfl
@[simp] theorem State.setFire_starter (s : State) (k : House) (f : FireHouse) : (s.setFire k f).starter = s.starter := rfl
@[simp] theorem State.setFire_checkSum (s : State) (k : House) (f : FireHouse) : (s.setFire k f).checkSum = s.checkSum := rfl
@[simp] theorem State.setFire_freeCount (s : State) (k : House) (f : FireHouse) : (s.setFire k f).freeCount = s.freeCount := rfl
@[simp] theorem State.setFire_mon (s : State) (k : House) (f : FireHouse) (h' : Head) : (s.setFire k f).mon h' = s.mon h' := rfl
@[simp] theorem State.setFire_lamp (s : State) (k : House) (f : FireHouse) (h' : Head) : (s.setFire k f).lamp h' = s.lamp h' := rfl
@[simp] theorem State.setFire_slot (s : State) (k : House) (f : FireHouse) (h' : Head) : (s.setFire k f).slot h' = s.slot h' := rfl
@[simp] theorem State.setFire_role (s : State) (k : House) (f : FireHouse) (h' : Head) : (s.setFire k f).role h' = s.role h' := rfl
@[simp] theorem State.setFire_eng (s : State) (k : House) (f : FireHouse) (k' : House) : (s.setFire k f).eng k' = s.eng k' := rfl
@[simp] theorem State.setFire_light (s : State) (k : House) (f : FireHouse) (k' : House) : (s.setFire k f).light k' = s.light k' := rfl
@[simp] theorem State.setFire_entry (s : State) (k : House) (f : FireHouse) (d' : DriveId) : (s.setFire k f).entry d' = s.entry d' := rfl
@[simp] theorem State.setFire_ms (s : State) (k : House) (f : FireHouse) : (s.setFire k f).ms = s.ms := rfl

/-! ### setLoop -/

@[simp] theorem State.setLoop_now (s : State) (l : LoopUnit) : (s.setLoop l).now = s.now := rfl
@[simp] theorem State.setLoop_pending (s : State) (l : LoopUnit) : (s.setLoop l).pending = s.pending := rfl
@[simp] theorem State.setLoop_matcher (s : State) (l : LoopUnit) : (s.setLoop l).matcher = s.matcher := rfl
@[simp] theorem State.setLoop_drive (s : State) (l : LoopUnit) : (s.setLoop l).drive = s.drive := rfl
@[simp] theorem State.setLoop_monitors (s : State) (l : LoopUnit) : (s.setLoop l).monitors = s.monitors := rfl
@[simp] theorem State.setLoop_lamps (s : State) (l : LoopUnit) : (s.setLoop l).lamps = s.lamps := rfl
@[simp] theorem State.setLoop_programme (s : State) (l : LoopUnit) : (s.setLoop l).programme = s.programme := rfl
@[simp] theorem State.setLoop_slots (s : State) (l : LoopUnit) : (s.setLoop l).slots = s.slots := rfl
@[simp] theorem State.setLoop_engines (s : State) (l : LoopUnit) : (s.setLoop l).engines = s.engines := rfl
@[simp] theorem State.setLoop_lights (s : State) (l : LoopUnit) : (s.setLoop l).lights = s.lights := rfl
@[simp] theorem State.setLoop_fire (s : State) (l : LoopUnit) : (s.setLoop l).fire = s.fire := rfl
@[simp] theorem State.setLoop_panel (s : State) (l : LoopUnit) : (s.setLoop l).panel = s.panel := rfl
@[simp] theorem State.setLoop_notices (s : State) (l : LoopUnit) : (s.setLoop l).notices = s.notices := rfl
@[simp] theorem State.setLoop_orders (s : State) (l : LoopUnit) : (s.setLoop l).orders = s.orders := rfl
@[simp] theorem State.setLoop_starter (s : State) (l : LoopUnit) : (s.setLoop l).starter = s.starter := rfl
@[simp] theorem State.setLoop_checkSum (s : State) (l : LoopUnit) : (s.setLoop l).checkSum = s.checkSum := rfl
@[simp] theorem State.setLoop_freeCount (s : State) (l : LoopUnit) : (s.setLoop l).freeCount = s.freeCount := rfl
@[simp] theorem State.setLoop_mon (s : State) (l : LoopUnit) (h' : Head) : (s.setLoop l).mon h' = s.mon h' := rfl
@[simp] theorem State.setLoop_lamp (s : State) (l : LoopUnit) (h' : Head) : (s.setLoop l).lamp h' = s.lamp h' := rfl
@[simp] theorem State.setLoop_slot (s : State) (l : LoopUnit) (h' : Head) : (s.setLoop l).slot h' = s.slot h' := rfl
@[simp] theorem State.setLoop_role (s : State) (l : LoopUnit) (h' : Head) : (s.setLoop l).role h' = s.role h' := rfl
@[simp] theorem State.setLoop_eng (s : State) (l : LoopUnit) (k' : House) : (s.setLoop l).eng k' = s.eng k' := rfl
@[simp] theorem State.setLoop_light (s : State) (l : LoopUnit) (k' : House) : (s.setLoop l).light k' = s.light k' := rfl
@[simp] theorem State.setLoop_fireOf (s : State) (l : LoopUnit) (k' : House) : (s.setLoop l).fireOf k' = s.fireOf k' := rfl
@[simp] theorem State.setLoop_entry (s : State) (l : LoopUnit) (d' : DriveId) : (s.setLoop l).entry d' = s.entry d' := rfl
@[simp] theorem State.setLoop_ms (s : State) (l : LoopUnit) : (s.setLoop l).ms = s.ms := rfl

/-! ### setNotices -/

@[simp] theorem State.setNotices_now (s : State) (n : NoticeUnit) : (s.setNotices n).now = s.now := rfl
@[simp] theorem State.setNotices_pending (s : State) (n : NoticeUnit) : (s.setNotices n).pending = s.pending := rfl
@[simp] theorem State.setNotices_loop (s : State) (n : NoticeUnit) : (s.setNotices n).loop = s.loop := rfl
@[simp] theorem State.setNotices_matcher (s : State) (n : NoticeUnit) : (s.setNotices n).matcher = s.matcher := rfl
@[simp] theorem State.setNotices_drive (s : State) (n : NoticeUnit) : (s.setNotices n).drive = s.drive := rfl
@[simp] theorem State.setNotices_monitors (s : State) (n : NoticeUnit) : (s.setNotices n).monitors = s.monitors := rfl
@[simp] theorem State.setNotices_lamps (s : State) (n : NoticeUnit) : (s.setNotices n).lamps = s.lamps := rfl
@[simp] theorem State.setNotices_programme (s : State) (n : NoticeUnit) : (s.setNotices n).programme = s.programme := rfl
@[simp] theorem State.setNotices_slots (s : State) (n : NoticeUnit) : (s.setNotices n).slots = s.slots := rfl
@[simp] theorem State.setNotices_engines (s : State) (n : NoticeUnit) : (s.setNotices n).engines = s.engines := rfl
@[simp] theorem State.setNotices_lights (s : State) (n : NoticeUnit) : (s.setNotices n).lights = s.lights := rfl
@[simp] theorem State.setNotices_fire (s : State) (n : NoticeUnit) : (s.setNotices n).fire = s.fire := rfl
@[simp] theorem State.setNotices_panel (s : State) (n : NoticeUnit) : (s.setNotices n).panel = s.panel := rfl
@[simp] theorem State.setNotices_orders (s : State) (n : NoticeUnit) : (s.setNotices n).orders = s.orders := rfl
@[simp] theorem State.setNotices_starter (s : State) (n : NoticeUnit) : (s.setNotices n).starter = s.starter := rfl
@[simp] theorem State.setNotices_checkSum (s : State) (n : NoticeUnit) : (s.setNotices n).checkSum = s.checkSum := rfl
@[simp] theorem State.setNotices_freeCount (s : State) (n : NoticeUnit) : (s.setNotices n).freeCount = s.freeCount := rfl
@[simp] theorem State.setNotices_mon (s : State) (n : NoticeUnit) (h' : Head) : (s.setNotices n).mon h' = s.mon h' := rfl
@[simp] theorem State.setNotices_lamp (s : State) (n : NoticeUnit) (h' : Head) : (s.setNotices n).lamp h' = s.lamp h' := rfl
@[simp] theorem State.setNotices_slot (s : State) (n : NoticeUnit) (h' : Head) : (s.setNotices n).slot h' = s.slot h' := rfl
@[simp] theorem State.setNotices_role (s : State) (n : NoticeUnit) (h' : Head) : (s.setNotices n).role h' = s.role h' := rfl
@[simp] theorem State.setNotices_eng (s : State) (n : NoticeUnit) (k' : House) : (s.setNotices n).eng k' = s.eng k' := rfl
@[simp] theorem State.setNotices_light (s : State) (n : NoticeUnit) (k' : House) : (s.setNotices n).light k' = s.light k' := rfl
@[simp] theorem State.setNotices_fireOf (s : State) (n : NoticeUnit) (k' : House) : (s.setNotices n).fireOf k' = s.fireOf k' := rfl
@[simp] theorem State.setNotices_entry (s : State) (n : NoticeUnit) (d' : DriveId) : (s.setNotices n).entry d' = s.entry d' := rfl
@[simp] theorem State.setNotices_ms (s : State) (n : NoticeUnit) : (s.setNotices n).ms = s.ms := rfl

/-! ### setEntry -/

@[simp] theorem State.setEntry_now (s : State) (d : DriveId) (e : DriveEntry) : (s.setEntry d e).now = s.now := rfl
@[simp] theorem State.setEntry_pending (s : State) (d : DriveId) (e : DriveEntry) : (s.setEntry d e).pending = s.pending := rfl
@[simp] theorem State.setEntry_loop (s : State) (d : DriveId) (e : DriveEntry) : (s.setEntry d e).loop = s.loop := rfl
@[simp] theorem State.setEntry_matcher (s : State) (d : DriveId) (e : DriveEntry) : (s.setEntry d e).matcher = s.matcher := rfl
@[simp] theorem State.setEntry_monitors (s : State) (d : DriveId) (e : DriveEntry) : (s.setEntry d e).monitors = s.monitors := rfl
@[simp] theorem State.setEntry_lamps (s : State) (d : DriveId) (e : DriveEntry) : (s.setEntry d e).lamps = s.lamps := rfl
@[simp] theorem State.setEntry_programme (s : State) (d : DriveId) (e : DriveEntry) : (s.setEntry d e).programme = s.programme := rfl
@[simp] theorem State.setEntry_slots (s : State) (d : DriveId) (e : DriveEntry) : (s.setEntry d e).slots = s.slots := rfl
@[simp] theorem State.setEntry_engines (s : State) (d : DriveId) (e : DriveEntry) : (s.setEntry d e).engines = s.engines := rfl
@[simp] theorem State.setEntry_lights (s : State) (d : DriveId) (e : DriveEntry) : (s.setEntry d e).lights = s.lights := rfl
@[simp] theorem State.setEntry_fire (s : State) (d : DriveId) (e : DriveEntry) : (s.setEntry d e).fire = s.fire := rfl
@[simp] theorem State.setEntry_panel (s : State) (d : DriveId) (e : DriveEntry) : (s.setEntry d e).panel = s.panel := rfl
@[simp] theorem State.setEntry_notices (s : State) (d : DriveId) (e : DriveEntry) : (s.setEntry d e).notices = s.notices := rfl
@[simp] theorem State.setEntry_orders (s : State) (d : DriveId) (e : DriveEntry) : (s.setEntry d e).orders = s.orders := rfl
@[simp] theorem State.setEntry_starter (s : State) (d : DriveId) (e : DriveEntry) : (s.setEntry d e).starter = s.starter := rfl
@[simp] theorem State.setEntry_checkSum (s : State) (d : DriveId) (e : DriveEntry) : (s.setEntry d e).checkSum = s.checkSum := rfl
@[simp] theorem State.setEntry_freeCount (s : State) (d : DriveId) (e : DriveEntry) : (s.setEntry d e).freeCount = s.freeCount := rfl
@[simp] theorem State.setEntry_mon (s : State) (d : DriveId) (e : DriveEntry) (h' : Head) : (s.setEntry d e).mon h' = s.mon h' := rfl
@[simp] theorem State.setEntry_lamp (s : State) (d : DriveId) (e : DriveEntry) (h' : Head) : (s.setEntry d e).lamp h' = s.lamp h' := rfl
@[simp] theorem State.setEntry_slot (s : State) (d : DriveId) (e : DriveEntry) (h' : Head) : (s.setEntry d e).slot h' = s.slot h' := rfl
@[simp] theorem State.setEntry_role (s : State) (d : DriveId) (e : DriveEntry) (h' : Head) : (s.setEntry d e).role h' = s.role h' := rfl
@[simp] theorem State.setEntry_eng (s : State) (d : DriveId) (e : DriveEntry) (k' : House) : (s.setEntry d e).eng k' = s.eng k' := rfl
@[simp] theorem State.setEntry_light (s : State) (d : DriveId) (e : DriveEntry) (k' : House) : (s.setEntry d e).light k' = s.light k' := rfl
@[simp] theorem State.setEntry_fireOf (s : State) (d : DriveId) (e : DriveEntry) (k' : House) : (s.setEntry d e).fireOf k' = s.fireOf k' := rfl
@[simp] theorem State.setEntry_ms (s : State) (d : DriveId) (e : DriveEntry) : (s.setEntry d e).ms = s.ms := rfl

/-! ### setRestart -/

@[simp] theorem State.setRestart_now (s : State) (r : RestartWait) : (s.setRestart r).now = s.now := rfl
@[simp] theorem State.setRestart_pending (s : State) (r : RestartWait) : (s.setRestart r).pending = s.pending := rfl
@[simp] theorem State.setRestart_loop (s : State) (r : RestartWait) : (s.setRestart r).loop = s.loop := rfl
@[simp] theorem State.setRestart_matcher (s : State) (r : RestartWait) : (s.setRestart r).matcher = s.matcher := rfl
@[simp] theorem State.setRestart_drive (s : State) (r : RestartWait) : (s.setRestart r).drive = s.drive := rfl
@[simp] theorem State.setRestart_monitors (s : State) (r : RestartWait) : (s.setRestart r).monitors = s.monitors := rfl
@[simp] theorem State.setRestart_lamps (s : State) (r : RestartWait) : (s.setRestart r).lamps = s.lamps := rfl
@[simp] theorem State.setRestart_programme (s : State) (r : RestartWait) : (s.setRestart r).programme = s.programme := rfl
@[simp] theorem State.setRestart_slots (s : State) (r : RestartWait) : (s.setRestart r).slots = s.slots := rfl
@[simp] theorem State.setRestart_engines (s : State) (r : RestartWait) : (s.setRestart r).engines = s.engines := rfl
@[simp] theorem State.setRestart_lights (s : State) (r : RestartWait) : (s.setRestart r).lights = s.lights := rfl
@[simp] theorem State.setRestart_fire (s : State) (r : RestartWait) : (s.setRestart r).fire = s.fire := rfl
@[simp] theorem State.setRestart_panel (s : State) (r : RestartWait) : (s.setRestart r).panel = s.panel := rfl
@[simp] theorem State.setRestart_notices (s : State) (r : RestartWait) : (s.setRestart r).notices = s.notices := rfl
@[simp] theorem State.setRestart_starter (s : State) (r : RestartWait) : (s.setRestart r).starter = s.starter := rfl
@[simp] theorem State.setRestart_checkSum (s : State) (r : RestartWait) : (s.setRestart r).checkSum = s.checkSum := rfl
@[simp] theorem State.setRestart_freeCount (s : State) (r : RestartWait) : (s.setRestart r).freeCount = s.freeCount := rfl
@[simp] theorem State.setRestart_mon (s : State) (r : RestartWait) (h' : Head) : (s.setRestart r).mon h' = s.mon h' := rfl
@[simp] theorem State.setRestart_lamp (s : State) (r : RestartWait) (h' : Head) : (s.setRestart r).lamp h' = s.lamp h' := rfl
@[simp] theorem State.setRestart_slot (s : State) (r : RestartWait) (h' : Head) : (s.setRestart r).slot h' = s.slot h' := rfl
@[simp] theorem State.setRestart_role (s : State) (r : RestartWait) (h' : Head) : (s.setRestart r).role h' = s.role h' := rfl
@[simp] theorem State.setRestart_eng (s : State) (r : RestartWait) (k' : House) : (s.setRestart r).eng k' = s.eng k' := rfl
@[simp] theorem State.setRestart_light (s : State) (r : RestartWait) (k' : House) : (s.setRestart r).light k' = s.light k' := rfl
@[simp] theorem State.setRestart_fireOf (s : State) (r : RestartWait) (k' : House) : (s.setRestart r).fireOf k' = s.fireOf k' := rfl
@[simp] theorem State.setRestart_entry (s : State) (r : RestartWait) (d' : DriveId) : (s.setRestart r).entry d' = s.entry d' := rfl
@[simp] theorem State.setRestart_ms (s : State) (r : RestartWait) : (s.setRestart r).ms = s.ms := rfl

/-! ### setReel -/

@[simp] theorem State.setReel_now (s : State) (i : Fin 64) (r : Reel) : (s.setReel i r).now = s.now := rfl
@[simp] theorem State.setReel_pending (s : State) (i : Fin 64) (r : Reel) : (s.setReel i r).pending = s.pending := rfl
@[simp] theorem State.setReel_loop (s : State) (i : Fin 64) (r : Reel) : (s.setReel i r).loop = s.loop := rfl
@[simp] theorem State.setReel_matcher (s : State) (i : Fin 64) (r : Reel) : (s.setReel i r).matcher = s.matcher := rfl
@[simp] theorem State.setReel_drive (s : State) (i : Fin 64) (r : Reel) : (s.setReel i r).drive = s.drive := rfl
@[simp] theorem State.setReel_monitors (s : State) (i : Fin 64) (r : Reel) : (s.setReel i r).monitors = s.monitors := rfl
@[simp] theorem State.setReel_lamps (s : State) (i : Fin 64) (r : Reel) : (s.setReel i r).lamps = s.lamps := rfl
@[simp] theorem State.setReel_slots (s : State) (i : Fin 64) (r : Reel) : (s.setReel i r).slots = s.slots := rfl
@[simp] theorem State.setReel_engines (s : State) (i : Fin 64) (r : Reel) : (s.setReel i r).engines = s.engines := rfl
@[simp] theorem State.setReel_lights (s : State) (i : Fin 64) (r : Reel) : (s.setReel i r).lights = s.lights := rfl
@[simp] theorem State.setReel_fire (s : State) (i : Fin 64) (r : Reel) : (s.setReel i r).fire = s.fire := rfl
@[simp] theorem State.setReel_panel (s : State) (i : Fin 64) (r : Reel) : (s.setReel i r).panel = s.panel := rfl
@[simp] theorem State.setReel_notices (s : State) (i : Fin 64) (r : Reel) : (s.setReel i r).notices = s.notices := rfl
@[simp] theorem State.setReel_orders (s : State) (i : Fin 64) (r : Reel) : (s.setReel i r).orders = s.orders := rfl
@[simp] theorem State.setReel_starter (s : State) (i : Fin 64) (r : Reel) : (s.setReel i r).starter = s.starter := rfl
@[simp] theorem State.setReel_checkSum (s : State) (i : Fin 64) (r : Reel) : (s.setReel i r).checkSum = s.checkSum := rfl
@[simp] theorem State.setReel_freeCount (s : State) (i : Fin 64) (r : Reel) : (s.setReel i r).freeCount = s.freeCount := rfl
@[simp] theorem State.setReel_mon (s : State) (i : Fin 64) (r : Reel) (h' : Head) : (s.setReel i r).mon h' = s.mon h' := rfl
@[simp] theorem State.setReel_lamp (s : State) (i : Fin 64) (r : Reel) (h' : Head) : (s.setReel i r).lamp h' = s.lamp h' := rfl
@[simp] theorem State.setReel_slot (s : State) (i : Fin 64) (r : Reel) (h' : Head) : (s.setReel i r).slot h' = s.slot h' := rfl
@[simp] theorem State.setReel_role (s : State) (i : Fin 64) (r : Reel) (h' : Head) : (s.setReel i r).role h' = s.role h' := rfl
@[simp] theorem State.setReel_eng (s : State) (i : Fin 64) (r : Reel) (k' : House) : (s.setReel i r).eng k' = s.eng k' := rfl
@[simp] theorem State.setReel_light (s : State) (i : Fin 64) (r : Reel) (k' : House) : (s.setReel i r).light k' = s.light k' := rfl
@[simp] theorem State.setReel_fireOf (s : State) (i : Fin 64) (r : Reel) (k' : House) : (s.setReel i r).fireOf k' = s.fireOf k' := rfl
@[simp] theorem State.setReel_entry (s : State) (i : Fin 64) (r : Reel) (d' : DriveId) : (s.setReel i r).entry d' = s.entry d' := rfl
@[simp] theorem State.setReel_ms (s : State) (i : Fin 64) (r : Reel) : (s.setReel i r).ms = s.ms := rfl

/-! ### Reading back what was written -/

@[simp] theorem State.elapse_now (s : State) (dt : Nat) : (s.elapse dt).now = s.now + dt := rfl
@[simp] theorem State.setLoop_loop (s : State) (l : LoopUnit) : (s.setLoop l).loop = l := rfl
@[simp] theorem State.setNotices_notices (s : State) (n : NoticeUnit) : (s.setNotices n).notices = n := rfl
@[simp] theorem State.setRestart_restart (s : State) (r : RestartWait) : (s.setRestart r).orders.restart = r := rfl
@[simp] theorem State.setRestart_own (s : State) (r : RestartWait) : (s.setRestart r).orders.own = s.orders.own := rfl
@[simp] theorem State.setRestart_addressLock (s : State) (r : RestartWait) :
    (s.setRestart r).orders.addressLock = s.orders.addressLock := rfl
@[simp] theorem State.setFire_holdTime (s : State) (k : House) (f : FireHouse) : (s.setFire k f).fire.holdTime = s.fire.holdTime := rfl
@[simp] theorem State.setFire_confirmWindow (s : State) (k : House) (f : FireHouse) :
    (s.setFire k f).fire.confirmWindow = s.fire.confirmWindow := rfl
@[simp] theorem State.setEntry_refreshPeriod (s : State) (d : DriveId) (e : DriveEntry) :
    (s.setEntry d e).drive.refreshPeriod = s.drive.refreshPeriod := rfl
@[simp] theorem State.setMon_mon_same (s : State) (h : Head) (m : Monitor) : (s.setMon h m).mon h = m := PerHead.get_set_same ..
theorem State.setMon_mon_ne (s : State) {h h' : Head} (m : Monitor) (ne : h' ≠ h) : (s.setMon h m).mon h' = s.mon h' :=
  PerHead.get_set_ne _ _ ne
theorem State.setMon_mon (s : State) (h h' : Head) (m : Monitor) : (s.setMon h m).mon h' = if h' = h then m else s.mon h' :=
  PerHead.get_set ..
@[simp] theorem State.setLamp_lamp_same (s : State) (h : Head) (l : Lamp) : (s.setLamp h l).lamp h = l := PerHead.get_set_same ..
theorem State.setLamp_lamp_ne (s : State) {h h' : Head} (l : Lamp) (ne : h' ≠ h) : (s.setLamp h l).lamp h' = s.lamp h' :=
  PerHead.get_set_ne _ _ ne
theorem State.setLamp_lamp (s : State) (h h' : Head) (l : Lamp) : (s.setLamp h l).lamp h' = if h' = h then l else s.lamp h' :=
  PerHead.get_set ..
@[simp] theorem State.setSlot_slot_same (s : State) (h : Head) (x : Slot) : (s.setSlot h x).slot h = x := PerHead.get_set_same ..
theorem State.setSlot_slot_ne (s : State) {h h' : Head} (x : Slot) (ne : h' ≠ h) : (s.setSlot h x).slot h' = s.slot h' :=
  PerHead.get_set_ne _ _ ne
theorem State.setSlot_slot (s : State) (h h' : Head) (x : Slot) : (s.setSlot h x).slot h' = if h' = h then x else s.slot h' :=
  PerHead.get_set ..
@[simp] theorem State.setEng_eng_same (s : State) (k : House) (e : Engine) : (s.setEng k e).eng k = e := PerHouse.get_set_same ..
theorem State.setEng_eng_ne (s : State) {k k' : House} (e : Engine) (ne : k' ≠ k) : (s.setEng k e).eng k' = s.eng k' :=
  PerHouse.get_set_ne _ _ ne
theorem State.setEng_eng (s : State) (k k' : House) (e : Engine) : (s.setEng k e).eng k' = if k' = k then e else s.eng k' :=
  PerHouse.get_set ..
@[simp] theorem State.setLight_light_same (s : State) (k : House) (l : LightUnit) : (s.setLight k l).light k = l := PerHouse.get_set_same ..
theorem State.setLight_light_ne (s : State) {k k' : House} (l : LightUnit) (ne : k' ≠ k) : (s.setLight k l).light k' = s.light k' :=
  PerHouse.get_set_ne _ _ ne
theorem State.setLight_light (s : State) (k k' : House) (l : LightUnit) : (s.setLight k l).light k' = if k' = k then l else s.light k' :=
  PerHouse.get_set ..
@[simp] theorem State.setFire_fireOf_same (s : State) (k : House) (f : FireHouse) : (s.setFire k f).fireOf k = f := PerHouse.get_set_same ..
theorem State.setFire_fireOf_ne (s : State) {k k' : House} (f : FireHouse) (ne : k' ≠ k) : (s.setFire k f).fireOf k' = s.fireOf k' :=
  PerHouse.get_set_ne _ _ ne
theorem State.setFire_fireOf (s : State) (k k' : House) (f : FireHouse) : (s.setFire k f).fireOf k' = if k' = k then f else s.fireOf k' :=
  PerHouse.get_set ..
@[simp] theorem State.setEntry_entry_same (s : State) (d : DriveId) (e : DriveEntry) : (s.setEntry d e).entry d = e :=
  Table.get_set_same ..
theorem State.setEntry_entry_ne (s : State) {d d' : DriveId} (e : DriveEntry) (ne : d' ≠ d) : (s.setEntry d e).entry d' = s.entry d' :=
  Table.get_set_ne _ _ fun i => ne (driveIndex_inj i)
theorem State.setEntry_entry (s : State) (d d' : DriveId) (e : DriveEntry) :
    (s.setEntry d e).entry d' = if d' = d then e else s.entry d' := by
  by_cases h : d' = d
  · subst h; simp
  · simp [h, State.setEntry_entry_ne s e h]
@[simp] theorem State.setSlot_role_same (s : State) (h : Head) (x : Slot) : (s.setSlot h x).role h = x.role := by
  simp [State.role]
theorem State.setSlot_role_ne (s : State) {h h' : Head} (x : Slot) (ne : h' ≠ h) : (s.setSlot h x).role h' = s.role h' := by
  simp [State.role, State.setSlot_slot_ne s x ne]

end Machine

end Sys2Proof
end

