-- ==== Sys2Proof/Laws/Event.lean ====
section
/-! SUPPORT. What an event leaves of a state beside its own effect: the arbiter, the store's seal, the answer/notice FIFO and the drive
table's marks move nothing of the settled state; and the course of an order from its telegram to its answer. -/

namespace Sys2Proof.Machine

/-! ### The settled state -/

@[simp] theorem State.settled_now (s : State) : s.settled.now = s.now := rfl
@[simp] theorem State.settled_pending (s : State) : s.settled.pending = s.pending := rfl
@[simp] theorem State.settled_matcher (s : State) : s.settled.matcher = s.matcher := rfl
@[simp] theorem State.settled_monitors (s : State) : s.settled.monitors = s.monitors := rfl
@[simp] theorem State.settled_lamps (s : State) : s.settled.lamps = s.lamps := rfl
@[simp] theorem State.settled_programme (s : State) : s.settled.programme = s.programme := rfl
@[simp] theorem State.settled_slots (s : State) : s.settled.slots = s.slots := rfl
@[simp] theorem State.settled_engines (s : State) : s.settled.engines = s.engines := rfl
@[simp] theorem State.settled_lights (s : State) : s.settled.lights = s.lights := rfl
@[simp] theorem State.settled_fire (s : State) : s.settled.fire = s.fire := rfl
@[simp] theorem State.settled_panel (s : State) : s.settled.panel = s.panel := rfl
@[simp] theorem State.settled_notices (s : State) : s.settled.notices = s.notices := rfl
@[simp] theorem State.settled_orders (s : State) : s.settled.orders = s.orders := rfl
@[simp] theorem State.settled_starter (s : State) : s.settled.starter = s.starter := rfl
@[simp] theorem State.settled_freeCount (s : State) : s.settled.freeCount = s.freeCount := rfl
@[simp] theorem State.settled_entry (s : State) (d : DriveId) : s.settled.entry d = (s.entry d).settled := Table.get_map ..

/-- A drive entry changed in its marks alone leaves the settled state (R38). -/
theorem State.setEntry_settled (s : State) (d : DriveId) (e : DriveEntry) (h : e.settled = (s.entry d).settled) :
    (s.setEntry d e).settled = s.settled := by
  have : (s.drive.entries.set (driveIndex d) e).map DriveEntry.settled = s.drive.entries.map DriveEntry.settled := by
    rw [Table.map_set, h]
    have := Table.set_get_self (s.drive.entries.map DriveEntry.settled) (driveIndex d)
    rw [Table.get_map] at this
    exact this
  unfold State.settled State.setEntry
  simp [this]

/-- A loop unit that differs in its queues, LOOP OUT and the answer-drop counter alone leaves the settled state. -/
theorem State.setLoop_settled (s : State) (l : LoopUnit)
    (h : { l with out := .free, repeats := [], fifo := [], transit := [], counters := { l.counters with answerDrop := 0 } } =
      { s.loop with
        out := .free, repeats := [], fifo := [], transit := [], counters := { s.loop.counters with answerDrop := 0 } }) :
    (s.setLoop l).settled = s.settled := by
  unfold State.settled State.setLoop
  simp only [h]

/-- A write leaves of the drive table the value commanded (R40). -/
theorem State.writeDrive_settled (s : State) (d : DriveId) (v : DriveVal) :
    (s.writeDrive d v).settled = (s.setEntry d { s.entry d with value := v }).settled := by
  unfold State.settled State.writeDrive State.setEntry DriveEntry.written
  simp [Table.map_set, DriveEntry.settled]

/-! ### The arbiter -/

theorem State.startDrive_settled (s : State) (d : DriveId) (c : DriveClass) (t : Nat) : (s.startDrive d c t).settled = s.settled := by
  unfold State.startDrive
  rw [State.setLoop_settled _ _ (by rfl)]
  exact State.setEntry_settled _ _ _ rfl

theorem State.startWaiting_settled (s : State) (w : Waiting) (r : List Waiting) : (s.startWaiting w r).settled = s.settled := by
  unfold State.startWaiting
  cases w <;> exact State.setLoop_settled _ _ rfl

/-- A DRIVE started has no last-sent time; the other entries keep theirs (R38, R41). -/
theorem State.startDrive_times (s : State) (d : DriveId) (c : DriveClass) (u : Nat) : (s.startDrive d c u).Settles s where
  rest := State.startDrive_settled ..
  times d' := by
    by_cases e : d' = d
    · subst e
      exact Or.inr ⟨by simp [State.startDrive], _, _, _, rfl⟩
    · exact Or.inl (by simp [State.startDrive, State.setEntry_entry, e])

/-- A state that differs in nothing of the drive table settles when its settled state does. -/
theorem State.Settles.of_drive {t s : State} (h : t.settled = s.settled) (d : t.drive = s.drive) : t.Settles s :=
  ⟨h, fun i => Or.inl (by unfold State.entry; rw [d])⟩

theorem State.startWaiting_drive (s : State) (w : Waiting) (r : List Waiting) : (s.startWaiting w r).drive = s.drive := by
  unfold State.startWaiting
  cases w <;> rfl

theorem State.startLate_settles (s : State) : s.startLate.Settles s := by
  unfold State.startLate
  split
  · exact State.startDrive_times ..
  · split
    · exact State.startDrive_times ..
    · split
      · exact State.startDrive_times ..
      · exact .of_drive rfl rfl

theorem State.startOriginated_settles (s : State) : s.startOriginated.Settles s := by
  unfold State.startOriginated
  split
  · exact State.startDrive_times ..
  · split
    · exact State.startDrive_times ..
    · split
      · exact .of_drive (State.startWaiting_settled ..) (State.startWaiting_drive ..)
      · exact State.startLate_settles _

/-- The arbiter moves nothing but what is being sent (R22). -/
theorem State.arbitrate_settles (s : State) : s.arbitrate.Settles s := by
  unfold State.arbitrate State.choose
  split
  · split
    · exact .of_drive (State.setLoop_settled _ _ rfl) rfl
    · split
      · exact State.startOriginated_settles _
      · exact .of_drive rfl rfl
  · exact .of_drive rfl rfl

/-- The entry that goes first of a class waits: it is mapped and marked dirty under that class (R22). -/
theorem State.firstDirty_waits (s : State) (cls : DriveClass) (d : DriveId) (u : Nat) (h : s.firstDirty cls = some (d, u)) :
    s.DriveWaits d cls u := by
  have waits : ∀ d u, (s.entry d).available cls = some u → s.DriveWaits d cls u := by
    intro d u e
    unfold DriveEntry.available at e
    split at e
    · cases e
    · rename_i mapped
      cases hd : (s.entry d).dirty with
      | none => simp [hd] at e
      | some w =>
        by_cases c : w.cls = cls
        · simp [hd, Option.filter, c] at e
          exact ⟨mapped, by rw [hd, ← c, ← e]⟩
        · simp [hd, Option.filter, c] at e
  have fold : ∀ (l : List DriveId) (b : Option (DriveId × Nat)), (∀ x, b = some x → s.DriveWaits x.1 cls x.2) →
      ∀ x, l.foldl
          (fun best d =>
            match (s.entry d).available cls, best with
            | none, _ => best
            | some t, none => some (d, t)
            | some t, some (_, u) => if t < u then some (d, t) else best) b = some x → s.DriveWaits x.1 cls x.2 := by
    intro l
    induction l with
    | nil => exact fun _ hb => hb
    | cons d l ih =>
      intro b hb
      refine ih _ fun x hx => ?_
      dsimp only at hx
      split at hx
      · exact hb x hx
      · cases hx
        exact waits _ _ (by assumption)
      · split at hx
        · cases hx
          exact waits _ _ (by assumption)
        · exact hb x hx
  exact fold driveIds none (fun _ e => by cases e) (d, u) h

/-- What the arbiter starts of its own: the head of the answer/notice FIFO, an entry that waits, or nothing (R22). -/
theorem State.startOriginated_cases (s : State) :
    s.startOriginated = s ∨ (∃ w rest, s.loop.fifo = w :: rest ∧ s.startOriginated = s.startWaiting w rest) ∨
      ∃ d cls u, s.DriveWaits d cls u ∧ s.startOriginated = s.startDrive d cls u := by
  unfold State.startOriginated State.startLate
  split
  · exact .inr (.inr ⟨_, _, _, s.firstDirty_waits _ _ _ (by assumption), rfl⟩)
  · split
    · exact .inr (.inr ⟨_, _, _, s.firstDirty_waits _ _ _ (by assumption), rfl⟩)
    · split
      · exact .inr (.inl ⟨_, _, by assumption, rfl⟩)
      · split
        · exact .inr (.inr ⟨_, _, _, s.firstDirty_waits _ _ _ (by assumption), rfl⟩)
        · split
          · exact .inr (.inr ⟨_, _, _, s.firstDirty_waits _ _ _ (by assumption), rfl⟩)
          · split
            · exact .inr (.inr ⟨_, _, _, s.firstDirty_waits _ _ _ (by assumption), rfl⟩)
            · exact .inl rfl

/-- The arbiter makes its one choice (R22, R23). -/
theorem State.arbitrate_chose (s : State) : s.ArbiterChose s.arbitrate where
  rests h := by
    unfold State.arbitrate
    rw [if_neg (by rintro ⟨a, b, c⟩; rcases h with h | h | h <;> simp_all)]
    exact ⟨rfl, rfl⟩
  repeats a b c g rest e := by
    unfold State.arbitrate State.choose
    rw [if_pos ⟨a, b, c⟩, e]
    exact ⟨rfl, rfl⟩
  originates a b c e := by
    unfold State.arbitrate State.choose
    rw [if_pos ⟨a, b, c⟩, e]
    dsimp only
    split
    · obtain h | ⟨w, rest, hw, h⟩ | ⟨d, cls, u, ⟨mapped, dirty⟩, h⟩ := s.startOriginated_cases <;> rw [h]
      · exact .inl ⟨rfl, rfl⟩
      · refine .inr (.inl ⟨by assumption, s.startWaiting_drive .., ?_⟩)
        cases w <;> exact ⟨_, rest, _, _, hw, rfl, by rintro _ _ _ ⟨⟩; try rfl, by rintro _ ⟨⟩; try rfl⟩
      · exact .inr (.inr ⟨by assumption, d, s.driveFrame d, cls, u, mapped, dirty, rfl, rfl⟩)
    · exact .inl ⟨rfl, rfl⟩

/-- After the arbiter's one choice no telegram of the event itself waits in the repeat FIFO or is sent on (R8, R19, R22). -/
theorem State.ArbiterChose.repeatsNothing {u t : State} (h : u.ArbiterChose t) : u.RepeatsNothing t := by
  unfold State.RepeatsNothing
  by_cases c : u.loop.state = .held ∧ u.loop.out = .free ∧ u.loop.leaveAwaiting = false
  · obtain ⟨a, o, b⟩ := c
    rw [if_pos ⟨a, o, b⟩]
    cases e : u.loop.repeats with
    | cons g rest =>
      have := (h.repeats a b o g rest e).1
      simp [this]
    | nil =>
      obtain x | ⟨-, -, w, rest, x, f, -, l, hx, hn⟩ | ⟨-, d, f, cls, u', -, -, l, -⟩ := h.originates a b o e
      · simp [x.1, e, o]
      · refine ⟨⟨by simp [l, e], fun _ _ k => by cases k⟩, fun _ _ g k => ?_⟩
        rw [l] at k
        cases w with
        | answer dst p named => rw [hx dst p named rfl] at k; cases k
        | notice n => rw [hn n rfl] at k; cases k
      · exact ⟨⟨by simp [l, e], fun _ _ k => by cases k⟩, fun _ _ g k => by rw [l] at k; cases k⟩
  · rw [if_neg c]
    have r : u.loop.state ≠ .held ∨ u.loop.leaveAwaiting = true ∨ u.loop.out ≠ .free := by
      by_cases a : u.loop.state = .held
      · by_cases o : u.loop.out = .free
        · exact .inr (.inl (by cases e : u.loop.leaveAwaiting <;> simp_all))
        · exact .inr (.inr o)
      · exact .inl a
    rw [(h.rests r).1]
    exact ⟨⟨rfl, rfl⟩, fun _ n => n⟩

/-! ### The end of an event -/

/-- The check sum is no part of the settled state. -/
theorem State.withSum_settled (s : State) (w : Word) : ({ s with checkSum := w } : State).settled = s.settled := rfl

theorem State.withSum_orders (s : State) (w : Word) : ({ s with checkSum := w } : State).orders = s.orders := rfl

@[simp] theorem State.sealFrom_settled (s b : State) : (s.sealFrom b).settled = s.settled := by
  unfold State.sealFrom
  exact State.withSum_settled s _

@[simp] theorem State.sealFrom_orders (s b : State) : (s.sealFrom b).orders = s.orders := by
  unfold State.sealFrom
  exact State.withSum_orders s _

@[simp] theorem State.sealFrom_drive (s b : State) : (s.sealFrom b).drive = s.drive := by
  unfold State.sealFrom
  dsimp only

@[simp] theorem State.sealFrom_loop (s b : State) : (s.sealFrom b).loop = s.loop := by
  unfold State.sealFrom
  dsimp only

/-- With no restart requested, an event ends in the state its own effect made, sending aside. -/
theorem State.conclude_settles (s b : State) (h : s.orders.restart ≠ .requested) : (s.conclude b).Settles s := by
  unfold State.conclude
  have : (s.sealFrom b).orders.restart ≠ .requested := by rw [State.sealFrom_orders]; exact h
  dsimp only
  rw [if_neg this]
  have a := State.arbitrate_settles (s.sealFrom b)
  exact ⟨a.rest.trans (State.sealFrom_settled s b), fun d => by simpa [State.entry] using a.times d⟩

/-- With no restart requested, the arbiter chooses once in the state the event's own effect made. -/
theorem State.conclude_chose (s b : State) (h : s.orders.restart ≠ .requested) : s.ArbiterChose (s.conclude b) := by
  unfold State.conclude
  have : (s.sealFrom b).orders.restart ≠ .requested := by rw [State.sealFrom_orders]; exact h
  dsimp only
  rw [if_neg this]
  have a := State.arbitrate_chose (s.sealFrom b)
  exact ⟨by simpa using a.rests, by simpa using a.repeats, by simpa [State.entry, State.setEntry] using a.originates⟩

/-- With a restart requested, an event ends in the start it asks for (R190, R196). -/
theorem State.conclude_starts (s b : State) (h : s.orders.restart = .requested) : s.conclude b = (s.sealFrom b).restartNow := by
  unfold State.conclude
  dsimp only
  rw [if_pos (by rw [State.sealFrom_orders]; exact h)]

/-- An event of a part that takes events (R193). -/
theorem event_awake (dt : Nat) (f : State → State) (s : State) (h : s.starter.stopped = false) :
    event dt f s = .next ((f (s.elapse dt)).conclude (s.elapse dt)) := by
  unfold event
  simp [h]

/-- A stopped part takes no event (R193). -/
theorem event_stopped (dt : Nat) (f : State → State) (s : State) (h : s.starter.stopped = true) :
    event dt f s = .next (s.elapse dt) := by
  unfold event
  simp [h]

/-- An event whose own effect is `t`, with no restart requested by it, ends in `t`, sending aside. -/
theorem event_becomes (dt : Nat) (f : State → State) (s : State) (h : s.starter.stopped = false)
    (r : (f (s.elapse dt)).orders.restart ≠ .requested) :
    ∃ t, event dt f s = .next t ∧ t.Settles (f (s.elapse dt)) :=
  ⟨_, event_awake dt f s h, State.conclude_settles _ _ r⟩

/-- The same, with the queues said: they are those of `t` but for the arbiter's one choice. -/
theorem event_becomesSending (dt : Nat) (f : State → State) (s : State) (h : s.starter.stopped = false)
    (r : (f (s.elapse dt)).orders.restart ≠ .requested) :
    ∃ t, event dt f s = .next t ∧ t.Settles (f (s.elapse dt)) ∧ (f (s.elapse dt)).ArbiterChose t :=
  ⟨_, event_awake dt f s h, State.conclude_settles _ _ r, State.conclude_chose _ _ r⟩

/-! ### The answer/notice FIFO -/

@[simp] theorem State.countLoop_orders (s : State) (f : LoopCounters → LoopCounters) : (s.countLoop f).orders = s.orders := by
  unfold State.countLoop
  split <;> rfl

@[simp] theorem State.countLoop_fifo (s : State) (f : LoopCounters → LoopCounters) : (s.countLoop f).loop.fifo = s.loop.fifo := by
  unfold State.countLoop
  split <;> rfl

@[simp] theorem State.countLoop_drive (s : State) (f : LoopCounters → LoopCounters) : (s.countLoop f).drive = s.drive := by
  unfold State.countLoop
  split <;> rfl

@[simp] theorem State.requestStart_drive (s : State) : s.requestStart.drive = s.drive := by
  unfold State.requestStart
  split <;> rfl

theorem State.requestStart_calm (s : State) (h : s.orders.restart ≠ .waiting) : s.requestStart = s := by
  unfold State.requestStart
  simp [h]

/-- A dropped answer is counted in the answer-drop counter alone (R21, R24). -/
theorem State.countDrop_settled (s : State) (n : LoopCounters → Nat) :
    (s.countLoop fun c => { c with answerDrop := n c }).settled = s.settled := by
  unfold State.countLoop
  split
  · rfl
  · exact State.setLoop_settled _ _ rfl

/-- With no restart awaited, room is made in the FIFO alone (R21): the oldest ANSWER goes, and the drop is counted. -/
theorem State.makeRoom_calm (s : State) (h : s.orders.restart ≠ .waiting) :
    s.makeRoom =
      if s.loop.fifo.length < 4 then s
      else
        (s.setLoop { s.loop with fifo := s.loop.fifo.eraseP Waiting.isAnswer }).countLoop
          fun c => { c with answerDrop := bump c.answerDrop } := by
  unfold State.makeRoom
  split
  · rfl
  · have e : ∀ t : State, t.orders = s.orders → t.requestStart = t := fun t o => State.requestStart_calm t (by rw [o]; exact h)
    dsimp only
    rw [e _ (by simp)]
    split <;> rfl

theorem State.makeRoom_orders (s : State) (h : s.orders.restart ≠ .waiting) : s.makeRoom.orders = s.orders := by
  rw [State.makeRoom_calm s h]
  split
  · rfl
  · simp

theorem State.makeRoom_settled (s : State) (h : s.orders.restart ≠ .waiting) : s.makeRoom.settled = s.settled := by
  rw [State.makeRoom_calm s h]
  split
  · rfl
  · rw [State.countDrop_settled]
    exact State.setLoop_settled _ _ rfl

theorem State.enqueue_orders (s : State) (w : Waiting) (h : s.orders.restart ≠ .waiting) : (s.enqueue w).orders = s.orders := by
  unfold State.enqueue
  simp [State.makeRoom_orders s h]

theorem State.enqueue_settled (s : State) (w : Waiting) (h : s.orders.restart ≠ .waiting) : (s.enqueue w).settled = s.settled := by
  unfold State.enqueue
  rw [State.setLoop_settled _ _ (by rfl)]
  exact State.makeRoom_settled s h

/-- With room in the FIFO a telegram joins its tail and nothing else changes, a restart awaited or not (R21). -/
theorem State.enqueue_room (s : State) (w : Waiting) (h : s.loop.fifo.length < 4) :
    s.enqueue w = s.setLoop { s.loop with fifo := s.loop.fifo ++ [w] } := by
  unfold State.enqueue State.makeRoom
  simp [h]

/-- A telegram that joins the answer/notice FIFO leaves the drive table (R21). -/
theorem State.enqueue_drive (s : State) (w : Waiting) : (s.enqueue w).drive = s.drive := by
  have room : s.makeRoom.drive = s.drive := by
    unfold State.makeRoom
    dsimp only
    repeat' split
    all_goals simp
  unfold State.enqueue
  simpa using room

theorem State.enqueue_mem (s : State) (w : Waiting) : w ∈ (s.enqueue w).loop.fifo := by
  unfold State.enqueue
  simp

/-- A telegram that waits is still waiting after the arbiter's choice, or is the one started (R22). -/
theorem State.arbitrate_answer (s : State) (dst : Byte) (p : List Byte) (h : Waiting.answer dst p false ∈ s.loop.fifo) :
    s.arbitrate.Answers dst p := by
  have hd : ∀ (d : DriveId) (c : DriveClass) (t : Nat), (s.startDrive d c t).Answers dst p := fun d c t => .inl h
  have hl : s.startLate.Answers dst p := by
    unfold State.startLate
    split
    · exact hd ..
    · split
      · exact hd ..
      · split
        · exact hd ..
        · exact .inl h
  unfold State.arbitrate State.choose State.startOriginated
  split
  · split
    · exact .inl h
    · split
      · split
        · exact hd ..
        · split
          · exact hd ..
          · split
            · rename_i w rest e
              rw [e] at h
              rcases List.mem_cons.mp h with rfl | hm
              · exact .inr rfl
              · left
                unfold State.startWaiting
                cases w <;> exact hm
            · exact hl
      · exact .inl h
  · exact .inl h

/-! ### Raises (R175) -/

theorem State.queueNotice_settled (s : State) (c : NoticeContents) (h : s.orders.restart ≠ .waiting) :
    (s.queueNotice c).settled = s.settled := by
  unfold State.queueNotice
  split
  · exact State.setLoop_settled _ _ rfl
  · exact State.enqueue_settled s _ h

theorem State.queueNotice_orders (s : State) (c : NoticeContents) (h : s.orders.restart ≠ .waiting) :
    (s.queueNotice c).orders = s.orders := by
  unfold State.queueNotice
  split
  · rfl
  · exact State.enqueue_orders s _ h

/-- A raise moves the notice unit, and of the rest the answer/notice FIFO alone (R175). -/
theorem State.raise_settled (s : State) (e : Event) (c : Cause) (k : Option Code) (h : s.orders.restart ≠ .waiting) :
    (s.raise e c k).settled = (s.setNotices (s.notices.raised e c k)).settled := by
  unfold State.raise
  dsimp only
  split
  · rfl
  · exact State.queueNotice_settled _ _ h

theorem State.raise_orders (s : State) (e : Event) (c : Cause) (k : Option Code) (h : s.orders.restart ≠ .waiting) :
    (s.raise e c k).orders = s.orders := by
  unfold State.raise
  dsimp only
  split
  · rfl
  · exact State.queueNotice_orders _ _ h

/-! ### The course of an order (R182) -/

/-- The sum of a telegram's bytes from destination through check is 0 (R2). -/
theorem Frame.make_checkOk (dst src kind : Byte) (p : List Byte) : (Frame.make dst src kind p).checkOk = true := by
  unfold Frame.checkOk Frame.make Frame.body
  simp

/-- A good telegram to the part from a station whose telegrams are not stripped is handed on after the guard is restarted (R8, R9). -/
theorem State.arrive_order (s : State) (f : Frame) (b : Bool) (run : State → State) (kind : f.kind = Config.kindOrder)
    (dst : f.dst = s.orders.own) (src : f.src ≠ s.orders.own) (strange : ∀ t ∈ s.loop.transit, t.frame.src ≠ f.src) :
    s.arrive f b run = run (s.setLoop { s.loop with guard := some (s.ms + s.loop.guardTime) }) := by
  have ns : (s.setLoop { s.loop with guard := some (s.ms + s.loop.guardTime) }).stripped f = false := by
    simp only [State.stripped, State.setLoop_orders, State.setLoop_loop, Bool.or_eq_false_iff, beq_eq_false_iff_ne, ne_eq,
      List.any_eq_false]
    exact ⟨src, fun t m => by simpa using strange t m⟩
  unfold State.arrive
  dsimp only
  rw [ns]
  simp [State.route, kind, dst]

/-- A listening part takes an order in the state `heard` (R8, R9, R11). -/
theorem State.receive_order (s : State) (dt : Nat) (src : Byte) (p : List Byte) (run : State → State) (h : s.Listens src)
    (len : p.length ≤ 12) :
    (s.elapse dt).receive ((s.elapse dt).orderFrame src p) run = run (s.heard dt) := by
  obtain ⟨-, hears, station, own, stranger, -⟩ := h
  generalize e0 : s.elapse dt = s0
  have hl : s0.loop = s.loop := by rw [← e0]; rfl
  have ho : s0.orders = s.orders := by rw [← e0]; rfl
  have hh : s.heard dt = s0.setLoop (s0.loop.heard s0.ms) := by rw [← e0]; rfl
  generalize ef : s0.orderFrame src p = f
  have fk : f.kind = Config.kindOrder := by rw [← ef]; rfl
  have fd : f.dst = s0.orders.own := by rw [← ef]; rfl
  have fs : f.src = src := by rw [← ef]; rfl
  have fp : f.payload = p := by rw [← ef]; rfl
  have ok : f.checkOk = true := by rw [← ef]; exact Frame.make_checkOk ..
  have addr : f.addressOk = true := by
    simp only [Frame.addressOk, fs, fd, ho, decide_eq_true_eq]
    omega
  have go : ∀ (l : LoopUnit) (b : Bool), l.transit = s.loop.transit →
      (s0.setLoop l).arrive f b run = run (s0.setLoop { l with guard := some (s0.ms + l.guardTime) }) := by
    intro l b e
    rw [State.arrive_order (s0.setLoop l) f b run fk fd (by rw [fs]; simpa [ho] using stranger.1)
      (by rw [fs]; simpa [e] using stranger.2)]
    rfl
  have rest : (if 12 < f.payload.length then s0.lengthError
      else
        if (f.checkOk && f.addressOk) = true then (s0.setLoop { s0.loop with rx := .seeking }).goodTelegram f run
        else (s0.setLoop { s0.loop with rx := .seeking }).countLoop fun c => { c with check := bump c.check }) = run (s.heard dt) := by
    rw [fp, if_neg (by omega), ok, addr, hh]
    simp only [Bool.and_self, if_true]
    unfold State.goodTelegram LoopUnit.heard
    cases e : s0.loop.state <;> simp only [State.setLoop_loop, e, reduceCtorEq, if_true, if_false]
    · have := go (LoopUnit.lockedRate { s0.loop with rx := .seeking }) false (by simp [LoopUnit.lockedRate, hl])
      exact this
    · simpa [e] using go { s0.loop with rx := .seeking } true (by simp [hl])
    · simpa [e] using go { s0.loop with rx := .seeking } true (by simp [hl])
  unfold State.receive
  rw [hl]
  cases e : s.loop.rx
  · simpa [hl] using rest
  · simpa [hl] using rest
  · exact absurd e hears

/-- The end of an event that queued an ANSWER, no restart awaited: the state it made, sending aside, and the ANSWER waiting or being
sent (R21, R22). -/
theorem State.conclude_answer (s b : State) (dst : Byte) (p : List Byte) (h : s.orders.restart = .clear) :
    ((s.enqueue (.answer dst p false)).conclude b).Settles s ∧
      ((s.enqueue (.answer dst p false)).conclude b).Answers dst p := by
  have hc : s.orders.restart ≠ .waiting := by rw [h]; decide
  have ho := State.enqueue_orders s (.answer dst p false) hc
  have hm := State.enqueue_mem s (.answer dst p false)
  have hs := State.enqueue_settled s (.answer dst p false) hc
  have hd := State.enqueue_drive s (.answer dst p false)
  generalize s.enqueue (.answer dst p false) = e at ho hm hs hd
  have hr : e.orders.restart ≠ .requested := by rw [ho, h]; decide
  have a := State.conclude_settles e b hr
  refine ⟨⟨a.rest.trans hs, fun d => by simpa [State.entry, hd] using a.times d⟩, ?_⟩
  unfold State.conclude
  dsimp only
  rw [if_neg (by rw [State.sealFrom_orders]; exact hr)]
  refine State.arbitrate_answer _ _ _ ?_
  rw [State.sealFrom_loop]
  exact hm

/-- The course of an order: a listening part judges it in the state `heard`, and ends in the state the judgement made, answered
with its result and data (R182). -/
theorem orderEvent_performs (s : State) (dt : Nat) (src code : Byte) (p : List Byte) (run : State → State × Reply) (after : State)
    (result : Result) (data : List Byte) (h : s.Listens src) (len : p.length ≤ 12)
    (judged : run (s.heard dt) = (after, { result := result, data := data })) (calm : after.orders.restart = .clear) :
    ∃ t, orderEvent dt src p (answerOrder src code run) s = .next t ∧ t.Settles after ∧
      t.Answers src ([code, result.code] ++ data) := by
  have run_eq : answerOrder src code run (s.heard dt) = after.enqueue (.answer src ([code, result.code] ++ data) false) := by
    unfold answerOrder answerPayload
    rw [judged]
  refine ⟨_, ?_, State.conclude_answer after (s.elapse dt) src _ calm⟩
  unfold orderEvent
  rw [event_awake _ _ _ h.awake, State.receive_order s dt src p _ h len, run_eq]

/-- The course of a judged order's command. -/
theorem judgedOrder_performs (s : State) (dt : Nat) (src : Byte) (o : Order) (run : State → State × Reply) (after : State)
    (result : Result) (data : List Byte) (h : s.Listens src) (len : (encodeOrder o).length ≤ 12)
    (judged : run (s.heard dt) = (after, { result := result, data := data })) (calm : after.orders.restart = .clear) :
    ∃ t, judgedOrder dt src o run s = .next t ∧ t.Settles after ∧ t.Answers src ([o.code, result.code] ++ data) :=
  orderEvent_performs s dt src o.code (encodeOrder o) run after result data h len judged calm

/-- What an order finds beside the loop unit is what stood before it, later by `dt`. -/
@[simp] theorem State.heard_orders (s : State) (dt : Nat) : (s.heard dt).orders = s.orders := rfl
@[simp] theorem State.heard_now (s : State) (dt : Nat) : (s.heard dt).now = s.now + dt := rfl
@[simp] theorem State.heard_matcher (s : State) (dt : Nat) : (s.heard dt).matcher = s.matcher := rfl
@[simp] theorem State.heard_drive (s : State) (dt : Nat) : (s.heard dt).drive = s.drive := rfl
@[simp] theorem State.heard_monitors (s : State) (dt : Nat) : (s.heard dt).monitors = s.monitors := rfl
@[simp] theorem State.heard_lamps (s : State) (dt : Nat) : (s.heard dt).lamps = s.lamps := rfl
@[simp] theorem State.heard_programme (s : State) (dt : Nat) : (s.heard dt).programme = s.programme := rfl
@[simp] theorem State.heard_slots (s : State) (dt : Nat) : (s.heard dt).slots = s.slots := rfl
@[simp] theorem State.heard_engines (s : State) (dt : Nat) : (s.heard dt).engines = s.engines := rfl
@[simp] theorem State.heard_lights (s : State) (dt : Nat) : (s.heard dt).lights = s.lights := rfl
@[simp] theorem State.heard_fire (s : State) (dt : Nat) : (s.heard dt).fire = s.fire := rfl
@[simp] theorem State.heard_panel (s : State) (dt : Nat) : (s.heard dt).panel = s.panel := rfl
@[simp] theorem State.heard_notices (s : State) (dt : Nat) : (s.heard dt).notices = s.notices := rfl
@[simp] theorem State.heard_starter (s : State) (dt : Nat) : (s.heard dt).starter = s.starter := rfl
@[simp] theorem State.heard_freeCount (s : State) (dt : Nat) : (s.heard dt).freeCount = s.freeCount := rfl
@[simp] theorem State.heard_pending (s : State) (dt : Nat) : (s.heard dt).pending = s.pending := rfl
@[simp] theorem State.heard_mon (s : State) (dt : Nat) (h : Head) : (s.heard dt).mon h = s.mon h := rfl
@[simp] theorem State.heard_lamp (s : State) (dt : Nat) (h : Head) : (s.heard dt).lamp h = s.lamp h := rfl
@[simp] theorem State.heard_slot (s : State) (dt : Nat) (h : Head) : (s.heard dt).slot h = s.slot h := rfl
@[simp] theorem State.heard_role (s : State) (dt : Nat) (h : Head) : (s.heard dt).role h = s.role h := rfl
@[simp] theorem State.heard_eng (s : State) (dt : Nat) (k : House) : (s.heard dt).eng k = s.eng k := rfl
@[simp] theorem State.heard_light (s : State) (dt : Nat) (k : House) : (s.heard dt).light k = s.light k := rfl
@[simp] theorem State.heard_fireOf (s : State) (dt : Nat) (k : House) : (s.heard dt).fireOf k = s.fireOf k := rfl
@[simp] theorem State.heard_entry (s : State) (dt : Nat) (d : DriveId) : (s.heard dt).entry d = s.entry d := rfl

/-! ### A RESTART and a record's lookup -/

/-- A fall or a reset is together with a RESTART exactly when it waits next at the same moment (R196). -/
theorem State.fallTogether_iff (s : State) :
    s.fallTogether = true ↔ ∃ rest, s.pending = .supplyFail 0 :: rest ∨ s.pending = .resetAssert 0 :: rest := by
  unfold State.fallTogether
  split
  · rename_i rest e; simp [e]
  · rename_i rest e; simp [e]
  · rename_i f g
    simp only [Bool.false_eq_true, false_iff, not_exists, not_or]
    exact fun rest => ⟨fun e => f rest e, fun e => g rest e⟩

/-- A RESTART whose stop is prolonged leaves the part stopped, its restart wait clear (R193, R196). -/
theorem State.restartNow_together (s : State) (h : s.fallTogether = true) : s.restartNow = s.beginStop.setRestart .clear := by
  rw [State.restartNow, if_pos h]

/-- A RESTART alone starts the part at once, CLEAR not read (R194, R196). -/
theorem State.restartNow_alone (s : State) (h : s.fallTogether = false) : s.restartNow = s.beginStop.startUp false .order := by
  rw [State.restartNow, if_neg (by simp [h])]

/-- A lookup answers a length only for a record that is held, lies in the house's region and is not empty (R99). -/
theorem State.heldLength_some {s : State} {h : Head} {n : Nat} (e : s.heldLength h = some n) :
    ∃ i, (s.slot h).held = some i ∧ s.programme.inRegion h.house i = true ∧ (s.programme.record i).last = n ∧ n ≠ 0 := by
  unfold State.heldLength at e
  split at e
  · rename_i i held
    split at e
    · rename_i c
      cases e
      simp at c
      exact ⟨i, held, c.1, rfl, c.2⟩
    · cases e
  · cases e

end Sys2Proof.Machine
end

