-- ==== Sys2Proof/Laws/Local.lean ====
section
/-! SUPPORT. What the shared operations of one house can touch: `Local k s t` says that from `s` to `t` nothing outside house `k` moved but
the notices' bits and causes and the answer/notice FIFO. One lemma for each operation. -/

namespace Sys2Proof.Machine

/-- A loop unit less what a raise can move: the answer/notice FIFO and the counters. -/
def LoopUnit.quieted (l : LoopUnit) : LoopUnit := { l with fifo := [], counters := LoopCounters.zero }

/-- Nothing outside a house moved but what a raise moves. -/
structure State.Local (k : House) (s t : State) : Prop where
  house : s.SameHouse t (otherHouse k)
  now : t.now = s.now
  pending : t.pending = s.pending
  freeCount : t.freeCount = s.freeCount
  checkSum : t.checkSum = s.checkSum
  matcher : t.matcher = s.matcher
  programme : t.programme = s.programme
  panel : t.panel = s.panel
  starter : t.starter = s.starter
  holdTime : t.fire.holdTime = s.fire.holdTime
  confirmWindow : t.fire.confirmWindow = s.fire.confirmWindow
  refreshPeriod : t.drive.refreshPeriod = s.drive.refreshPeriod
  map : ∀ d, (t.entry d).station = (s.entry d).station ∧ (t.entry d).fn = (s.entry d).fn
  address : t.orders.own = s.orders.own ∧ t.orders.addressLock = s.orders.addressLock
  orders : s.orders.restart ≠ .waiting → t.orders = s.orders
  loop : t.loop.quieted = s.loop.quieted
  mask : t.notices.mask = s.notices.mask
  quiet : t.notices.quietTimer = s.notices.quietTimer ∧ t.notices.quietTime = s.notices.quietTime

namespace State.Local

variable {k : House} {s t u : State}

theorem sameHouse_refl (s : State) (k : House) : s.SameHouse s k :=
  ⟨fun _ _ => ⟨rfl, rfl, rfl⟩, rfl, rfl, rfl, fun _ _ => rfl⟩

theorem sameHouse_trans {s t u : State} {k : House} (a : s.SameHouse t k) (b : t.SameHouse u k) : s.SameHouse u k :=
  ⟨fun h e =>
      ⟨(b.1 h e).1.trans (a.1 h e).1, (b.1 h e).2.1.trans (a.1 h e).2.1, (b.1 h e).2.2.trans (a.1 h e).2.2⟩,
    b.2.1.trans a.2.1, b.2.2.1.trans a.2.2.1, b.2.2.2.1.trans a.2.2.2.1, fun d e => (b.2.2.2.2 d e).trans (a.2.2.2.2 d e)⟩

theorem refl (k : House) (s : State) : Local k s s :=
  ⟨sameHouse_refl s _, rfl, rfl, rfl, rfl, rfl, rfl, rfl, rfl, rfl, rfl, rfl, fun _ => ⟨rfl, rfl⟩, ⟨rfl, rfl⟩, fun _ => rfl, rfl, rfl,
    ⟨rfl, rfl⟩⟩

theorem trans (a : Local k s t) (b : Local k t u) : Local k s u where
  house := sameHouse_trans a.house b.house
  now := b.now.trans a.now
  pending := b.pending.trans a.pending
  freeCount := b.freeCount.trans a.freeCount
  checkSum := b.checkSum.trans a.checkSum
  matcher := b.matcher.trans a.matcher
  programme := b.programme.trans a.programme
  panel := b.panel.trans a.panel
  starter := b.starter.trans a.starter
  holdTime := b.holdTime.trans a.holdTime
  confirmWindow := b.confirmWindow.trans a.confirmWindow
  refreshPeriod := b.refreshPeriod.trans a.refreshPeriod
  map d := ⟨(b.map d).1.trans (a.map d).1, (b.map d).2.trans (a.map d).2⟩
  address := ⟨b.address.1.trans a.address.1, b.address.2.trans a.address.2⟩
  orders h := by
    have e := a.orders h
    exact (b.orders (by rw [e]; exact h)).trans e
  loop := b.loop.trans a.loop
  mask := b.mask.trans a.mask
  quiet := ⟨b.quiet.1.trans a.quiet.1, b.quiet.2.trans a.quiet.2⟩

/-- A state that differs in house `k` alone. -/
theorem of_house (house : s.SameHouse t (otherHouse k)) (drive : t.drive.refreshPeriod = s.drive.refreshPeriod)
    (map : ∀ d, (t.entry d).station = (s.entry d).station ∧ (t.entry d).fn = (s.entry d).fn)
    (fire : t.fire.holdTime = s.fire.holdTime ∧ t.fire.confirmWindow = s.fire.confirmWindow)
    (rest : { t with
        monitors := s.monitors, lamps := s.lamps, slots := s.slots, engines := s.engines, lights := s.lights, fire := s.fire
        drive := s.drive } = s) : Local k s t where
  house := house
  now := (congrArg State.now rest :)
  pending := (congrArg State.pending rest :)
  freeCount := (congrArg State.freeCount rest :)
  checkSum := (congrArg State.checkSum rest :)
  matcher := (congrArg State.matcher rest :)
  programme := (congrArg State.programme rest :)
  panel := (congrArg State.panel rest :)
  starter := (congrArg State.starter rest :)
  holdTime := fire.1
  confirmWindow := fire.2
  refreshPeriod := drive
  map := map
  address := ⟨(congrArg (fun s => s.orders.own) rest :), (congrArg (fun s => s.orders.addressLock) rest :)⟩
  orders _ := (congrArg State.orders rest :)
  loop := (congrArg (fun s => s.loop.quieted) rest :)
  mask := (congrArg (fun s => s.notices.mask) rest :)
  quiet := ⟨(congrArg (fun s => s.notices.quietTimer) rest :), (congrArg (fun s => s.notices.quietTime) rest :)⟩

/-! ### The house's own state -/

theorem other_ne {h h' : Head} {k : House} (e : h.house = k) (e' : h'.house = otherHouse k) : h' ≠ h := by
  intro x
  subst x
  rw [e] at e'
  cases k <;> cases e'

theorem other_house_ne (k : House) : otherHouse k ≠ k := by cases k <;> decide

theorem setMon (s : State) {h : Head} (m : Monitor) (e : h.house = k) : Local k s (s.setMon h m) :=
  of_house ⟨fun _ e' => ⟨PerHead.get_set_ne _ _ (other_ne e e'), rfl, rfl⟩, rfl, rfl, rfl, fun _ _ => rfl⟩ rfl (fun _ => ⟨rfl, rfl⟩)
    ⟨rfl, rfl⟩ rfl

theorem setLamp (s : State) {h : Head} (l : Lamp) (e : h.house = k) : Local k s (s.setLamp h l) :=
  of_house ⟨fun _ e' => ⟨rfl, PerHead.get_set_ne _ _ (other_ne e e'), rfl⟩, rfl, rfl, rfl, fun _ _ => rfl⟩ rfl (fun _ => ⟨rfl, rfl⟩)
    ⟨rfl, rfl⟩ rfl

theorem setSlot (s : State) {h : Head} (x : Slot) (e : h.house = k) : Local k s (s.setSlot h x) :=
  of_house ⟨fun _ e' => ⟨rfl, rfl, PerHead.get_set_ne _ _ (other_ne e e')⟩, rfl, rfl, rfl, fun _ _ => rfl⟩ rfl (fun _ => ⟨rfl, rfl⟩)
    ⟨rfl, rfl⟩ rfl

theorem setEng (s : State) (k : House) (e : Engine) : Local k s (s.setEng k e) :=
  of_house ⟨fun _ _ => ⟨rfl, rfl, rfl⟩, PerHouse.get_set_ne _ _ (other_house_ne k), rfl, rfl, fun _ _ => rfl⟩ rfl (fun _ => ⟨rfl, rfl⟩)
    ⟨rfl, rfl⟩ rfl

theorem setLight (s : State) (k : House) (l : LightUnit) : Local k s (s.setLight k l) :=
  of_house ⟨fun _ _ => ⟨rfl, rfl, rfl⟩, rfl, PerHouse.get_set_ne _ _ (other_house_ne k), rfl, fun _ _ => rfl⟩ rfl (fun _ => ⟨rfl, rfl⟩)
    ⟨rfl, rfl⟩ rfl

theorem setFire (s : State) (k : House) (f : FireHouse) : Local k s (s.setFire k f) :=
  of_house ⟨fun _ _ => ⟨rfl, rfl, rfl⟩, rfl, rfl, PerHouse.get_set_ne _ _ (other_house_ne k), fun _ _ => rfl⟩ rfl (fun _ => ⟨rfl, rfl⟩)
    ⟨rfl, rfl⟩ rfl

/-- A write to a drive entry of the house (R40). -/
theorem writeDrive (s : State) {d : DriveId} (v : DriveVal) (e : driveHouse d = k) : Local k s (s.writeDrive d v) := by
  have at_ : ∀ d', d' ≠ d → (s.writeDrive d v).entry d' = s.entry d' := fun d' ne =>
    Table.get_set_ne _ _ fun i => ne (driveIndex_inj i)
  refine of_house ⟨fun _ _ => ⟨rfl, rfl, rfl⟩, rfl, rfl, rfl, fun d' e' => ?_⟩ rfl (fun d' => ?_) ⟨rfl, rfl⟩ rfl
  · rw [at_ d' (fun x => other_house_ne k (by rw [← e', x, e]))]
  · by_cases x : d' = d
    · subst x
      have : (s.writeDrive d' v).entry d' = (s.entry d').written v s.ms := Table.get_set_same _ _ _
      rw [this]
      exact ⟨rfl, rfl⟩
    · rw [at_ d' x]
      exact ⟨rfl, rfl⟩

/-! ### Raises -/

/-- A state that differs in the answer/notice FIFO, the counters, and the restart wait that a dropped ANSWER ends. -/
theorem of_loop (rest : { t with loop := s.loop, orders := s.orders } = s) (loop : t.loop.quieted = s.loop.quieted)
    (address : t.orders.own = s.orders.own ∧ t.orders.addressLock = s.orders.addressLock)
    (orders : s.orders.restart ≠ .waiting → t.orders = s.orders) : Local k s t where
  house :=
    ⟨fun h _ => ⟨(congrArg (fun s => s.monitors.get h) rest :), (congrArg (fun s => s.lamps.get h) rest :), (congrArg (fun s => s.slots.get h) rest :)⟩,
      (congrArg (fun s => s.engines.get (otherHouse k)) rest :), (congrArg (fun s => s.lights.get (otherHouse k)) rest :), (congrArg (fun s => s.fire.house.get (otherHouse k)) rest :),
      fun d _ => congrArg (fun s => (s.drive.entries.get (driveIndex d)).value) rest⟩
  now := (congrArg State.now rest :)
  pending := (congrArg State.pending rest :)
  freeCount := (congrArg State.freeCount rest :)
  checkSum := (congrArg State.checkSum rest :)
  matcher := (congrArg State.matcher rest :)
  programme := (congrArg State.programme rest :)
  panel := (congrArg State.panel rest :)
  starter := (congrArg State.starter rest :)
  holdTime := (congrArg (fun s => s.fire.holdTime) rest :)
  confirmWindow := (congrArg (fun s => s.fire.confirmWindow) rest :)
  refreshPeriod := (congrArg (fun s => s.drive.refreshPeriod) rest :)
  map d := ⟨congrArg (fun s => (s.drive.entries.get (driveIndex d)).station) rest,
    congrArg (fun s => (s.drive.entries.get (driveIndex d)).fn) rest⟩
  address := address
  orders := orders
  loop := loop
  mask := (congrArg (fun s => s.notices.mask) rest :)
  quiet := ⟨(congrArg (fun s => s.notices.quietTimer) rest :), (congrArg (fun s => s.notices.quietTime) rest :)⟩

theorem setFifo (k : House) (s : State) (f : List Waiting) : Local k s (s.setLoop { s.loop with fifo := f }) :=
  of_loop rfl rfl ⟨rfl, rfl⟩ fun _ => rfl

theorem countLoop (k : House) (s : State) (f : LoopCounters → LoopCounters) : Local k s (s.countLoop f) := by
  unfold State.countLoop
  split
  · exact refl k s
  · exact of_loop rfl rfl ⟨rfl, rfl⟩ fun _ => rfl

theorem requestStart (k : House) (s : State) : Local k s s.requestStart := by
  unfold State.requestStart
  split
  · rename_i h
    exact of_loop rfl rfl ⟨rfl, rfl⟩ fun n => absurd h n
  · exact refl k s

theorem makeRoom (k : House) (s : State) : Local k s s.makeRoom := by
  unfold State.makeRoom
  split
  · exact refl k s
  · have a := (setFifo k s (s.loop.fifo.eraseP Waiting.isAnswer)).trans (countLoop k _ fun c => { c with answerDrop := bump c.answerDrop })
    dsimp only
    split
    · exact a.trans (requestStart k _)
    · exact a

theorem enqueue (k : House) (s : State) (w : Waiting) : Local k s (s.enqueue w) := (makeRoom k s).trans (setFifo k _ _)

theorem queueNotice (k : House) (s : State) (c : NoticeContents) : Local k s (s.queueNotice c) := by
  unfold State.queueNotice
  split
  · exact setFifo k s _
  · exact enqueue k s _

/-- The notice unit with another pending set, other causes or another level of the ALERT line. -/
theorem setNotices (k : House) (s : State) (n : NoticeUnit) (mask : n.mask = s.notices.mask) (timer : n.quietTimer = s.notices.quietTimer)
    (time : n.quietTime = s.notices.quietTime) : Local k s (s.setNotices n) :=
  { refl k s with
    house := sameHouse_refl s _
    orders := fun _ => rfl
    mask := mask
    quiet := ⟨timer, time⟩ }

/-- A raise (R175). -/
theorem raise (k : House) (s : State) (e : Event) (c : Cause) (code : Option Code) : Local k s (s.raise e c code) := by
  have a : Local k s (s.setNotices (s.notices.raised e c code)) := setNotices k s _ rfl rfl rfl
  unfold State.raise
  dsimp only
  split
  · exact a
  · exact a.trans (queueNotice k _ _)

theorem clearBit (k : House) (s : State) (e : Event) : Local k s (s.clearBit e) := setNotices k s _ rfl rfl rfl

/-! ### Monitors and lights -/

theorem rejudgeHold (s : State) {h : Head} (e : h.house = k) : Local k s (s.rejudgeHold h) := by
  have a := setMon s { s.mon h with hold := s.holdCondition h } e
  unfold State.rejudgeHold
  dsimp only
  split
  · exact a.trans (raise ..)
  · exact a

theorem rejudgeIdle (s : State) {h : Head} (e : h.house = k) : Local k s (s.rejudgeIdle h) := by
  unfold State.rejudgeIdle
  dsimp only
  split
  · split
    · exact refl k s
    · exact setMon s _ e
  · exact setMon s _ e

theorem assign (s : State) {h : Head} (r : Role) (i : Option Nat) (e : h.house = k) : Local k s (s.assign h r i) :=
  (setSlot s _ e).trans (rejudgeIdle _ e)

theorem setRole (s : State) {h : Head} (r : Role) (e : h.house = k) : Local k s (s.setRole h r) := assign s r _ e

theorem lookupLight (k : House) (s : State) : Local k s (s.lookupLight k) := by
  unfold State.lookupLight
  dsimp only
  split
  · exact refl k s
  · exact (setLight s k _).trans (writeDrive _ _ rfl)

theorem setRequests (k : House) (s : State) (r : Requests) : Local k s (s.setRequests k r) := by
  unfold State.setRequests
  dsimp only
  split
  · exact setLight s k _
  · split
    · exact setLight s k _
    · split
      · exact (setLight s k _).trans (lookupLight k _)
      · exact setLight s k _

theorem placeLight (k : House) (s : State) (x : LightSource) (q : LightReq) : Local k s (s.placeLight k x q) := setRequests k s _

theorem withdrawLight (k : House) (s : State) (x : LightSource) : Local k s (s.withdrawLight k x) := setRequests k s _

theorem fadeStep (k : House) (s : State) : Local k s (s.fadeStep k) := by
  unfold State.fadeStep
  dsimp only
  split
  · exact refl k s
  · split
    · exact (setLight s k _).trans (lookupLight k _)
    · exact refl k s

theorem curveByte (k : House) (s : State) (b : Byte) : Local k s (s.curveByte k b) := by
  unfold State.curveByte
  dsimp only
  split
  · unfold State.commitTriple
    dsimp only
    split
    · exact (setLight s k _).trans (lookupLight k _)
    · exact setLight s k _
  · exact setLight s k _

/-! ### Lamps -/

theorem strikeRequest (s : State) {h : Head} (e : h.house = k) : Local k s (s.strikeRequest h) := by
  unfold State.strikeRequest
  dsimp only
  split
  · exact refl k s
  · split
    · exact ((setLamp s _ e).trans (rejudgeIdle _ e)).trans (raise ..)
    · exact ((writeDrive s _ (by exact e)).trans (setLamp _ _ e)).trans (rejudgeIdle _ e)

theorem normalShutdown (s : State) {h : Head} (e : h.house = k) : Local k s (s.normalShutdown h) := by
  unfold State.normalShutdown
  dsimp only
  split
  · exact refl k s
  · exact ((((writeDrive s _ (by exact e)).trans (setLamp _ _ e)).trans (writeDrive _ _ (by exact e))).trans (writeDrive _ _ (by exact e))).trans (rejudgeIdle _ e)
  · exact (((writeDrive s _ (by exact e)).trans (setLamp _ _ e)).trans (writeDrive _ _ (by exact e))).trans (rejudgeIdle _ e)
  · exact ((((writeDrive s _ (by exact e)).trans (writeDrive _ _ (by exact e))).trans (writeDrive _ _ (by exact e))).trans (setLamp _ _ e)).trans (rejudgeIdle _ e)

theorem overrideShutdown (s : State) {h : Head} (e : h.house = k) : Local k s (s.overrideShutdown h) :=
  ((((setLamp s _ e).trans (writeDrive _ _ (by exact e))).trans (writeDrive _ _ (by exact e))).trans (writeDrive _ _ (by exact e))).trans (rejudgeIdle _ e)

theorem carbonCheckThread (s : State) {h : Head} (n : Nat) (e : h.house = k) : Local k s (s.carbonCheckThread h n) := by
  unfold State.carbonCheckThread
  dsimp only
  split
  · exact (setLamp s _ e).trans (raise ..)
  · exact setLamp s _ e

theorem carbonCheckShow (s : State) {h : Head} (e : h.house = k) : Local k s (s.carbonCheckShow h) := by
  unfold State.carbonCheckShow
  dsimp only
  split
  · exact (setLamp s _ e).trans (raise ..)
  · exact refl k s

/-! ### The engine's parts -/

theorem setClaim (k : House) (s : State) : Local k s (s.setClaim k) := (setEng s k _).trans (placeLight k _ _ _)

theorem withdrawClaim (k : House) (s : State) : Local k s (s.withdrawClaim k) := (setEng s k _).trans (withdrawLight k _ _)

theorem placeCue (k : House) (s : State) : Local k s (s.placeCue k) := by
  unfold State.placeCue
  split
  · exact placeLight k s _ _
  · exact refl k s

theorem tailEnd (s : State) {h : Head} (e : h.house = k) : Local k s (s.tailEnd h) :=
  ((writeDrive s _ (by exact e)).trans (normalShutdown _ e)).trans (assign _ _ _ e)

theorem tailJudge (s : State) {h : Head} (e : h.house = k) : Local k s (s.tailJudge h) := by
  unfold State.tailJudge
  split
  · split
    · exact tailEnd s e
    · exact refl k s
  · exact refl k s

theorem endPicture (s : State) {h : Head} (e : h.house = k) : Local k s (s.endPicture h) :=
  ((writeDrive s _ (by exact e)).trans (writeDrive _ _ (by exact e))).trans (setRole _ _ e)

theorem darken (s : State) {h : Head} (e : h.house = k) : Local k s (s.darken h) := by
  subst e
  exact ((((endPicture s rfl).trans (setEng _ _ _)).trans (raise ..)).trans (setClaim _ _)).trans (tailJudge _ rfl)

theorem endReelInterval (s : State) {h : Head} (e : h.house = k) : Local k s (s.endReelInterval h) := by
  subst e
  exact ((((endPicture s rfl).trans (placeLight _ _ _ _)).trans (setEng _ _ _)).trans (raise ..)).trans (tailJudge _ rfl)

theorem endReelShow (s : State) {h : Head} (e : h.house = k) : Local k s (s.endReelShow h) := by
  subst e
  exact ((((endPicture s rfl).trans (placeLight _ _ _ _)).trans (setEng _ _ _)).trans (raise ..)).trans (tailJudge _ rfl)

theorem showPicture (s : State) {h : Head} (e : h.house = k) : Local k s (s.showPicture h) :=
  (writeDrive s _ (by exact e)).trans (writeDrive _ _ (by exact e))

theorem runupIdle (k : House) (s : State) : Local k s (s.runupIdle k) := setEng s k _

theorem startHeadBase (s : State) {h : Head} (p : Purpose) (e : h.house = k) : Local k s (s.startHeadBase h p) := by
  subst e
  unfold State.startHeadBase
  dsimp only
  split
  · exact ((strikeRequest s rfl).trans (writeDrive _ _ rfl)).trans (setEng _ _ _)
  · exact (((strikeRequest s rfl).trans (writeDrive _ _ rfl)).trans (setRole _ _ rfl)).trans (setEng _ _ _)

/-! ### The engine, to any depth -/

/-- A judgement keeps to the house of its head. -/
def Stays (J : Judge) : Prop := ∀ (h : Head) (s : State), Local h.house s (J h s)

theorem swap {J : Judge} (j : Stays J) (s : State) {h : Head} (e : h.house = k) : Local k s (Machine.swap J h s) := by
  subst e
  have out : h.partner.house = h.house := Head.partner_house h
  have a := ((writeDrive s (d := .douser h.partner) (.douser false) out).trans (showPicture _ rfl)).trans (setRole _ .showing (h := h) rfl)
  unfold Machine.swap
  dsimp only
  split
  · exact ((((((a.trans (setRole _ _ out)).trans (setEng _ _ _)).trans (placeCue _ _)).trans (setEng _ _ _)).trans
      (withdrawClaim _ _)).trans (j _ _)).trans (tailJudge _ out)
  · exact (((((a.trans (setEng _ _ _)).trans (placeCue _ _)).trans (setEng _ _ _)).trans (withdrawClaim _ _)).trans
      (j _ _)).trans (tailJudge _ out)

theorem enterRunning {J : Judge} (j : Stays J) (s : State) {h : Head} (e : h.house = k) : Local k s (Machine.enterRunning J h s) := by
  subst e
  exact ((((((showPicture s rfl).trans (setRole _ _ rfl)).trans (setEng _ _ _)).trans (withdrawClaim _ _)).trans (placeCue _ _)).trans
    (setEng _ _ _)).trans (j _ _)

theorem incomingReady {J : Judge} (j : Stays J) (s : State) {h : Head} (e : h.house = k) : Local k s (Machine.incomingReady J h s) := by
  subst e
  unfold Machine.incomingReady
  dsimp only
  split
  · exact (runupIdle _ s).trans (swap j _ rfl)
  · exact runupIdle _ s

theorem startIncoming {J : Judge} (j : Stays J) (s : State) {h : Head} (e : h.house = k) : Local k s (Machine.startIncoming J h s) := by
  unfold Machine.startIncoming
  dsimp only
  split
  · exact (startHeadBase s _ e).trans (incomingReady j _ e)
  · exact startHeadBase s _ e

theorem outgoing_house (s : State) (k : House) : (s.outgoing k).house = k := House.head_house ..

theorem incoming_house (s : State) (k : House) : (s.incoming k).house = k := (Head.partner_house _).trans (outgoing_house s k)

theorem resumeReady {J : Judge} (j : Stays J) (s : State) {h : Head} (e : h.house = k) : Local k s (Machine.resumeReady J h s) := by
  subst e
  let s1 := ((s.runupIdle h.house).showPicture h).withdrawClaim h.house
  have a1 : Local h.house s s1 := ((runupIdle _ s).trans (showPicture _ rfl)).trans (withdrawClaim _ _)
  have a := (a1.trans (setEng s1 h.house { s1.eng h.house with state := .running })).trans (j h _)
  unfold Machine.resumeReady
  dsimp only
  split
  · exact a.trans (startIncoming j _ (incoming_house _ _))
  · exact a

theorem headReady {J : Judge} (j : Stays J) (s : State) {h : Head} (e : h.house = k) : Local k s (Machine.headReady J h s) := by
  subst e
  unfold Machine.headReady
  dsimp only
  split
  · split
    · exact (runupIdle _ s).trans (enterRunning j _ rfl)
    · exact incomingReady j s rfl
    · exact resumeReady j s rfl
    · exact (setEng s _ _).trans (swap j _ rfl)
    · exact refl _ s
  · split
    · exact (showPicture s rfl).trans (withdrawClaim _ _)
    · split
      · exact swap j s rfl
      · exact refl _ s
    · exact refl _ s

theorem startHead {J : Judge} (j : Stays J) (s : State) {h : Head} (p : Purpose) (e : h.house = k) :
    Local k s (Machine.startHead J h p s) := by
  unfold Machine.startHead
  dsimp only
  split
  · exact (startHeadBase s p e).trans (headReady j _ e)
  · exact startHeadBase s p e

theorem takeMotor {J : Judge} (j : Stays J) (k : House) (s : State) : Local k s (Machine.takeMotor J k s) := by
  unfold Machine.takeMotor
  dsimp only
  split
  · exact (setEng s k _).trans (startIncoming j _ (incoming_house _ _))
  · exact (setEng s k _).trans (raise ..)
  · exact (setEng s k _).trans (raise ..)
  · exact setEng s k _

theorem takeChange {J : Judge} (j : Stays J) (k : House) (s : State) : Local k s (Machine.takeChange J k s) := by
  unfold Machine.takeChange
  dsimp only
  split
  · exact (setEng s k _).trans (swap j _ (incoming_house _ _))
  · exact ((setEng s k _).trans (setEng _ k _)).trans (raise ..)

theorem strikeStep (s : State) (h : Head) : Local h.house s (Machine.strikeStep h s) := by
  unfold Machine.strikeStep
  dsimp only
  split
  · split
    · exact (setEng s _ _).trans (strikeRequest _ (incoming_house _ _))
    · exact (setEng s _ _).trans (raise ..)
    · exact (setEng s _ _).trans (raise ..)
    · exact setEng s _ _
  · exact refl _ s

theorem motorStep {J : Judge} (j : Stays J) (s : State) (h : Head) : Local h.house s (Machine.motorStep J h s) := by
  unfold Machine.motorStep
  dsimp only
  split
  · exact (raise ..).trans (takeMotor j _ _)
  · exact refl _ s

theorem changeStep {J : Judge} (j : Stays J) (s : State) (h : Head) : Local h.house s (Machine.changeStep J h s) := by
  unfold Machine.changeStep
  dsimp only
  split
  · exact (raise ..).trans (takeChange j _ _)
  · exact refl _ s

theorem lastStep (s : State) (h : Head) : Local h.house s (Machine.lastStep h s) := by
  unfold Machine.lastStep
  dsimp only
  split
  · split
    · exact endReelShow s rfl
    · split
      · exact endReelInterval s rfl
      · exact darken s rfl
  · exact refl _ s

theorem judgeStep {f : State → State} (h : Head) (l : ∀ s, Local k s (f s)) (s : State) : Local k s (Machine.judgeStep h f s) := by
  unfold Machine.judgeStep
  split
  · exact l s
  · exact refl _ s

theorem judgeWith {J : Judge} (j : Stays J) : Stays (Machine.judgeWith J) := fun h s =>
  (((judgeStep h (fun s => strikeStep s h) s).trans (judgeStep h (fun s => motorStep j s h) _)).trans
    (judgeStep h (fun s => changeStep j s h) _)).trans (judgeStep h (fun s => lastStep s h) _)

theorem judge : ∀ n, Stays (Machine.judge n)
  | 0 => fun _ s => refl _ s
  | n + 1 => judgeWith (judge n)

theorem judgeFrames : Stays Machine.judgeFrames := judge 4

/-! ### The engine's events and functions -/

theorem frameEvent (s : State) {h : Head} (e : h.house = k) : Local k s (s.frameEvent h) := by
  subst e
  unfold State.frameEvent
  split
  · exact judgeFrames h s
  · exact tailJudge s rfl
  · exact refl _ s

theorem motorCue (s : State) (h : Head) : Local h.house s (s.motorCue h) := by
  unfold State.motorCue
  split
  · exact takeMotor judgeFrames _ s
  · exact setEng s _ _

theorem changeCue (s : State) (h : Head) : Local h.house s (s.changeCue h) := by
  unfold State.changeCue
  split
  · exact takeChange judgeFrames _ s
  · exact setEng s _ _

theorem stopHead (s : State) {h : Head} (e : h.house = k) :
    Local k s ((s.writeDrive (.douser h) (.douser false)).writeDrive (.motor h) (.motor false)) :=
  (writeDrive s _ (by exact e)).trans (writeDrive _ _ (by exact e))

theorem unstart (s : State) {h : Head} (e : h.house = k) :
    Local k s (if s.role h = .starting then s.setRole h .threaded else s) := by
  split
  · exact setRole s _ e
  · exact refl k s

theorem halt (k : House) (s : State) (fromFire : Bool) : Local k s (s.halt k fromFire) := by
  have ha : (k.head .a).house = k := House.head_house ..
  have hb : (k.head .b).house = k := House.head_house ..
  have stop := ((stopHead s ha).trans (stopHead _ hb)).trans (writeDrive _ (d := .sound k) (.sound none) rfl)
  unfold State.halt
  dsimp only
  cases fromFire
  · exact (((((((stop.trans (normalShutdown _ ha)).trans (normalShutdown _ hb)).trans (runupIdle k _)).trans (unstart _ ha)).trans
      (unstart _ hb)).trans (setClaim k _)).trans (setEng _ k _))
  · exact ((((((stop.trans (overrideShutdown _ ha)).trans (overrideShutdown _ hb)).trans (runupIdle k _)).trans (unstart _ ha)).trans
      (unstart _ hb)).trans (setEng _ k _))

theorem motionReport (s : State) {h : Head} (e : h.house = k) : Local k s (s.motionReport h) := by
  subst e
  unfold State.motionReport
  split
  · split
    · exact headReady judgeFrames s rfl
    · exact refl _ s
  · split
    · exact (raise ..).trans (setClaim _ _)
    · exact refl _ s
  · split
    · exact halt _ s false
    · split
      · exact tailEnd s rfl
      · exact refl _ s
  · exact refl _ s

theorem litReport (s : State) {h : Head} (e : h.house = k) : Local k s (s.litReport h) := by
  unfold State.litReport
  split
  · exact headReady judgeFrames s e
  · exact refl k s

theorem lightLost (s : State) {h : Head} (e : h.house = k) : Local k s (s.lightLost h) := by
  subst e
  unfold State.lightLost
  split
  · exact ((writeDrive s (d := .douser h) _ rfl).trans (raise ..)).trans (setClaim h.house _)
  · exact refl _ s

theorem clearHead (s : State) {h : Head} (e : h.house = k) : Local k s (s.clearHead h) := by
  unfold State.clearHead
  split
  · exact refl k s
  · exact (((writeDrive s _ (by exact e)).trans (writeDrive _ _ (by exact e))).trans (normalShutdown _ e)).trans (assign _ _ _ e)

theorem armAccepted (k : House) (s : State) (i : Nat) : Local k s (s.armAccepted k i) := by
  have ha : (k.head .a).house = k := House.head_house ..
  have hb : (k.head .b).house = k := House.head_house ..
  exact (((((clearHead s ha).trans (clearHead _ hb)).trans (writeDrive _ (d := .sound k) _ rfl)).trans (setEng _ k _)).trans
    (withdrawClaim k _)).trans (setEng _ k _)

theorem threadAccepted (s : State) {h : Head} (i : Nat) (e : h.house = k) : Local k s (s.threadAccepted h i) := by
  subst e
  let s1 := (s.assign h .threaded (some i)).resetCounter h
  have a1 : Local h.house s s1 := (assign s .threaded (some i) rfl).trans (setMon _ _ rfl)
  have a := a1.trans (carbonCheckThread s1 (h := h) (s1.programme.record i).last rfl)
  refine a.trans ?_
  unfold State.threadAccepted State.afterThread
  dsimp only
  split
  · split
    · exact startIncoming judgeFrames _ rfl
    · split
      · exact strikeRequest _ rfl
      · exact refl _ _
  · exact refl _ _

/-! ### Motion, samples and fire -/

theorem reportMotion (s : State) {h : Head} (e : h.house = k) : Local k s (s.reportMotion h) :=
  ((rejudgeHold s e).trans (rejudgeIdle _ e)).trans (motionReport _ e)

theorem pulse (s : State) (h : Head) : Local h.house s (s.pulse h) := by
  unfold State.pulse
  dsimp only
  split
  · exact refl _ s
  · unfold State.acceptPulse
    dsimp only
    have a := ((setMon s (h := h) ((s.mon h).accepted s.now) rfl).trans (frameEvent _ (h := h) rfl)).trans (setMon _ (h := h)
      (((s.setMon h ((s.mon h).accepted s.now)).frameEvent h).mon h |>.judgePulse s.now ((s.mon h).pulseInterval s.now)) rfl)
    split
    · exact a
    · exact a.trans (reportMotion _ rfl)

theorem failLamp (s : State) {h : Head} (l : Lamp) (e : h.house = k) : Local k s (s.failLamp h l) :=
  (((setLamp s _ e).trans (writeDrive _ _ (by exact e))).trans (writeDrive _ _ (by exact e))).trans (rejudgeIdle _ e)

theorem carbonEnd (s : State) {h : Head} (b : Bool) (e : h.house = k) : Local k s (s.carbonEnd h b) := by
  have a := (writeDrive s (d := .douser h) (.douser false) e).trans
    (failLamp _ (if b then { s.lamp h with rod := 0 } else s.lamp h) e)
  unfold State.carbonEnd
  dsimp only
  split
  · exact (a.trans (lightLost _ e)).trans (raise ..)
  · exact a.trans (raise ..)

theorem leaveService (s : State) {h : Head} (e : h.house = k) : Local k s (s.leaveService h) := by
  have a := (setMon s (h := h) { (s.mon h).stopped with inService := false, lastPulse := none, idleTimer := none } e).trans (rejudgeHold _ e)
  unfold State.leaveService
  dsimp only
  split
  · exact a.trans (overrideShutdown _ e)
  · exact (a.trans (motionReport _ e)).trans (overrideShutdown _ e)

theorem enterFire (k : House) (s : State) (c : Code) : Local k s (s.enterFire k c) := by
  have ha : (k.head .a).house = k := House.head_house ..
  have hb : (k.head .b).house = k := House.head_house ..
  exact ((((((((((((setFire s k _).trans (rejudgeHold _ ha)).trans (rejudgeHold _ hb)).trans (overrideShutdown _ ha)).trans
    (overrideShutdown _ hb)).trans (writeDrive _ (d := .motor _) _ ha)).trans (writeDrive _ (d := .douser _) _ ha)).trans
    (writeDrive _ (d := .motor _) _ hb)).trans (writeDrive _ (d := .douser _) _ hb)).trans (writeDrive _ (d := .sound k) _ rfl)).trans
    (halt k _ true)).trans (placeLight k _ _ _)).trans (raise ..)

theorem dropHouse (k : House) (s : State) (c : Code) : Local k s (s.dropHouse k c) := by
  unfold State.dropHouse
  split
  · exact refl k s
  · exact enterFire k s c

theorem leaveFire (k : House) (s : State) : Local k s (s.leaveFire k) := by
  have ha : (k.head .a).house = k := House.head_house ..
  have hb : (k.head .b).house = k := House.head_house ..
  unfold State.leaveFire
  dsimp only
  split
  · exact (((((setFire s k _).trans (raise ..)).trans (rejudgeHold _ ha)).trans (rejudgeHold _ hb)).trans (withdrawLight k _ _)).trans
      (clearBit k _ _)
  · exact ((((setFire s k _).trans (rejudgeHold _ ha)).trans (rejudgeHold _ hb)).trans (withdrawLight k _ _)).trans (clearBit k _ _)

theorem judgeAlert (k : House) (s : State) : Local k s (s.judgeAlert k) := by
  unfold State.judgeAlert
  dsimp only
  split
  · exact setFire s k _
  · exact refl k s

theorem houseReport (k : House) (s : State) (src : Byte) (z : Zone) (c : Condition) : Local k s (s.houseReport k src z c) := by
  have j : ∀ (t : State) (before : List Detector), Local k t (t.judgeReport k src z c before) := by
    intro t before
    unfold State.judgeReport
    dsimp only
    split
    · exact dropHouse k t _
    · split
      · exact dropHouse k t _
      · split
        · exact (setFire t k _).trans (raise ..)
        · exact refl k t
    · split
      · exact refl k t
      · exact raise ..
    · exact refl k t
  exact ((setFire s k _).trans (j _ _)).trans (judgeAlert k _)

end State.Local

end Sys2Proof.Machine
end

