-- ==== Sys2Proof/Laws/PerInstr.lean ====
section
/-! SUPPORT. A statement about every command as syntax: the payload of an order's row has a structure that R182 accepts. -/

namespace Sys2Proof.Laws.OrderCode

/-- Every order whose row is the command, its operands well formed, is carried by a payload of an order code and a parameter length
that section 10.7 lists. -/
def Statement (i : Instr) : Prop :=
  ∀ (o : Order) (dt : Nat) (src : Byte), o.row dt src = some i → i.wf = true → badPayload (encodeOrder o) = false

/-- The statement for any command; each constructor's lemma is a case of it. -/
theorem of_row (i : Instr) : Statement i := by
  intro o dt src h w
  cases o with
  | curveData k bs =>
    cases k <;> (simp only [Order.row, Option.some.injEq] at h; subst h; simp [Instr.wf, curveBytesOk] at w) <;>
      (simp [badPayload, encodeOrder, Order.code, Order.params, paramLengths]; omega)
  | trim h n => cases n <;> rfl
  | showFn f t n => cases n <;> rfl
  | bad c => simp [Order.row] at h
  | _ => rfl

theorem telegramComplete (dt : Nat) (f : Frame) :
    Statement (.telegramComplete dt f) := of_row _

theorem lineBreak (dt : Nat) (cause : BreakCause) :
    Statement (.lineBreak dt cause) := of_row _

theorem lengthError (dt : Nat) :
    Statement (.lengthError dt) := of_row _

theorem lengthIdleEnd (dt : Nat) :
    Statement (.lengthIdleEnd dt) := of_row _

theorem searchDwellExpiry (dt : Nat) :
    Statement (.searchDwellExpiry dt) := of_row _

theorem loopGuardExpiry (dt : Nat) :
    Statement (.loopGuardExpiry dt) := of_row _

theorem returnDeadlineExpiry (dt : Nat) :
    Statement (.returnDeadlineExpiry dt) := of_row _

theorem loopOutFree (dt : Nat) :
    Statement (.loopOutFree dt) := of_row _

theorem lastByteSent (dt : Nat) :
    Statement (.lastByteSent dt) := of_row _

theorem writeReact (dt : Nat) (src : Byte) (p : ReactParams) :
    Statement (.writeReact dt src p) := of_row _

theorem lock (dt : Nat) (src : Byte) :
    Statement (.lock dt src) := of_row _

theorem refreshDue (dt : Nat) (d : DriveId) :
    Statement (.refreshDue dt d) := of_row _

theorem writeMap (dt : Nat) (src index station code : Byte) :
    Statement (.writeMap dt src index station code) := of_row _

theorem framePulse (dt : Nat) (h : Head) :
    Statement (.framePulse dt h) := of_row _

theorem slowTimerExpiry (dt : Nat) (h : Head) :
    Statement (.slowTimerExpiry dt h) := of_row _

theorem stopTimerExpiry (dt : Nat) (h : Head) :
    Statement (.stopTimerExpiry dt h) := of_row _

theorem idleTimerExpiry (dt : Nat) (h : Head) :
    Statement (.idleTimerExpiry dt h) := of_row _

theorem strikeTimerExpiry (dt : Nat) (h : Head) :
    Statement (.strikeTimerExpiry dt h) := of_row _

theorem staleTimerExpiry (dt : Nat) (h : Head) :
    Statement (.staleTimerExpiry dt h) := of_row _

theorem writeLamp (dt : Nat) (src head item : Byte) (value : Word) :
    Statement (.writeLamp dt src head item value) := of_row _

theorem trim (dt : Nat) (src head : Byte) (length : Option Word) :
    Statement (.trim dt src head length) := of_row _

theorem writeReel (dt : Nat) (src : Byte) (p : ReelParams) :
    Statement (.writeReel dt src p) := of_row _

theorem splitPoint (dt : Nat) (src s : Byte) :
    Statement (.splitPoint dt src s) := of_row _

theorem showArm (dt : Nat) (src target : Byte) (start : Option Byte) :
    Statement (.showArm dt src target start) := of_row _

theorem showThread (dt : Nat) (src target : Byte) (start : Option Byte) :
    Statement (.showThread dt src target start) := of_row _

theorem runupDeadlineExpiry (dt : Nat) (k : House) :
    Statement (.runupDeadlineExpiry dt k) := of_row _

theorem showStart (dt : Nat) (src target : Byte) (start : Option Byte) :
    Statement (.showStart dt src target start) := of_row _

theorem showHalt (dt : Nat) (src target : Byte) (start : Option Byte) :
    Statement (.showHalt dt src target start) := of_row _

theorem showResume (dt : Nat) (src target : Byte) (start : Option Byte) :
    Statement (.showResume dt src target start) := of_row _

theorem showChange (dt : Nat) (src target : Byte) (start : Option Byte) :
    Statement (.showChange dt src target start) := of_row _

theorem showLightsUp (dt : Nat) (src target : Byte) (start : Option Byte) :
    Statement (.showLightsUp dt src target start) := of_row _

theorem showLightsDown (dt : Nat) (src target : Byte) (start : Option Byte) :
    Statement (.showLightsDown dt src target start) := of_row _

theorem showLightsAuto (dt : Nat) (src target : Byte) (start : Option Byte) :
    Statement (.showLightsAuto dt src target start) := of_row _

theorem showStrike (dt : Nat) (src target : Byte) (start : Option Byte) :
    Statement (.showStrike dt src target start) := of_row _

theorem showFireDrop (dt : Nat) (src target : Byte) (start : Option Byte) :
    Statement (.showFireDrop dt src target start) := of_row _

theorem showFireReset (dt : Nat) (src target : Byte) (start : Option Byte) :
    Statement (.showFireReset dt src target start) := of_row _

theorem showBadFunction (dt : Nat) (src fn target : Byte) (start : Option Byte) :
    Statement (.showBadFunction dt src fn target start) := of_row _

theorem curvePoint (dt : Nat) (src house entry : Byte) :
    Statement (.curvePoint dt src house entry) := of_row _

theorem curveDataHouse1 (dt : Nat) (src : Byte) (bytes : List Byte) :
    Statement (.curveDataHouse1 dt src bytes) := of_row _

theorem curveDataHouse2 (dt : Nat) (src : Byte) (bytes : List Byte) :
    Statement (.curveDataHouse2 dt src bytes) := of_row _

theorem fadeStep (dt : Nat) (k : House) :
    Statement (.fadeStep dt k) := of_row _

theorem linkChange (dt : Nat) (k : House) (opened : Bool) :
    Statement (.linkChange dt k opened) := of_row _

theorem detectorExpiry (dt : Nat) (k : House) (source : Byte) :
    Statement (.detectorExpiry dt k source) := of_row _

theorem panelGuardExpiry (dt : Nat) :
    Statement (.panelGuardExpiry dt) := of_row _

theorem ack (dt : Nat) (src : Byte) (marks : Word) :
    Statement (.ack dt src marks) := of_row _

theorem mask (dt : Nat) (src : Byte) (marks : Word) :
    Statement (.mask dt src marks) := of_row _

theorem endAlert (dt : Nat) (src : Byte) :
    Statement (.endAlert dt src) := of_row _

theorem quietTimerExpiry (dt : Nat) :
    Statement (.quietTimerExpiry dt) := of_row _

theorem leave (dt : Nat) (src : Byte) :
    Statement (.leave dt src) := of_row _

theorem join (dt : Nat) (src : Byte) :
    Statement (.join dt src) := of_row _

theorem unknownOrder (dt : Nat) (src : Byte) (payload : List Byte) :
    Statement (.unknownOrder dt src payload) := of_row _

theorem readReactionEntry (dt : Nat) (src a b page : Byte) :
    Statement (.readReactionEntry dt src a b page) := of_row _

theorem readMapEntry (dt : Nat) (src a b page : Byte) :
    Statement (.readMapEntry dt src a b page) := of_row _

theorem readReelRecord (dt : Nat) (src a b page : Byte) :
    Statement (.readReelRecord dt src a b page) := of_row _

theorem readLampRecord (dt : Nat) (src a b page : Byte) :
    Statement (.readLampRecord dt src a b page) := of_row _

theorem readLampState (dt : Nat) (src a b page : Byte) :
    Statement (.readLampState dt src a b page) := of_row _

theorem readCurveEntry (dt : Nat) (src a b page : Byte) :
    Statement (.readCurveEntry dt src a b page) := of_row _

theorem readSettingsItem (dt : Nat) (src a b page : Byte) :
    Statement (.readSettingsItem dt src a b page) := of_row _

theorem readCounters (dt : Nat) (src a b page : Byte) :
    Statement (.readCounters dt src a b page) := of_row _

theorem readLoopState (dt : Nat) (src a b page : Byte) :
    Statement (.readLoopState dt src a b page) := of_row _

theorem readHouseState (dt : Nat) (src a b page : Byte) :
    Statement (.readHouseState dt src a b page) := of_row _

theorem readHeadMonitor (dt : Nat) (src a b page : Byte) :
    Statement (.readHeadMonitor dt src a b page) := of_row _

theorem readFireState (dt : Nat) (src a b page : Byte) :
    Statement (.readFireState dt src a b page) := of_row _

theorem readNoticeSet (dt : Nat) (src a b page : Byte) :
    Statement (.readNoticeSet dt src a b page) := of_row _

theorem setupLoopGuardTime (dt : Nat) (src index : Byte) (value : Word) :
    Statement (.setupLoopGuardTime dt src index value) := of_row _

theorem setupReturnLimit (dt : Nat) (src index : Byte) (value : Word) :
    Statement (.setupReturnLimit dt src index value) := of_row _

theorem setupRefreshPeriod (dt : Nat) (src index : Byte) (value : Word) :
    Statement (.setupRefreshPeriod dt src index value) := of_row _

theorem setupConsoleAddress (dt : Nat) (src index : Byte) (value : Word) :
    Statement (.setupConsoleAddress dt src index value) := of_row _

theorem setupServiceFlag (dt : Nat) (src index : Byte) (value : Word) :
    Statement (.setupServiceFlag dt src index value) := of_row _

theorem setupNominalRate (dt : Nat) (src index : Byte) (value : Word) :
    Statement (.setupNominalRate dt src index value) := of_row _

theorem setupStopLimit (dt : Nat) (src index : Byte) (value : Word) :
    Statement (.setupStopLimit dt src index value) := of_row _

theorem setupIdleLimit (dt : Nat) (src index : Byte) (value : Word) :
    Statement (.setupIdleLimit dt src index value) := of_row _

theorem setupRunupLimit (dt : Nat) (src index : Byte) (value : Word) :
    Statement (.setupRunupLimit dt src index value) := of_row _

theorem setupStrikeLead (dt : Nat) (src index : Byte) (value : Word) :
    Statement (.setupStrikeLead dt src index value) := of_row _

theorem setupRunout (dt : Nat) (src index : Byte) (value : Word) :
    Statement (.setupRunout dt src index value) := of_row _

theorem setupIdlePosition (dt : Nat) (src index : Byte) (value : Word) :
    Statement (.setupIdlePosition dt src index value) := of_row _

theorem setupFaultPosition (dt : Nat) (src index : Byte) (value : Word) :
    Statement (.setupFaultPosition dt src index value) := of_row _

theorem setupIntervalPosition (dt : Nat) (src index : Byte) (value : Word) :
    Statement (.setupIntervalPosition dt src index value) := of_row _

theorem setupEndPosition (dt : Nat) (src index : Byte) (value : Word) :
    Statement (.setupEndPosition dt src index value) := of_row _

theorem setupFastFadeTime (dt : Nat) (src index : Byte) (value : Word) :
    Statement (.setupFastFadeTime dt src index value) := of_row _

theorem setupDetectorHoldTime (dt : Nat) (src index : Byte) (value : Word) :
    Statement (.setupDetectorHoldTime dt src index value) := of_row _

theorem setupConfirmWindow (dt : Nat) (src index : Byte) (value : Word) :
    Statement (.setupConfirmWindow dt src index value) := of_row _

theorem setupPanelGuardTime (dt : Nat) (src index : Byte) (value : Word) :
    Statement (.setupPanelGuardTime dt src index value) := of_row _

theorem setupQuietTime (dt : Nat) (src index : Byte) (value : Word) :
    Statement (.setupQuietTime dt src index value) := of_row _

theorem setupBadItem (dt : Nat) (src item index : Byte) (value : Word) :
    Statement (.setupBadItem dt src item index value) := of_row _

theorem address (dt : Nat) (src a lockFlag : Byte) :
    Statement (.address dt src a lockFlag) := of_row _

theorem clearCounters (dt : Nat) (src : Byte) :
    Statement (.clearCounters dt src) := of_row _

theorem restart (dt : Nat) (src : Byte) :
    Statement (.restart dt src) := of_row _

theorem supplyFail (dt : Nat) :
    Statement (.supplyFail dt) := of_row _

theorem resetAssert (dt : Nat) :
    Statement (.resetAssert dt) := of_row _

theorem supplyReturn (dt : Nat) (clear : Bool) :
    Statement (.supplyReturn dt clear) := of_row _

theorem resetRelease (dt : Nat) (clear : Bool) :
    Statement (.resetRelease dt clear) := of_row _

end Sys2Proof.Laws.OrderCode
end

