-- ==== Sys2Proof/Laws/Store.lean ====
section
/-! SUPPORT. The retained contents and their check sum (Chapter 11). -/

namespace Sys2Proof.Machine

/-- The check sum is no part of the contents it covers. -/
@[simp] theorem State.retained_withCheckSum (s : State) (w : Word) : ({ s with checkSum := w } : State).retained = s.retained := by
  unfold State.retained; rfl

@[simp] theorem State.sealFrom_retained (s b : State) : (s.sealFrom b).retained = s.retained := by
  unfold State.sealFrom; exact State.retained_withCheckSum _ _

@[simp] theorem State.writeStore_retained (s : State) : s.writeStore.retained = s.retained := by
  unfold State.writeStore; exact State.retained_withCheckSum _ _

/-- A store written afresh verifies. -/
theorem State.writeStore_kept (s : State) : s.writeStore.StoreKept := by
  rw [State.StoreKept, State.writeStore_retained]
  unfold State.writeStore
  with_reducible rfl

/-- The end of an event keeps the sum true of the contents: written when they changed, left alone when they did not. -/
theorem State.sealFrom_kept {s b : State} (h : b.StoreKept) : (s.sealFrom b).StoreKept := by
  rw [State.StoreKept, State.sealFrom_retained]
  by_cases e : s.retained = b.retained
  · simp only [State.sealFrom, if_pos e]
    rw [e]
    exact h
  · simp only [State.sealFrom, if_neg e]

/-- The sum verifies exactly when it is the sum of the contents. -/
theorem State.sumVerifies_iff (s : State) : s.sumVerifies = true ↔ s.StoreKept := by
  unfold State.sumVerifies State.StoreKept
  rw [beq_iff_eq]
  exact eq_comm

end Sys2Proof.Machine
end

