-- ==== Sys2Proof/Tests/Slice0.lean ====
section
/-! SUPPORT. Tests: ill-formed commands that WellFormed refuses, orders read from payloads written out from section 10.7, rows of the
manual's worked sequences, and for every statement with hypotheses a state and operands that meet them. -/

open Sys2Proof Sys2Proof.Machine

namespace Sys2Proof.Tests

set_option Elab.async false

/-! ### Small states -/

/-- The part in HELD with its queues empty. -/
def ring : State :=
  State.reset.setLoop
    { State.reset.loop with state := .held, dwell := none, bypass := false, guard := some 1500, fifo := [] }

/-- The state a command leaves. -/
def after (c : Instr) (s : State) : State :=
  match exec c s with
  | .next t => t
  | .fault _ => s
  | .refused _ => s

/-- The part takes orders from station 1 where the conditions stand as decidable facts. -/
theorem listensOf {s : State} (h : s.starter.stopped = false ∧ s.loop.rx ≠ .ignoring ∧ 1 ≤ s.orders.own.toNat ∧
    s.orders.own.toNat ≤ 30 ∧ (1 : Byte) ≠ s.orders.own ∧ (∀ t ∈ s.loop.transit, t.frame.src ≠ 1) ∧ s.orders.restart = .clear) :
    s.Listens 1 :=
  ⟨h.1, h.2.1, by decide, ⟨h.2.2.1, h.2.2.2.1⟩, ⟨h.2.2.2.2.1, h.2.2.2.2.2.1⟩, h.2.2.2.2.2.2⟩

/-- A good telegram between two other stations. -/
def passing : Frame := Frame.make 5 9 0x40 []

/-- A telegram the part sent. -/
def sent : Frame := Frame.make 7 24 0x30 [1, 0]

/-- House 1 in the state given, its record in hand 0. -/
def houseIn (state : HouseState) (s : State) : State := s.setEng .one { s.eng .one with state := state, cur := 0, highest := 1 }

/-- The lamp of Head 1 in the state given, its accounting at 0. -/
def lampIn (state : LampState) (s : State) : State :=
  s.setLamp .h1 { s.lamp .h1 with state := state, accounted := some 0 }

/-- A record of 1000 frames with its cues at 100 and 900. -/
def reelOn (side : Side) : Reel :=
  { side := side, last := 1000, motorCue := 100, changeCue := 900, window := 10, intervalAfter := false, showEnd := false, light := none }

/-- Records 0 and 1 loaded, one for each head of House 1. -/
def loaded : State :=
  { ring with
    programme := { ring.programme with reels := (ring.programme.reels.set 0 (reelOn .a)).set 1 { reelOn .b with showEnd := true } } }

/-- Head 1 SHOWING record 0 in a RUNNING house, Head 2 STARTING with record 1. -/
def show1 : State :=
  (houseIn .running ((loaded.setSlot .h1 { role := .showing, held := some 0 }).setSlot .h2 { role := .starting, held := some 1 })).setEng
    .one { (houseIn .running loaded).eng .one with motorTaken := true, runup := some { head := .h2, purpose := .incoming, deadline := 10000 } }

/-! ### WellFormed refuses -/

theorem test_wf_length : (Instr.telegramComplete 0 (Frame.make 5 9 0x40 (List.replicate 13 0))).wf = false := by decide

theorem test_wf_source : (Instr.lock 0 0).wf = false ∧ (Instr.lock 0 31).wf = false ∧ (Instr.lock 0 30).wf = true := by decide

theorem test_wf_detector : (Instr.detectorExpiry 0 .one 31).wf = false := by decide

theorem test_wf_curve : (Instr.curveDataHouse1 0 1 []).wf = false ∧ (Instr.curveDataHouse2 0 1 (List.replicate 12 0)).wf = false := by
  decide

theorem test_wf_function : (Instr.showBadFunction 0 1 12 1 none).wf = false ∧ (Instr.showBadFunction 0 1 13 1 none).wf = true := by decide

theorem test_wf_item : (Instr.setupBadItem 0 1 20 0 0).wf = false ∧ (Instr.setupBadItem 0 1 21 0 0).wf = true := by decide

theorem test_wf_payload : (Instr.unknownOrder 0 1 [0x0D]).wf = false ∧ (Instr.unknownOrder 0 1 [0x0D, 0]).wf = true := by decide

/-! ### Payloads written out from section 10.7 -/

theorem test_read_trim : decodeOrder [0x0A, 2, 0x23, 0x28] = .trim 2 (some 9000) := by decide

theorem test_read_reel : decodeOrder [0x04, 1, 0x0A, 0x6A, 0x40, 0x68, 0xB0, 0x69, 0x78, 24, 30, 80] =
    .writeReel ⟨1, 0x0A, 27200, 26800, 27000, 24, 30, 80⟩ := by decide

theorem test_read_show : decodeOrder [0x0E, 1, 2, 32] = .showFn 1 2 (some 32) ∧ decodeOrder [0x0E, 1] = .bad 0x0E := by decide

/-! ### The manual's worked sequences -/

/-- The lamp of section 4.5.1. -/
def worked (a : Int) : Lamp := { Lamp.cold with state := .burning, acc := a }

/-- Section 4.5.1, its four rows. -/
theorem test_regulator : (worked 150).regulate 581 = (171, 148) ∧ (worked 171).regulate 548 = (159, 81) ∧
    (worked 159).regulate 700 = (159, 240) ∧ (worked 159).regulate 300 = (159, 0) := by decide +kernel

/-- Section 4.6.1, the stale expiry at 26250. -/
theorem test_stale : (({ worked 159 with rate := 240, rem := 49000, rod := 4195, accounted := some 23250 } : Lamp).account 26250).rod = 4183 ∧
    (({ worked 159 with rate := 240, rem := 49000, rod := 4195, accounted := some 23250 } : Lamp).account 26250).rem = 49000 := by
  decide +kernel

/-- Section 4.7.1, its first two rows. -/
theorem test_sufficiency : ({ Lamp.cold with rod := 4200 } : Lamp).short 24 28800 = false ∧
    ({ Lamp.cold with rod := 2000 } : Lamp).short 24 28800 = true := by decide +kernel

/-- Section 3.4.1, the pulses at 479.8 and 521.5. -/
theorem test_lock_pulse :
    let s := ring.setMon .h2 { ring.mon .h2 with motion := .runup, streak := 7, counter := 11, lastPulse := some 4798 }
    let m := (after (.framePulse 5215 .h2) s).mon .h2
    m.motion = .locked ∧ m.streak = 8 ∧ m.counter = 12 ∧ m.slowTimer = some 5735 ∧ m.hold = true := by decide +kernel

/-- Section 3.4.1, the bounce at 526.0. -/
theorem test_bounce :
    let s := ring.setMon .h2 { ring.mon .h2 with motion := .locked, streak := 8, counter := 12, lastPulse := some 5215 }
    ((after (.framePulse 5260 .h2) s).mon .h2).counter = 12 := by decide +kernel

/-- Section 10.6, the first two orders. -/
theorem test_curve_load :
    let s := after (.curvePoint 0 1 1 20) ring
    let t := after (.curveDataHouse1 0 1 [70, 60, 30, 74, 63, 33, 78, 66, 36, 82, 69]) s
    (t.light .one).pointer = 23 ∧ (t.light .one).holder = [82, 69] ∧
      (t.light .one).curve.get 22 = { ceiling := 78, wall := 66, aisle := 36 } := by decide +kernel

/-- Section 7.8, the first step: position 251 and lookup 253. -/
theorem test_fade_step :
    let s := ring.setLight .two { ring.light .two with fade := some { p0 := 255, target := 40, n := 50, k := 0, began := 0 } }
    let t := after (.fadeStep 1000 .two) s
    (t.light .two).position = 251 ∧ (t.entry (.dim .two)).value = .dim { ceiling := 253, wall := 253, aisle := 253 } := by decide +kernel

/-- Section 2.1.1, the SENSE telegrams from station 13. -/
theorem test_matching :
    let e1 : ReactEntry := { inUse := true, source := 13, kind := 0x13, selValue := 3, selMask := 0xFF, action := .drop
                             consume := false, protect := true, lockMark := false }
    let e5 : ReactEntry := { e1 with selValue := 0, selMask := 0, action := .sense .z3 }
    let m := { ring.matcher with table := (ring.matcher.table.set 1 e1).set 5 e5 }
    m.taking (Frame.make 31 13 0x13 [3]) = some 1 ∧ m.taking (Frame.make 31 13 0x13 [1]) = some 5 := by decide +kernel

/-- Section 1.6.1, the return of D2 with A1 lost: the list empties and one loss is counted. -/
theorem test_returned :
    let a : Frame := Frame.make 1 24 0x21 [0, 0]
    let s := ring.setLoop { ring.loop with transit := [⟨a, some 1512⟩, ⟨sent, some 1525⟩] }
    let t := after (.telegramComplete 11100 sent) s
    t.loop.transit = [] ∧ t.loop.counters.lost = 1 ∧ t.loop.losses = 0 := by decide +kernel

/-- Section 11.5, the return of SUPPLY: House 2 is found in FIRE with code START, House 1 is IDLE, the start's code is SUPPLY. -/
theorem test_supply_dip :
    let s := State.writeStore (ring.setFire .two { ring.fireOf .two with state := .fire, latch := true, port := false, gate := false })
    let t := after (.supplyReturn 1800 false) (after (.supplyFail 0) s)
    t.starter.stopped = false ∧ (t.eng .one).state = .idle ∧ (t.eng .two).state = .halted ∧ (t.light .two).position = 255 ∧
      t.notices.pending = 0x8002 ∧ (t.notices.causes.get Event.restarted.num).code = some .supply := by decide +kernel

/-- R196, a RESTART in LISTEN with a SUPPLY fall at the same moment: the part stays stopped, and the one start has the code SUPPLY. -/
theorem test_restart_prolonged :
    let s := { (ring.setLoop { ring.loop with state := .listen, latch := true, bypass := true }).writeStore with
               pending := [.supplyFail 0] }
    let t := after (.restart 0 1) s
    t.starter.stopped = true ∧ t.orders.restart = .clear ∧
      ((after (.supplyReturn 50 false) (after (.supplyFail 0) t)).notices.causes.get Event.restarted.num).code = some .supply := by
  decide +kernel

/-- R99, a TAILING head whose index a split at 1 leaves outside its house's region: its frames end no tail. -/
theorem test_tail_outside :
    let s := (houseIn .ended ((loaded.setSlot .h2 { role := .tailing, held := some 1 }).setMon .h2
      { loaded.mon .h2 with counter := 5000 }))
    (s.frameEvent .h2).role .h2 = .empty ∧
      (({ s with programme := { s.programme with split := 1 } } : State).frameEvent .h2).role .h2 = .tailing := by decide +kernel

/-! ### The statements' hypotheses are met -/

/-- The part takes orders from station 1 and events. -/
theorem ring_listens : ring.Listens 1 := listensOf (by decide +kernel)

theorem ring_awake : ring.Awake := ⟨by decide +kernel, by decide +kernel⟩

theorem ring_hears : ring.loop.rx ≠ .ignoring := by decide +kernel

theorem witness_StepTakesFrontOrIdles :
    ({ ring with pending := [.endAlert 0 1] } : State).pending = .endAlert 0 1 :: [] ∧ ring.pending = [] := by decide +kernel

/-- The queues full, LOOP OUT free in HELD: the arbiter has a repeat to send on, an answer behind it. -/
def queued : State :=
  ring.setLoop { ring.loop with repeats := [passing, passing], fifo := [.answer 1 [0x15, 0] false], transit := [⟨sent, some 900⟩] }

theorem witness_ReceptionErrorsDiscard : (ring.Awake ∧ ring.loop.rx ≠ .ignoring) ∧ (queued.Awake ∧ queued.loop.rx ≠ .ignoring) ∧
    (queued.loop.state = .held ∧ queued.loop.leaveAwaiting = false ∧ queued.loop.out = .free ∧ queued.loop.repeats = [passing, passing]) ∧
    12 < (List.replicate 13 (0 : Byte)).length ∧
    (ring.setLoop { ring.loop with rx := .ignoring }).Awake ∧ (ring.setLoop { ring.loop with rx := .ignoring }).loop.rx = .ignoring ∧
    (∀ f ∈ [{ passing with check := 0 }, Frame.make 5 31 0x40 [], Frame.make 0 9 0x40 [], Frame.make 32 9 0x40 []],
      f.payload.length ≤ 12 ∧
        ((f.dst.toNat + f.src.toNat + f.kind.toNat + f.payload.length + (f.payload.map BitVec.toNat).sum + f.check.toNat) % 256 ≠ 0 ∨
          ¬ (1 ≤ f.src.toNat ∧ f.src.toNat ≤ 30) ∨ ¬ (1 ≤ f.dst.toNat ∧ f.dst.toNat ≤ 31))) :=
  ⟨⟨ring_awake, ring_hears⟩, ⟨ring_awake, ring_hears⟩, by decide +kernel, by decide, ring_awake, by decide +kernel⟩

/-- A bad telegram joins no queue: the repeat that waited first goes out, and the next waits on (R7, R22). -/
theorem test_bad_telegram_not_repeated :
    (after (.telegramComplete 0 { passing with check := 0 }) queued).loop.out = .sending (.repeated passing) ∧
    (after (.telegramComplete 0 { passing with check := 0 }) queued).loop.repeats = [passing] ∧
    (after (.telegramComplete 0 { passing with check := 0 }) queued).loop.counters.check = 1 := by decide +kernel

/-- Entry 31 passes every telegram. -/
def passingTable : State :=
  { ring with
    loop := { ring.loop with out := .gap }
    matcher :=
      { ring.matcher with
        table := ring.matcher.table.set 31
          { inUse := true, source := 0, kind := 0, selValue := 0, selMask := 0, action := .pass, consume := true, protect := true
            lockMark := false } } }

theorem witness_GoodTelegramRouted :
    (∀ s ∈ [ring, passingTable, passingTable.setLoop { passingTable.loop with repeats := [passing, passing, passing, passing] }],
      s.starter.stopped = false ∧ s.orders.restart = .clear ∧ s.loop.rx ≠ .ignoring ∧ s.loop.state = .held ∧ passing.src ≠ s.orders.own ∧
        s.loop.transit = [] ∧ passing.dst ≠ s.orders.own) ∧
    (passing.payload.length ≤ 12 ∧ passing.checkOk = true ∧ passing.addressOk = true) ∧
    (ring.matcher.taking passing = none ∧ ring.loop.out = .free ∧ ring.loop.repeats.length < 4) ∧
    (passingTable.matcher.taking passing = some 31 ∧ (passingTable.matcher.table.get 31).consume = true ∧ passingTable.loop.out ≠ .free) ∧
    (let s := (passingTable.setLoop { passingTable.loop with repeats := [passing, passing, passing, passing] })
     let m := { s.matcher with table := s.matcher.table.set 31 { s.matcher.table.get 31 with consume := false } }
     m.taking passing = some 31 ∧ (m.table.get 31).action = .pass ∧ 4 ≤ s.loop.repeats.length) := by decide +kernel

/-- Two telegrams of the part in transit, the older due at 500 ms and the younger at 900 ms. -/
def inTransit : State :=
  ring.setLoop
    { ring.loop with losses := 2, transit := [⟨Frame.make 1 24 0x21 [0, 0], some 500⟩, ⟨sent, some 900⟩] }

theorem witness_StripHandling :
    (inTransit.Awake ∧ inTransit.loop.rx ≠ .ignoring ∧ sent.payload.length ≤ 12 ∧ sent.checkOk = true ∧ sent.addressOk = true ∧
      inTransit.loop.state ≠ .search ∧ (inTransit.loop.transit[1]?).map Transit.frame = some sent ∧
      (∀ j < 1, (inTransit.loop.transit[j]?).map Transit.frame ≠ some sent)) ∧
    (ring.Awake ∧ ring.loop.rx ≠ .ignoring ∧ ring.loop.state ≠ .search ∧ sent.src = ring.orders.own ∧
      (∀ e ∈ ring.loop.transit, e.frame ≠ sent)) ∧
    (queued.Awake ∧ queued.loop.rx ≠ .ignoring ∧ queued.loop.state ≠ .search ∧ queued.loop.repeats ≠ [] ∧
      (queued.loop.transit[0]?).map Transit.frame = some sent) :=
  ⟨⟨ring_awake, by decide +kernel⟩, ⟨ring_awake, by decide +kernel⟩, ring_awake, by decide +kernel⟩

/-- The reset state with its NOTICE sent off. -/
def searching : State := State.reset.setLoop { State.reset.loop with fifo := [] }

theorem witness_SearchTriesRatesAndLocks : searching.Awake ∧ searching.loop.state = .search ∧
    (searching.loop.dwell = some 600 ∧ 600 ≤ (searching.elapse 6000).ms) ∧
    (searching.loop.rx ≠ .ignoring ∧ passing.payload.length ≤ 12 ∧ passing.checkOk = true ∧ passing.addressOk = true ∧
      passing.src ≠ searching.orders.own ∧ searching.loop.transit = [] ∧ passing.dst ≠ searching.orders.own ∧
      searching.matcher.taking passing = none ∧ searching.loop.repeats = [] ∧ searching.loop.out = .free) ∧
    ({ searching with matcher := passingTable.matcher } : State).matcher.taking passing = some 31 ∧
    (let f := Frame.make 24 9 0x40 []
     f.checkOk = true ∧ f.addressOk = true ∧ f.dst = searching.orders.own ∧ f.kind ≠ 0x20) ∧
    (sent.checkOk = true ∧ sent.addressOk = true ∧ sent.src = searching.orders.own ∧ (∀ e ∈ searching.loop.transit, e.frame ≠ sent)) ∧
    (let s := searching.setLoop { searching.loop with transit := inTransit.loop.transit }
     s.Awake ∧ s.loop.state = .search ∧ s.loop.rx ≠ .ignoring ∧ (s.loop.transit[1]?).map Transit.frame = some sent ∧
       ∀ j < 1, (s.loop.transit[j]?).map Transit.frame ≠ some sent) :=
  ⟨ring_awake, by decide +kernel, by decide +kernel, by decide +kernel, by decide +kernel, by decide +kernel, by decide +kernel,
    ring_awake, by decide +kernel⟩

theorem witness_SilenceEntersSearch :
    (ring.Awake ∧ ring.loop.state ≠ .search ∧ ring.loop.guard = some 1500 ∧ 1500 ≤ (ring.elapse 15000).ms) ∧
    (inTransit.Awake ∧ inTransit.loop.state ≠ .search ∧ inTransit.loop.losses ≤ 2 ∧
      inTransit.loop.losses + (inTransit.loop.transit.takeWhile fun e => e.deadline.any fun d => decide (d ≤ (inTransit.elapse 4999).ms)).length < 3 ∧
      3 ≤ inTransit.loop.losses +
        (inTransit.loop.transit.takeWhile fun e => e.deadline.any fun d => decide (d ≤ (inTransit.elapse 5000).ms)).length) :=
  ⟨⟨ring_awake, by decide +kernel⟩, ring_awake, by decide +kernel⟩

theorem witness_LeaveAndJoinMoveLoop : ring.Listens 1 := ring_listens

theorem witness_LastByteEndsSending :
    (ring.setLoop { ring.loop with out := .sending (.repeated passing) }).Awake ∧
    (ring.setLoop { ring.loop with out := .sending (.repeated passing) }).loop.out = .sending (.repeated passing) :=
  ⟨ring_awake, by decide +kernel⟩

/-- LOOP OUT in its gap, one drive entry mapped and one telegram to repeat. -/
def gap (repeats : List Frame) (station : Byte) (fifo : List Waiting) : State :=
  (ring.setLoop { ring.loop with out := .gap, repeats := repeats, fifo := fifo }).setEntry (.motor .h1)
    { ring.entry (.motor .h1) with station := station }

theorem driveIds_all (d : DriveId) : d ∈ driveIds := by
  cases d with
  | motor h => cases h <;> decide
  | douser h => cases h <;> decide
  | lamp h => cases h <;> decide
  | feed h => cases h <;> decide
  | sound k => cases k <;> decide
  | dim k => cases k <;> decide

theorem witness_ArbiterOrder :
    (∀ repeats station fifo, (gap repeats station fifo).Awake) ∧
    ((gap [passing] 7 []).loop.out = .gap ∧ (gap [passing] 7 []).loop.state = .held ∧ (gap [passing] 7 []).loop.leaveAwaiting = false ∧
      (gap [passing] 7 []).loop.repeats = passing :: []) ∧
    ((gap [] 7 []).loop.repeats = [] ∧ (gap [] 7 []).loop.transit.length < 4 ∧ DriveClass.safety.rank ≤ 1 ∧
      (gap [] 7 []).FirstWaiting (.motor .h1) .safety 0) ∧
    ((gap [] 0 [.answer 1 [0x10, 0] false]).loop.fifo = .answer 1 [0x10, 0] false :: [] ∧
      ∀ d cls since, ¬ (gap [] 0 [.answer 1 [0x10, 0] false]).DriveWaits d cls since) := by
  refine ⟨fun _ _ _ => ring_awake, by decide +kernel, ⟨by decide +kernel, by decide +kernel, by decide, ⟨?_, ?_⟩, ?_⟩, by decide +kernel, ?_⟩
  · decide +kernel
  · decide +kernel
  · intro d cls since w
    have only : ∀ d ∈ driveIds, ((gap [] 7 []).entry d).station ≠ 0 → d = .motor .h1 := by decide +kernel
    have held : ((gap [] 7 []).entry (.motor .h1)).dirty = some { cls := .safety, since := 0 } := by decide +kernel
    have hd := only d (driveIds_all d) w.1
    subst hd
    have e := held.symm.trans w.2
    cases e
    exact Or.inr ⟨rfl, Or.inr ⟨rfl, Nat.le_refl _⟩⟩
  · intro d cls since w
    have none : ∀ d ∈ driveIds, ((gap [] 0 [.answer 1 [0x10, 0] false]).entry d).station = 0 := by decide +kernel
    exact w.1 (none d (driveIds_all d))

/-- R38: a DRIVE being sent leaves its entry without a last-sent time, so that no refresh falls due until its last byte. -/
theorem test_sending_has_no_time :
    let s := gap [] 7 []
    let t := after (.loopOutFree 0) (s.setEntry (.motor .h1) { s.entry (.motor .h1) with lastTime := some 0 })
    t.loop.out ≠ .free ∧ (t.entry (.motor .h1)).lastTime = none ∧ after (.refreshDue 50000 (.motor .h1)) t = t.elapse 50000 := by
  decide +kernel

theorem witness_TakingEntryIsFirstMatch :
    (∀ c : Condition, ∃ n ∈ [0, 1, 2, 3], [Condition.normal, .pre, .fire, .fault][n]? = some c) ∧
    ((Frame.make 5 9 0x11 []).payload.length = 0 ∧ (Frame.make 5 9 0x11 [3]).payload.getD 0 0 ≠ 1 ∧
      (Frame.make 5 9 0x11 [1]).payload.getD 0 0 = 1 ∧ (Frame.make 5 9 0x11 [2]).payload.getD 0 0 = 2) ∧
    (256 * (3 : Byte).toNat + (231 : Byte).toNat ≤ 999 ∧ 999 < 256 * (3 : Byte).toNat + (232 : Byte).toNat ∧ (199 : Byte).toNat ≤ 199) ∧
    ring.panel.present = false ∧ ({ ring with panel := { ring.panel with present := true } } : State).panel.present = true := by
  refine ⟨fun c => ?_, by decide +kernel⟩
  cases c <;> decide

theorem witness_WriteReactReplacesEntry : ring.Listens 1 ∧ 32 ≤ (32 : Byte).toNat ∧
    (passingTable.Listens 1 ∧ (31 : Byte).toNat = (31 : Fin 32).val ∧ (passingTable.matcher.table.get 31).lockMark = false ∧
      30 < (31 : Byte).toNat ∧ (30 : Byte).toNat ≤ 30 ∧ actionOf 2 4 = some (.cue .h4) ∧ actionOf 2 5 = none ∧ (7 : Byte).toNat ≤ 7) ∧
    ((({ passingTable with matcher :=
        { passingTable.matcher with
          table := passingTable.matcher.table.map fun e => { e with lockMark := e.protect } } } : State).matcher.table.get 31).lockMark =
      true) ∧
    ((1 : Byte).toNat = Head.h1.num ∧ (4 : Byte).toNat = Head.h4.num ∧ (3 : Byte).toNat = Zone.z3.num ∧ 4 < (5 : Byte).toNat ∧
      (0 : Byte).toNat < 1 ∧ 3 < (4 : Byte).toNat ∧ 5 < (6 : Byte).toNat) :=
  ⟨ring_listens, by decide, ⟨listensOf (by decide +kernel), by decide +kernel⟩, by decide +kernel, by decide⟩

/-- The write lock in force and entry 31 marked, the store sealed. -/
def locked : State :=
  ({ passingTable with matcher :=
      { passingTable.matcher with
        writeLock := true, table := passingTable.matcher.table.map fun e => { e with lockMark := e.protect } } } : State).writeStore

theorem witness_LockHoldsEntries : ring.Listens 1 ∧ (locked.StoreKept ∧ locked.matcher.writeLock = true ∧
    (locked.matcher.table.get 31).lockMark = true ∧ ∃ t, exec (.lock 0 1) locked = .next t) :=
  ⟨ring_listens, State.writeStore_kept _, by decide +kernel, by decide +kernel, ⟨_, rfl⟩⟩

theorem witness_WriteDriveMarksDirty :
    (ring.entry (.motor .h1)).dirty = some { cls := .safety, since := 0 } ∧
    ((ring.setEntry (.feed .h1) { ring.entry (.feed .h1) with dirty := none, lastValue := some (.feed 0) }).entry (.feed .h1)).dirty = none ∧
    ((ring.setEntry (.feed .h1) { ring.entry (.feed .h1) with dirty := none, lastValue := some (.feed 0) }).entry (.feed .h1)).lastValue =
      some (.feed 0) ∧ (some (DriveVal.feed 0) ≠ some (.feed 1)) := by decide +kernel

/-- The motor of Head 1 mapped, clean and last sent at 0. -/
def sentOnce : State :=
  ring.setEntry (.motor .h1) { ring.entry (.motor .h1) with station := 30, dirty := none, lastTime := some 0, lastValue := some (.motor false) }

theorem witness_MapAndRefresh : ring.Listens 1 ∧ 20 ≤ (20 : Byte).toNat ∧ (driveIndex (.dim .two)).val = (19 : Byte).toNat ∧
    30 < (31 : Byte).toNat ∧ (30 : Byte).toNat ≤ 30 ∧
    (sentOnce.Awake ∧ (sentOnce.entry (.motor .h1)).station ≠ 0 ∧ (sentOnce.entry (.motor .h1)).dirty = none ∧
      (sentOnce.entry (.motor .h1)).lastTime = some 0 ∧ sentOnce.drive.refreshPeriod < (sentOnce.elapse 20010).ms - 0) ∧
    ((gap [] 0 []).Awake ∧ ((gap [] 0 []).entry (.motor .h1)).station = 0 ∧ (gap [] 0 []).loop.out ≠ .free) :=
  ⟨ring_listens, by decide, by decide, by decide, by decide, ⟨ring_awake, by decide +kernel⟩, ring_awake, by decide +kernel⟩

/-- Head 1's monitor in a motion state with a streak, its last pulse at 0. -/
def moving (motion : Motion) (streak : Nat) : State :=
  ring.setMon .h1
    { ring.mon .h1 with
      motion := motion, streak := streak, lastPulse := some 0, slowTimer := some 520, stopTimer := some 4000
      hold := decide (motion = .locked) }

theorem witness_FramePulseMovesMonitor :
    (∀ motion streak, (moving motion streak).Awake) ∧
    ((ring.mon .h1).inService = true ∧ (ring.mon .h1).lastPulse = none ∧ (ring.mon .h1).motion = .stopped) ∧
    (((moving .runup 6).mon .h1).lastPulse = some 0 ∧ (moving .runup 6).now + 99 - 0 < 100 ∧ 100 ≤ (moving .runup 6).now + 100 - 0) ∧
    (((moving .slow 6).mon .h1).motion = .slow ∧ ((moving .slow 7).mon .h1).streak + 1 = 8 ∧
      10000 / ((moving .slow 7).mon .h1).fps - 10000 / ((moving .slow 7).mon .h1).fps / 20 ≤ (moving .slow 7).now + 396 ∧
      (moving .slow 7).now + 436 ≤ 10000 / ((moving .slow 7).mon .h1).fps + 10000 / ((moving .slow 7).mon .h1).fps / 20) ∧
    (((moving .locked 8).mon .h1).motion = .locked ∧
      10000 / ((moving .locked 8).mon .h1).fps + 10000 / ((moving .locked 8).mon .h1).fps / 20 < (moving .locked 8).now + 437) :=
  ⟨fun _ _ => ring_awake, by decide +kernel⟩

theorem witness_MotionTimersExpire :
    ((moving .locked 8).Awake ∧ ((moving .locked 8).mon .h1).motion = .locked ∧ ((moving .locked 8).mon .h1).slowTimer = some 520 ∧
      520 ≤ (moving .locked 8).now + 520) ∧
    ((moving .slow 0).Awake ∧ ((moving .slow 0).mon .h1).motion = .slow ∧ ((moving .slow 0).mon .h1).stopTimer = some 4000 ∧
      4000 ≤ (moving .slow 0).now + 4000) ∧
    (((houseIn .running ((moving .slow 0).setSlot .h1 { role := .showing, held := some 0 })).eng .one).state = .running ∧
      (houseIn .running ((moving .slow 0).setSlot .h1 { role := .showing, held := some 0 })).role .h1 = .showing) ∧
    ((moving .slow 0).setSlot .h1 { role := .tailing, held := some 0 }).role .h1 = .tailing ∧ (moving .slow 0).role .h1 = .empty :=
  ⟨⟨ring_awake, by decide +kernel⟩, ⟨ring_awake, by decide +kernel⟩, by decide +kernel⟩

theorem witness_ServiceFlagTakesHead : ring.Listens 1 ∧ headOf 0 = none ∧ headOf 5 = none ∧ headOf 4 = some .h4 ∧ 1 < (2 : Word).toNat ∧
    (1 : Word).toNat = (if (ring.mon .h4).inService then 1 else 0) ∧ ((0 : Word).toNat = 0 ∧ (ring.mon .h4).inService = true) ∧
    (let s := ring.setMon .h4 { ring.mon .h4 with inService := false }
     s.Listens 1 ∧ (s.mon .h4).inService = false ∧ (s.mon .h4).motion = .stopped ∧ (s.mon .h4).hold = false ∧
       (s.mon .h4).idleTimer = none ∧ (s.lamp .h4).state = .dark) :=
  ⟨ring_listens, by decide, by decide, by decide, by decide, by decide +kernel, by decide +kernel, listensOf (by decide +kernel),
    by decide +kernel⟩

/-- The lamp of Head 1 in a state with some rod left, its accounting at 0, a role on its head. -/
def lit (state : LampState) (role : Role) (rod : Nat) : State :=
  let s := (lampIn state loaded).setSlot .h1 { role := role, held := some 0 }
  s.setLamp .h1 { s.lamp .h1 with rod := rod, staleTimer := some 3000 }

theorem witness_RegulatorSetsFeed :
    (-32767 ≤ (worked 159).acc ∧ (worked 159).acc ≤ 32767) ∧
    (∀ state role rod, (lit state role rod).Awake) ∧
    ((lit .burning .threaded 9000).role .h1 ≠ .showing ∧ ((lit .burning .threaded 9000).lamp .h1).state = .burning ∧
      ((lit .burning .threaded 9000).lamp .h1).record.imin ≤ 40 ∧ 39 < ((lit .burning .threaded 9000).lamp .h1).record.imin ∧
      ((lit .burning .threaded 9000).lamp .h1).rem / 60000 < 9000) ∧
    ((lit .dark .empty 9000).lamp .h1).state = .dark ∧
    ((lit .burning .showing 193).role .h1 = .showing ∧ ((lit .burning .showing 193).slot .h1).held = some 0 ∧
      ((lit .burning .showing 193).lamp .h1).carbonLow = false ∧
      193 * 60 / max ((lit .burning .showing 193).lamp .h1).record.base 1 <
        ((loaded.programme.record 0).last - ((lit .burning .showing 193).mon .h1).counter) / ((lit .burning .showing 193).mon .h1).fps +
          ((lit .burning .showing 193).lamp .h1).record.lowMargin ∧
      ¬ 9000 * 60 / max ((lit .burning .showing 193).lamp .h1).record.base 1 <
        (loaded.programme.record 0).last / ((lit .burning .showing 193).mon .h1).fps +
          ((lit .burning .showing 193).lamp .h1).record.lowMargin) ∧
    (((lit .burning .showing 0).lamp .h1).rod ≤ 0 ∧ ((lit .burning .showing 0).lamp .h1).staleTimer = some 3000 ∧
      3000 ≤ ((lit .burning .showing 0).elapse 30000).ms) ∧
    (((lit .striking .threaded 9000).lamp .h1).state = .striking ∧ ((lit .striking .threaded 9000).mon .h1).motion ≠ .locked) ∧
    (let s := (lit .striking .threaded 9000).setMon .h1 { ring.mon .h1 with motion := .locked }
     (s.mon .h1).motion = .locked ∧ (s.lampSample .h1 560 40 false).role .h1 ≠ .showing) ∧
    (∀ rod ∈ [193, 9000],
      let s := lit .striking .showing rod
      s.role .h1 = .showing ∧ (s.lamp .h1).state = .striking ∧ (s.lamp .h1).record.imin ≤ 40 ∧ (s.mon .h1).motion ≠ .locked ∧
        (s.slot .h1).held = some 0 ∧ (s.lamp .h1).carbonLow = false ∧
        (rod * 60 / max (s.lamp .h1).record.base 1 <
            ((s.programme.record 0).last - (s.mon .h1).counter) / (s.mon .h1).fps + (s.lamp .h1).record.lowMargin ↔ rod = 193)) :=
  ⟨by decide, fun _ _ _ => ring_awake, by decide +kernel⟩

theorem witness_StrikeRequestJudged : ring.Listens 1 ∧ headOf 5 = none ∧ headOf 1 = some .h1 ∧
    ((lampIn .striking ring).Listens 1 ∧ ((lampIn .striking ring).lamp .h1).state = .striking) ∧
    ((ring.mon .h1).inService = true ∧ (ring.fireOf Head.h1.house).state ≠ .fire ∧ (ring.lamp .h1).state = .dark ∧ (ring.lamp .h1).rod ≠ 0) ∧
    (ring.setLamp .h1 { ring.lamp .h1 with rod := 0 }).Listens 1 ∧ ((ring.setLamp .h1 { ring.lamp .h1 with rod := 0 }).lamp .h1).rod = 0 :=
  ⟨ring_listens, by decide, by decide, ⟨listensOf (by decide +kernel), by decide +kernel⟩, by decide +kernel, listensOf (by decide +kernel),
    by decide +kernel⟩

theorem witness_LampTimersAct :
    (let s := ring.setLamp .h1 { ring.lamp .h1 with state := .striking, strikeTimer := some 5000 }
     s.Awake ∧ 5000 ≤ (s.elapse 50000).ms ∧ (s.lamp .h1).state = .striking ∧ (s.lamp .h1).strikeTimer = some 5000) ∧
    (let s := (ring.setLamp .h1 { ring.lamp .h1 with state := .burning, accounted := some 0, staleTimer := some 3000 }).setMon .h1
       { ring.mon .h1 with idleTimer := some 3000 }
     s.Awake ∧ 3000 ≤ (s.elapse 30000).ms ∧ (s.lamp .h1).state = .burning ∧ (s.lamp .h1).staleTimer = some 3000 ∧
       ((s.lamp .h1).rem + (s.lamp .h1).rate * ((s.elapse 30000).ms - (s.lamp .h1).accounted.getD (s.elapse 30000).ms)) / 60000 <
         (s.lamp .h1).rod ∧
       (s.mon .h1).idleTimer = some 3000) :=
  ⟨⟨ring_awake, by decide +kernel⟩, ring_awake, by decide +kernel⟩

theorem witness_WriteLampStoresItem : ring.Listens 1 ∧ headOf 0 = none ∧ ¬ (1 ≤ (10 : Byte).toNat ∧ (10 : Byte).toNat ≤ 9) ∧
    headOf 4 = some .h4 ∧ (ring.lamp .h4).state ≠ .burning ∧
    (∀ rod, (ring.setLamp .h1 { ring.lamp .h1 with state := .burning, rate := 200, rod := rod, accounted := some 0 }).Listens 1) ∧
    (∀ rod ∈ [0, 9000],
      let s := ring.setLamp .h1 { ring.lamp .h1 with state := .burning, rate := 200, rod := rod, accounted := some 0 }
      (s.lamp .h1).state = .burning ∧ max 1 (min 511 (199 : Word).toNat) < (s.lamp .h1).rate ∧
        (s.lamp .h1).rod = rod ∧
        ((s.lamp .h1).rem + (s.lamp .h1).rate * ((s.elapse 0).ms - (s.lamp .h1).accounted.getD (s.elapse 0).ms)) / 60000 = 0) :=
  ⟨ring_listens, by decide, by decide, by decide, by decide +kernel,
    fun _ => ⟨ring_listens.awake, ring_listens.hears, ring_listens.station, ring_listens.own, ring_listens.stranger, ring_listens.calm⟩,
    by decide +kernel⟩

theorem witness_TrimSetsRod : ring.Listens 1 ∧ headOf 5 = none ∧ headOf 1 = some .h1 ∧ (ring.lamp .h1).state = .dark ∧
    (lampIn .burning ring).Listens 1 ∧ ((lampIn .burning ring).lamp .h1).state = .burning :=
  ⟨ring_listens, by decide, by decide, by decide +kernel, listensOf (by decide +kernel), by decide +kernel⟩

theorem witness_WriteReelJudgedInOrder : ring.Listens 1 ∧ 64 ≤ (64 : Byte).toNat ∧ (63 : Byte).toNat = (63 : Fin 64).val ∧
    ring.recordInUse 63 = false ∧
    (1000 ≤ (1000 : Word).toNat ∧ (96 : Byte).toNat ≤ 96 ∧ (96 : Byte).toNat ≤ (96 : Word).toNat ∧
      (96 : Word).toNat + 2 * (96 : Byte).toNat < (289 : Word).toNat ∧ (289 : Word).toNat + (96 : Byte).toNat ≤ (1000 : Word).toNat) ∧
    (∀ j : Fin 64, (ring.programme.reels.get j).last = 0) ∧ show1.Listens 1 ∧ show1.recordInUse 0 = true :=
  ⟨ring_listens, by decide, by decide, by decide +kernel, by decide, by decide +kernel, listensOf (by decide +kernel), by decide +kernel⟩

theorem witness_SplitJudgedInOrder : ring.Listens 1 ∧ 1 ≤ ring.programme.split ∧ ring.programme.split ≤ 63 ∧ 63 < (64 : Byte).toNat ∧
    (1 ≤ (63 : Byte).toNat ∧ (63 : Byte).toNat ≤ 63) ∧ ring.matcher.writeLock = false ∧ locked.Listens 1 ∧ locked.matcher.writeLock = true ∧
    ((ring.eng .one).state = .idle ∧ (ring.eng .two).state = .idle) ∧ show1.Listens 1 ∧ (show1.eng .one).state = .running ∧
    (let s : State :=
       { ring with programme := { ring.programme with reels := (ring.programme.reels.set 31 (reelOn .a)).set 32 (reelOn .a) } }
     s.Listens 1 ∧ (s.programme.reels.get 31).last ≠ 0 ∧ (s.programme.reels.get 32).last ≠ 0 ∧
       (s.programme.reels.get 31).side = (s.programme.reels.get 32).side) :=
  ⟨ring_listens, by decide +kernel, by decide +kernel, by decide, by decide, by decide +kernel, listensOf (by decide +kernel),
    by decide +kernel, by decide +kernel, listensOf (by decide +kernel), by decide +kernel, listensOf (by decide +kernel), by decide +kernel⟩

theorem witness_RecordInUseStays : (State.writeStore show1).StoreKept ∧ (State.writeStore show1).recordInUse 0 = true ∧
    ∃ t, exec (.clearCounters 0 1) (State.writeStore show1) = .next t :=
  ⟨State.writeStore_kept _, by decide +kernel, ⟨_, rfl⟩⟩

theorem witness_ArmPreparesHouse : loaded.Listens 1 ∧ houseOf 3 = none ∧ houseOf 1 = some .one ∧ houseOf 2 = some .two ∧
    (0 < loaded.programme.split ∧ ¬ 32 < loaded.programme.split) ∧ (loaded.eng .one).state = .idle ∧ (loaded.fireOf .one).state ≠ .fire ∧
    ((loaded.mon .h1).inService = true ∧ (loaded.mon .h2).inService = true) ∧ (loaded.programme.reels.get 0).last ≠ 0 ∧
    (loaded.programme.reels.get 2).last = 0 ∧ show1.Listens 1 ∧ (show1.eng .one).state = .running :=
  ⟨listensOf (by decide +kernel), by decide, by decide, by decide, by decide +kernel, by decide +kernel, by decide +kernel,
    by decide +kernel, by decide +kernel, by decide +kernel, listensOf (by decide +kernel), by decide +kernel⟩

/-- House 1 ARMED at record 0. -/
def armed : State := loaded.setEng .one { loaded.eng .one with state := .armed, cur := 0, highest := -1 }

/-- A house's incoming head ready: its monitor LOCKED, its lamp BURNING. -/
def readied (h : Head) (s : State) : State :=
  (s.setMon h { s.mon h with motion := .locked }).setLamp h { s.lamp h with state := .burning, accounted := some 0 }

/-- House 1 of `show1` with Head 1 at a frame, the three marks given, and Head 2 in a role. -/
def showAt (n : Nat) (strike motor change : Bool) (role : Role) : State :=
  ((show1.setMon .h1 { show1.mon .h1 with counter := n }).setEng .one
    { show1.eng .one with strikeDone := strike, motorTaken := motor, changeTaken := change }).setSlot .h2
      { role := role, held := some 1 }

theorem show1_facts : show1.starter.stopped = false ∧ show1.loop.rx ≠ .ignoring ∧ 1 ≤ show1.orders.own.toNat ∧
    show1.orders.own.toNat ≤ 30 ∧ (1 : Byte) ≠ show1.orders.own ∧ (∀ t ∈ show1.loop.transit, t.frame.src ≠ 1) ∧
    show1.orders.restart = .clear := by decide +kernel

theorem showAt_swapEnds : ((readied .h2 (showAt 910 true true false .starting)).SwapEnds .h2) :=
  ⟨⟨by decide +kernel, by decide +kernel⟩, fun i h => by
    have e : some 0 = some i := h
    cases e
    decide +kernel⟩

theorem witness_ChangePassesPicture : show1.Listens 1 ∧ houseOf 1 = some .one ∧ Head.h1.house = .one ∧ show1.role .h1 = .showing ∧
    Head.h1.side = (show1.programme.record (show1.eng .one).cur).side ∧
    ((show1.eng .one).state = .running ∧ (show1.programme.record (show1.eng .one).cur).intervalAfter = false ∧
      (show1.programme.record (show1.eng .one).cur).showEnd = false ∧ (show1.eng .one).changeTaken = false ∧
      (show1.eng .one).motorTaken = true ∧ show1.role Head.h1.partner = .starting) ∧
    ¬ (show1.mon .h2).motion = .locked ∧
    (let s := readied .h2 show1
     s.Listens 1 ∧ ((s.mon .h2).motion = .locked ∧ (s.lamp .h2).state = .burning) ∧
       (s.mon .h2).counter < (s.programme.record 1).last ∧ (s.programme.record 1).showEnd = true ∧
       (s.mon .h1).counter < (s.heldReel .h1).last + (s.eng .one).runout) ∧
    (houseIn .armed show1).Listens 1 ∧ ((houseIn .armed show1).eng .one).state ≠ .running ∧
    ((houseIn .running loaded).Listens 1 ∧ ∀ h, (houseIn .running loaded).role h ≠ .showing) ∧
    (∀ n a b c role, (showAt n a b c role).Listens 1 ∧ (readied .h2 (showAt n a b c role)).Listens 1) ∧
    (∀ role, (showAt 0 true true false role).role .h2 = role ∧ ((showAt 0 true true false role).eng .one).motorTaken = true ∧
      ((showAt 0 true false false role).eng .one).motorTaken = false ∧ ((showAt 0 true false false role).eng .one).changePending = false) ∧
    (let s := (readied .h2 (showAt 910 true false false .starting)).motorTaken .h2
     s.role .h2 = .starting ∧ (s.mon .h2).motion = .locked ∧ (s.lamp .h2).state = .burning) ∧
    ((readied .h2 (showAt 910 true false false .starting)).motorTaken .h2).SwapEnds .h2 ∧
    (¬ (1 ≤ (0 : Byte).toNat ∧ (0 : Byte).toNat ≤ 2) ∧ ¬ (1 ≤ (3 : Byte).toNat ∧ (3 : Byte).toNat ≤ 2)) :=
  ⟨listensOf (by decide +kernel), by decide, by decide, by decide +kernel, by decide +kernel, by decide +kernel, by decide +kernel,
    ⟨listensOf (by decide +kernel), by decide +kernel⟩, listensOf (by decide +kernel), by decide +kernel,
    ⟨listensOf (by decide +kernel), fun h => by cases h <;> decide +kernel⟩,
    fun _ _ _ _ _ => ⟨listensOf show1_facts, listensOf show1_facts⟩,
    fun role => ⟨by cases role <;> rfl, by cases role <;> rfl, by cases role <;> rfl, by cases role <;> rfl⟩, by decide +kernel,
    showAt_swapEnds, by decide⟩

theorem witness_ThreadTakesNextRecord : armed.Listens 1 ∧ headOf 5 = none ∧ headOf 1 = some .h1 ∧ headOf 2 = some .h2 ∧
    ((armed.eng .one).state = .armed ∧ (armed.mon .h1).inService = true ∧ armed.role .h1 = .empty) ∧
    (0 = ((armed.eng .one).highest + 1).toNat ∧ armed.programme.inRegion .one 0 = true ∧ (armed.programme.record 0).last ≠ 0 ∧
      (armed.programme.record 0).side = Head.h1.side ∧ (armed.programme.record 0).side ≠ Head.h2.side) ∧
    (armed.setSlot .h1 { role := .threaded, held := some 0 }).role .h1 = .threaded ∧ ring.Listens 1 ∧ (ring.eng .one).state = .idle ∧
    (∀ strike motor, (showAt 0 strike motor false .threaded).Listens 1 ∧
      ((showAt 0 strike motor false .threaded).eng .one).strikeDone = strike ∧
      ((showAt 0 strike motor false .threaded).eng .one).motorTaken = motor) ∧
    (let s := showAt 0 true true false .threaded
     (s.eng .one).state = .running ∧ (s.mon .h2).inService = true ∧ s.role .h2 = .threaded ∧ (s.slot .h2).held = some 1 ∧
       (s.programme.record (s.eng .one).cur).intervalAfter = false ∧ (s.programme.record (s.eng .one).cur).showEnd = false ∧
       Head.h2.side ≠ (s.programme.record (s.eng .one).cur).side) :=
  ⟨listensOf (by decide +kernel), by decide, by decide, by decide, by decide +kernel, by decide +kernel, by decide +kernel, ring_listens,
    by decide +kernel, fun _ _ => ⟨listensOf show1_facts, rfl, rfl⟩, by decide +kernel⟩

/-- House 1 halted in the dark, its change pending, Head 2 THREADED with record 1. -/
def halted (dark : Bool) : State :=
  let s := houseIn .halted (loaded.setSlot .h2 { role := .threaded, held := some 1 })
  s.setEng .one { s.eng .one with dark := dark, changeTaken := true, changePending := true }

theorem witness_StartAndResumeRunUp :
    (let s := armed.setSlot .h1 { role := .threaded, held := some 0 }
     s.Listens 1 ∧ houseOf 1 = some .one ∧ s.role .h1 = .threaded ∧ (s.mon .h1).inService = true ∧ (s.fireOf .one).state ≠ .fire ∧
       (s.lamp .h1).rod ≠ 0 ∧ (s.lamp .h1).state = .dark ∧ (s.eng .one).state = .armed ∧ (s.slot .h1).held = some (s.eng .one).cur ∧
       (s.slot Head.h1.partner).held ≠ (s.slot .h1).held) ∧
    ((ring.eng .one).state ≠ .armed ∧ (ring.eng .one).state ≠ .interval ∧ (ring.eng .one).state ≠ .running ∧ (ring.eng .one).state ≠ .halted) ∧
    (let s := houseIn .halted (loaded.setSlot .h1 { role := .showing, held := some 0 })
     s.Listens 1 ∧ (s.eng .one).state = .halted ∧ s.role .h1 = .showing ∧ s.role Head.h1.partner ≠ .showing ∧ (s.lamp .h1).state = .dark) ∧
    (let s := readied .h1 (armed.setSlot .h1 { role := .threaded, held := some 0 })
     s.Listens 1 ∧ s.role .h1 = .threaded ∧ (s.eng .one).state = .armed ∧ (s.slot .h1).held = some (s.eng .one).cur ∧
       (s.slot Head.h1.partner).held ≠ (s.slot .h1).held ∧ (s.mon .h1).motion = .locked ∧ (s.lamp .h1).state = .burning) ∧
    (let s := showAt 0 true true false .threaded
     s.Listens 1 ∧ (s.eng .one).state = .running ∧ (s.eng .one).motorTaken = true ∧ s.role .h2 = .threaded ∧
       (s.programme.record (s.eng .one).cur).intervalAfter = false ∧ (s.programme.record (s.eng .one).cur).showEnd = false ∧
       Head.h2.side ≠ (s.programme.record (s.eng .one).cur).side ∧ ¬ ((showAt 0 true false false .threaded).eng .one).motorTaken = true) ∧
    ((halted true).Listens 1 ∧ ((halted true).eng .one).state = .halted ∧ ((halted true).fireOf .one).state ≠ .fire ∧
      (∀ h, (halted true).role h ≠ .showing) ∧ ((halted true).eng .one).dark = true ∧ ((halted true).eng .one).changePending = true ∧
      (halted true).role .h2 = .threaded ∧ ((halted false).eng .one).dark = false) :=
  ⟨⟨listensOf (by decide +kernel), by decide, by decide +kernel⟩, by decide +kernel, ⟨listensOf (by decide +kernel), by decide +kernel⟩,
    ⟨listensOf (by decide +kernel), by decide +kernel⟩, ⟨listensOf show1_facts, by decide +kernel⟩, listensOf (by decide +kernel),
    by decide +kernel, by decide +kernel, fun h => (by cases h <;> decide +kernel), by decide +kernel⟩

theorem witness_CuesAndFootageTaken :
    (∀ s ∈ [showAt 909 true true false .starting, showAt 0 false false false .threaded, showAt 110 true false false .threaded,
        readied .h2 (showAt 910 true true false .starting)],
      s.role .h1 = .showing ∧ (s.eng .one).state = .running ∧ Head.h2.house = Head.h1.house ∧
        Head.h2.side ≠ (s.programme.record (s.eng .one).cur).side ∧ (s.eng .one).changePending = false ∧
        (s.programme.record (s.eng .one).cur).motorCue = 100 ∧ (s.programme.record (s.eng .one).cur).changeCue = 900 ∧
        (s.programme.record (s.eng .one).cur).window = 10 ∧ (s.mon .h1).counter < (s.programme.record (s.eng .one).cur).last ∧
        (s.programme.record (s.eng .one).cur).intervalAfter = false ∧ (s.programme.record (s.eng .one).cur).showEnd = false) ∧
    (100 ≤ 0 + ((showAt 0 false false false .threaded).eng .one).strikeLead * ((showAt 0 false false false .threaded).mon .h1).fps) ∧
    (100 + 10 ≤ ((showAt 110 true false false .threaded).mon .h1).counter ∧
      ((showAt 909 true true false .starting).mon .h1).counter < 900 + 10 ∧
      900 + 10 ≤ ((showAt 910 true true false .starting).mon .h1).counter) ∧
    (readied .h2 (showAt 910 true true false .starting)).SwapEnds .h2 ∧
    (let m := { ring.mon .h1 with motion := .locked, lastPulse := some 0, streak := 8 }
     let s := (showAt 100 true false false .threaded).setMon .h1 m
     s.starter.stopped = false ∧ (s.mon .h1).inService = true ∧ (s.mon .h1).lastPulse = some 0 ∧ 100 ≤ s.now + 436 - 0 ∧
       s.now + 436 - 0 ≤ 10000 / (s.mon .h1).fps + 10000 / (s.mon .h1).fps / 20 ∧
       10000 / (s.mon .h1).fps + 10000 / (s.mon .h1).fps / 20 < s.now + 437 - 0 ∧ (s.role .h1 = .showing ∧ (s.eng .one).state = .running)) ∧
    (ring.Awake ∧ (ring.mon .h1).inService = true ∧ (ring.mon .h1).motion = .stopped ∧ (ring.mon .h1).hold = false ∧
      (ring.mon .h1).lastPulse = none) :=
  ⟨by decide +kernel, by decide +kernel, by decide +kernel, showAt_swapEnds, by decide +kernel, ring_awake, by decide +kernel⟩

/-- Head 2 of House 1 ready in a run-up. -/
def runningUp (state : HouseState) (p : Purpose) (role : Role) (s : State) : State :=
  let r := readied .h2 (s.setSlot .h2 { role := role, held := some 1 })
  r.setEng .one { r.eng .one with state := state, runup := some { head := .h2, purpose := p, deadline := 10000 } }

theorem witness_ReadyHeadsAct :
    (∀ s ∈ [runningUp .armed .start .starting loaded, runningUp .running .incoming .starting show1,
        runningUp .halted .resume .starting loaded, runningUp .halted .resume .showing loaded],
      (s.mon .h2).motion = .locked ∧ (s.lamp .h2).state = .burning ∧ (s.eng .one).runup.map Runup.head = some .h2 ∧
        (s.slot .h2).held = some 1) ∧
    (readied .h2 (showAt 910 true true false .starting)).SwapEnds .h2 ∧
    (((readied .h1 show1).mon .h1).motion = .locked ∧ ((readied .h1 show1).lamp .h1).state = .burning ∧
      ((readied .h1 show1).eng .one).runup.map Runup.head ≠ some .h1 ∧ (readied .h1 show1).role .h1 = .showing) ∧
    ((lampIn .burning ring).mon .h1).motion ≠ .locked ∧
    ((moving .runup 7).Awake ∧ ((moving .runup 7).mon .h1).inService = true ∧ ((moving .runup 7).fireOf .one).gate = true ∧
      100 ≤ (moving .runup 7).now + 396 ∧ 10000 / ((moving .runup 7).mon .h1).fps - 10000 / ((moving .runup 7).mon .h1).fps / 20 = 396) :=
  ⟨by decide +kernel, showAt_swapEnds, by decide +kernel, by decide +kernel, ring_awake, by decide +kernel⟩

/-- Head 1 SHOWING a last reel of its house at a frame. -/
def lastReel (interval showEnd : Bool) (n : Nat) : State :=
  let s := showAt n true true true .empty
  { s with
    programme := { s.programme with reels := s.programme.reels.set 0 { reelOn .a with intervalAfter := interval, showEnd := showEnd } } }

theorem witness_LastFrameEndsReel :
    (∀ s ∈ [lastReel false false 1000, lastReel true false 1000, lastReel false true 1000],
      s.orders.restart = .clear ∧ s.role .h1 = .showing ∧ (s.eng .one).state = .running ∧
        (s.programme.record (s.eng .one).cur).last ≤ (s.mon .h1).counter ∧ (s.eng .one).strikeDone = true ∧
        (s.eng .one).motorTaken = true ∧ (s.eng .one).changeTaken = true) ∧
    (∀ n ∈ [1191, 1192],
      let s := (loaded.setSlot .h1 { role := .tailing, held := some 0 }).setMon .h1 { loaded.mon .h1 with counter := n }
      s.role .h1 = .tailing ∧ (s.slot .h1).held = some 0 ∧ s.programme.owner 0 = .one ∧
        (n < (s.programme.reels.get 0).last + (s.eng .one).runout ↔ n = 1191)) := by decide +kernel

theorem witness_HaltAndRunupDeadline : show1.Listens 1 ∧ houseOf 1 = some .one ∧ (show1.eng .one).state = .running ∧ houseOf 0 = none ∧
    (ring.eng .one).state = .idle ∧
    (show1.Awake ∧ (show1.eng .one).runup = some { head := .h2, purpose := .incoming, deadline := 10000 } ∧ Head.h2.house = .one ∧
      10000 ≤ (show1.elapse 100000).ms ∧ (show1.elapse 99999).ms < 10000) :=
  ⟨listensOf (by decide +kernel), by decide, by decide +kernel, by decide, by decide +kernel, ring_awake, by decide +kernel⟩

theorem witness_EffectiveRequestMovesLights :
    let old := (ring.light .one).requests
    let put := fun (position fade : Nat) => { old with operator := some { position := position, fade := fade } }
    old.effective.1 = old.effective.1 ∧ (put 255 0).effective.1 ≠ old.effective.1 ∧
      (put 255 0).effective.2.position = (ring.light .one).position ∧
      ((put 0 0).effective.2.position ≠ (ring.light .one).position ∧ (put 0 0).effective.2.fade = 0) ∧
      ((put 0 20).effective.2.position ≠ (ring.light .one).position ∧ (put 0 20).effective.2.fade ≠ 0) := by decide +kernel

/-- House 1's lights in the last step of a fade. -/
def fading : State := ring.setLight .one { ring.light .one with fade := some { p0 := 255, target := 40, n := 50, k := 49, began := 0 } }

theorem witness_LightFunctionsAndFade : ring.Listens 1 ∧ houseOf 1 = some .one ∧ fading.Awake ∧
    (fading.light .one).fade = some { p0 := 255, target := 40, n := 50, k := 49, began := 0 } ∧ 49 < 50 ∧
    0 + (49 + 1) * 100 ≤ (fading.elapse 50000).ms :=
  ⟨ring_listens, by decide, ring_awake, by decide +kernel, by decide, by decide +kernel⟩

theorem witness_CurveLoadsTriples : ring.Listens 1 ∧ houseOf 3 = none ∧ 64 ≤ (64 : Byte).toNat ∧ houseOf 2 = some .two ∧
    (63 : Byte).toNat = (63 : Fin 64).val ∧ fading.Listens 1 ∧ (fading.light .one).holder = [] ∧ (fading.light .one).fade ≠ none ∧
    ((62 : Fin 64).val = 251 / 4 ∧ (63 : Fin 64).val = min (251 / 4 + 1) 63 ∧ (63 : Fin 64).val = min (255 / 4 + 1) 63) ∧
    (1 ≤ [(1 : Byte)].length ∧ (List.replicate 11 (1 : Byte)).length ≤ 11 ∧ (ring.light .one).holder.length ≤ 2) ∧
    (let l := { ring.light .one with holder := [1, 2], pointer := (63 : Fin 64) }
     let next := { l with curve := l.curve.set l.pointer { ceiling := 1, wall := 2, aisle := 3 } }
     l.fade = none ∧ l.pointer.val = min (l.position / 4) 63 ∧ next.lookup l.position ≠ l.lastTriple) :=
  ⟨ring_listens, by decide, by decide, by decide, by decide, listensOf (by decide +kernel), by decide +kernel, by decide +kernel, by decide,
    by decide +kernel, by decide +kernel⟩

/-- House 1 dropped by a fire that has passed. -/
def dropped : State :=
  after (.showFireDrop 0 1 1 none) (moving .locked 8)

theorem dropped_fire : (dropped.fireOf .one).state = .fire ∧ (dropped.fireOf .one).linkOpen = false ∧
    (dropped.fireOf .one).detectors = [] := by decide +kernel

theorem witness_FireDropsHouse : ring.Awake ∧ (ring.fireOf .one).linkOpen = false ∧ (ring.fireOf .one).state ≠ .fire ∧
    (ring.light .one).requests.fire = none ∧ ring.Listens 1 ∧ houseOf 0 = none ∧ houseOf 1 = some .one ∧ dropped.Awake ∧
    dropped.Listens 1 ∧ (dropped.fireOf .one).linkOpen = false ∧ (dropped.fireOf .one).state = .fire ∧
    (∀ d ∈ (dropped.fireOf .one).detectors, d.condition ≠ .fire) :=
  ⟨ring_awake, by decide +kernel, by decide +kernel, by decide +kernel, ring_listens, by decide, by decide, ⟨by decide +kernel, by decide +kernel⟩,
    listensOf (by decide +kernel), dropped_fire.2.1, dropped_fire.1, by rw [dropped_fire.2.2]; exact fun _ h => nomatch h⟩

/-- A detector entry of House 1 with a condition, heard at 0. -/
def heardFrom (source : Byte) (c : Condition) : Detector :=
  { source := source, zone := .z3, condition := c, lastHeard := 0, preSince := if c = .pre then some 0 else none, deadline := 10000 }

/-- House 1 in a fire state with its detector list. -/
def sensed (state : FireState) (list : List Detector) : State :=
  ring.setFire .one { ring.fireOf .one with state := state, detectors := list }

theorem witness_DetectorEntriesJudged :
    (ring.orders.restart = .clear ∧ (ring.fireOf .one).state = .clear ∧ (ring.light .one).requests.fire = none ∧
      (ring.fireOf .one).detectors = []) ∧
    (((sensed .alert [heardFrom 12 .pre, heardFrom 13 .fault]).fireOf .one).detectors = [] ++ heardFrom 12 .pre :: [heardFrom 13 .fault] ∧
      (∀ d ∈ ([] : List Detector) ++ [heardFrom 13 .fault], d.source ≠ 12)) ∧
    (∀ d ∈ ((sensed .alert [heardFrom 12 .pre]).fireOf .one).detectors, d.source ≠ 14) ∧
    (let full := [heardFrom 12 .pre, heardFrom 13 .fault, heardFrom 14 .pre, heardFrom 15 .fault]
     4 ≤ ((sensed .alert full).fireOf .one).detectors.length ∧ ∀ d ∈ full, d.source ≠ 16) ∧
    ((heardFrom 12 .pre).condition = .pre ∧ (heardFrom 12 .pre).preSince = some 0 ∧ 30000 - 0 ≤ ring.fire.confirmWindow * 1000 ∧
      ¬ 30001 - 0 ≤ ring.fire.confirmWindow * 1000) ∧
    (let s := sensed .alert [heardFrom 12 .pre]
     s.Awake ∧ (∃ d ∈ (s.fireOf .one).detectors, d.source = 12 ∧ d.deadline ≤ (s.elapse 100000).ms) ∧
       (∀ d ∈ (s.fireOf .one).detectors, d.source = 12 → (s.elapse 99999).ms < d.deadline)) :=
  ⟨by decide +kernel, by decide +kernel, by decide +kernel, by decide +kernel, by decide +kernel, ring_awake, by decide +kernel⟩

theorem witness_RaiseRecordsEvent : ring.loop.fifo.length < 4 ∧
    (let a := Waiting.answer 1 [0x15, 0] true
     let b := Waiting.answer 1 [0x10, 0] false
     (∀ w ∈ [b, b, b], w.isNotice = false) ∧ [a, b, b, b].length = 4 ∧ (∀ w ∈ [a] ++ [b, b], w.isNotice = false)) ∧
    ({ ring with notices := { ring.notices with mask := 0x2000 } } : State).notices.mask.getLsbD Event.loop.num = true ∧
    ring.notices.pending.getLsbD Event.restarted.num = true ∧
    (ring.notices.pending.getLsbD Event.loop.num = false ∧ ring.notices.mask.getLsbD Event.loop.num = false ∧
      (∀ w ∈ ring.loop.fifo, w.isNotice = false)) ∧
    State.reset.loop.fifo = [] ++ .notice { pending := 0x8000, event := .restarted, cause := .none, code := some .cold, count := 1 } :: [] := by
  decide +kernel

/-- A raise with four waiting: a new NOTICE drops the oldest ANSWER, a waiting one keeps its place (R21, R175). -/
theorem test_raise_full :
    let b := Waiting.answer 1 [0x10, 0] false
    let old := Waiting.notice { pending := 0x8000, event := .restarted, cause := .none, code := some .cold, count := 1 }
    (((ring.setLoop { ring.loop with fifo := [b, b, b, b] }).raise .loop .none (some .clash)).loop.fifo.map Waiting.isNotice =
        [false, false, false, true]) ∧
    (((ring.setLoop { ring.loop with fifo := [b, old, b, b] }).raise .loop .none (some .clash)).loop.fifo =
        [b, .notice { pending := 0xA000, event := .loop, cause := .none, code := some .clash, count := 1 }, b, b]) := by
  decide +kernel

theorem witness_NoticeOrdersAndTimers : ring.Listens 1 ∧
    (let s : State := { ring with panel := { ring.panel with present := true, guard := some 2000 } }
     s.Awake ∧ 2000 ≤ (s.elapse 20000).ms ∧ s.panel.present = true ∧ s.panel.guard = some 2000) ∧
    (let s : State := { ring with notices := { ring.notices with quietTimer := some 1000 } }
     s.Awake ∧ 1000 ≤ (s.elapse 10000).ms ∧ s.notices.quietTimer = some 1000) :=
  ⟨ring_listens, ⟨ring_awake, by decide +kernel⟩, ring_awake, by decide +kernel⟩

theorem witness_ReadAnswersPages : ring.Listens 1 ∧ toIndex 32 32 = none ∧ (0 : Byte).toNat = 0 ∧
    (((toIndex 32 31).map (ring.heard 0).reactionPages).any fun ps => (ps[0]?).isSome && decide (ps.length < 255)) = true ∧
    ((headOf 4).map (ring.heard 0).lampRecordPages).any (fun ps => decide (1 < ps.length)) = true ∧
    (houseOf 2 = some .two ∧ (63 : Byte).toNat = (63 : Fin 64).val ∧ houseOf 0 = none ∧ 64 ≤ (64 : Byte).toNat) ∧
    (ring.entry (.motor .h1)).dirty = some { cls := .safety, since := 0 } ∧ (sentOnce.entry (.motor .h1)).dirty = none ∧
    (ring.entry (.feed .h1)).value = .feed 0 ∧ (Head.h1.house = .one ∧ Head.h1.side = .a ∧ Head.h2.house = .one ∧ Head.h2.side = .b) ∧
    (headOf 1 = some .h1 ∧ headOf 5 = none ∧ (45 : Byte).toNat ≤ 45 ∧ 45 < (46 : Byte).toNat ∧ 24 < (25 : Byte).toNat) ∧
    (0 : Byte).toNat < 1 ∧ 13 < (14 : Byte).toNat :=
  ⟨ring_listens, by decide, by decide, by decide +kernel, by decide +kernel, by decide, by decide +kernel, by decide +kernel,
    by decide +kernel, by decide, by decide, by decide⟩

theorem witness_SetupStoresTuningValue : ring.Listens 1 ∧ headOf 4 = some .h4 ∧ headOf 5 = none ∧ houseOf 2 = some .two ∧ houseOf 3 = none ∧
    ring.matcher.writeLock = false ∧ locked.Listens 1 ∧ locked.matcher.writeLock = true :=
  ⟨ring_listens, by decide, by decide, by decide, by decide, by decide +kernel, listensOf (by decide +kernel), by decide +kernel⟩

theorem witness_StructuralValuesRefused : ring.Listens 1 ∧ (1 ≤ (30 : Word).toNat ∧ (30 : Word).toNat ≤ 30) ∧ 30 < (31 : Word).toNat ∧
    20 < (21 : Byte).toNat ∧ 12 < (13 : Byte).toNat ∧ badPayload [] = true ∧ badPayload [0x16] = true :=
  ⟨ring_listens, by decide, by decide, by decide, by decide, by decide, by decide⟩

theorem witness_RefusedOrderChangesNothing : 2 ≤ (judgeOrder (.splitPoint 64) ring).2.result.code.toNat ∧
    2 ≤ (judgeOrder (.showFn 4 1 none) ring).2.result.code.toNat := by decide +kernel

theorem witness_AddressMovesOwnAddress : ring.Listens 1 ∧ ring.orders.addressLock = false ∧
    ({ ring with orders := { ring.orders with addressLock := true } } : State).Listens 1 :=
  ⟨ring_listens, by decide +kernel, listensOf (by decide +kernel)⟩

theorem witness_ClearCountersZeroesAll : ring.Listens 1 ∧ ring.loop.fifo.length < 4 := ⟨ring_listens, by decide +kernel⟩

theorem witness_OrderCodingRoundTrip : (∀ c, Order.trim 2 (some 9000) ≠ .bad c) ∧ (∀ k bs, Order.trim 2 (some 9000) ≠ .curveData k bs) ∧
    (1 ≤ [(1 : Byte)].length ∧ (List.replicate 11 (1 : Byte)).length ≤ 11) ∧ (∀ c, decodeOrder [0x0A, 2, 0x23, 0x28] ≠ .bad c) ∧
    (Order.trim 2 none).row 0 1 = some (.trim 0 1 2 none) ∧ (Order.curveData .two [1]).row 0 1 = some (.curveDataHouse2 0 1 [1]) :=
  ⟨fun _ h => (by cases h), fun _ _ h => (by cases h), by decide, fun c h => (by rw [test_read_trim] at h; cases h), by decide, by decide⟩

theorem unkept : ¬ (after (.supplyFail 0) { ring with checkSum := 0 }).StoreKept := by
  unfold State.StoreKept
  decide +kernel

theorem witness_StopTakesNoEvent : (ring.starter.stopped = false ∧ (after (.supplyFail 0) ring).starter.stopped = true ∧
      (∃ t, exec (.endAlert 0 1) (after (.supplyFail 0) ring) = .next t) ∧
      ∃ t, exec (.linkChange 0 .one true) (after (.supplyFail 0) ring) = .next t) ∧
    (let s := (after (.supplyFail 0) ring).writeStore
     s.starter.stopped = true ∧ s.StoreKept ∧ s.starter.reset = false ∧ s.starter.supply = false) ∧
    (let s := (after (.resetAssert 0) ring).writeStore
     s.starter.stopped = true ∧ s.StoreKept ∧ s.starter.supply = true ∧ s.starter.reset = true) ∧
    (let s := after (.supplyFail 0) { ring with checkSum := 0 }
     s.starter.stopped = true ∧ ¬ s.StoreKept ∧ s.starter.reset = false) :=
  ⟨⟨by decide +kernel, by decide +kernel, ⟨_, rfl⟩, ⟨_, rfl⟩⟩, ⟨by decide +kernel, State.writeStore_kept _, by decide +kernel⟩,
    ⟨by decide +kernel, State.writeStore_kept _, by decide +kernel⟩, by decide +kernel, unkept, by decide +kernel⟩

/-- The part in LISTEN with a SUPPLY fall next at the same moment. -/
def falling (s : State) : State := { s.writeStore with pending := [.supplyFail 0] }

/-- The part in HELD with a restart awaited: what LOOP OUT sends, and the answer/notice FIFO. -/
def awaiting (out : LoopOut) (fifo : List Waiting) : State :=
  ((ring.setRestart .waiting).setLoop
    { ring.loop with out := out, fifo := fifo, losses := 2, transit := [⟨sent, some 0⟩], leaveAwaiting := true }).writeStore

theorem awaiting_listens (out : LoopOut) (fifo : List Waiting) : ((awaiting out fifo).setRestart .clear).Listens 1 :=
  have h : ((awaiting .free []).setRestart .clear).Listens 1 := listensOf (by decide +kernel)
  ⟨h.awake, h.hears, h.station, h.own, h.stranger, h.calm⟩

theorem witness_RestartWaitsForAnswer :
    (ring.writeStore.StoreKept ∧ ring.writeStore.Listens 1 ∧ (ring.writeStore.heard 0).loop.state = .held) ∧
    (let s := (ring.setLoop { ring.loop with state := .listen, latch := true, bypass := true }).writeStore
     s.StoreKept ∧ s.Listens 1 ∧ (s.heard 0).loop.state = .listen ∧ s.StartsAlone) ∧
    (let s := falling (ring.setLoop { ring.loop with state := .listen, latch := true, bypass := true })
     s.StoreKept ∧ ¬ s.StartsAlone ∧ s.Listens 1 ∧ (s.heard 0).loop.state = .listen) ∧
    (let x := Sending.answer (Frame.make 1 24 0x21 [0x15, 0]) true
     let s := awaiting (.sending x) []
     s.StoreKept ∧ s.StartsAlone ∧ ¬ (falling s).StartsAlone ∧ s.starter.stopped = false ∧ s.orders.restart = .waiting ∧
       s.loop.out = .sending x ∧ s.loop.leaveAwaiting = true ∧ s.loop.state ≠ .search ∧ s.loop.guard = some 1500 ∧
       1500 ≤ (s.elapse 15000).ms ∧ s.loop.losses ≤ 2 ∧
       3 ≤ s.loop.losses + (s.loop.transit.takeWhile fun e => e.deadline.any fun d => decide (d ≤ (s.elapse 0).ms)).length) ∧
    (let a := Waiting.answer 1 [0x15, 0] true
     let b := Waiting.answer 1 [0x10, 0] false
     (∀ fifo ∈ [[a], [a, b, b, b], [b, a, b, b]],
       let s := awaiting .free fifo
       s.StoreKept ∧ s.orders.restart = .waiting ∧ (s.setRestart .clear).Listens 1 ∧ s.loop.fifo = fifo ∧ (s.heard 0).loop.state = .held) ∧
     (∀ fifo ∈ [[a], [a, b, b, b], [b, a, b, b]],
       let u := (judgeOrder .endAlert ((awaiting .free fifo).heard 0)).1
       u.orders.restart = .waiting ∧ u.loop.fifo = fifo) ∧
     (let u := (judgeOrder .leave ((awaiting .free [a]).heard 0)).1
      u.orders.restart = .requested ∧ Order.leave.row 0 1 = some (.leave 0 1)) ∧
     ((∃ t, exec (.endAlert 0 1) (awaiting .free [a]) = .next t) ∧
       (∃ t, exec (.endAlert 0 1) ((awaiting .free [a]).setRestart .clear) = .next t) ∧
       (after (.endAlert 0 1) (awaiting .free [a])).orders.restart = .waiting) ∧
     [a, b, b, b] = [] ++ a :: [b, b, b] ∧ [b, a, b, b] = [] ++ b :: [a, b, b]) ∧
    (badPayload [0x15, 1] = true ∧ Order.endAlert.row 0 1 = some (.endAlert 0 1)) ∧
    (ring.writeStore.StoreKept ∧ (ring.writeStore.setRestart .requested).orders.restart = .requested ∧
      (ring.writeStore.setRestart .requested).StartsAlone ∧ ¬ (falling ring).StartsAlone) ∧
    (let a := Waiting.answer 1 [0x10, 0] false
     let n := Waiting.notice { pending := 0x8000, event := .restarted, cause := .none, code := some .cold, count := 1 }
     [n, a, a, a].length = 4 ∧ [n, a, a, a] = [n] ++ a :: [a, a] ∧ (∀ x ∈ [n], x.isNotice = true) ∧
       [a, a, a, a].any Waiting.isNotice = false ∧ [n, a, a, a].any Waiting.isNotice = true) :=
  ⟨⟨State.writeStore_kept _, listensOf (by decide +kernel), by decide +kernel⟩,
    ⟨State.writeStore_kept _, listensOf (by decide +kernel), by decide +kernel, fun _ => ⟨nofun, nofun⟩⟩,
    ⟨State.writeStore_kept _, fun h => (h []).1 rfl, listensOf (by decide +kernel), by decide +kernel⟩,
    ⟨State.writeStore_kept _, fun _ => ⟨nofun, nofun⟩, fun h => (h []).1 rfl, by decide +kernel⟩,
    ⟨fun _ _ => ⟨State.writeStore_kept _, rfl, awaiting_listens _ _, rfl, rfl⟩, by decide +kernel, by decide +kernel,
      ⟨⟨_, rfl⟩, ⟨_, rfl⟩, by decide +kernel⟩, rfl, rfl⟩,
    by decide, ⟨State.writeStore_kept _, rfl, fun _ => ⟨nofun, nofun⟩, fun h => (h []).1 rfl⟩, by decide +kernel⟩

/-- The state of the conditions' witnesses: a command waits. -/
def waiting : State := ring.writeStore

theorem waiting_steps : ∃ t, step { waiting with pending := [.endAlert 0 1] } = .next t := ⟨_, rfl⟩

theorem witness_LinesStayTrue : waiting.LinesTrue where
  shut h := by cases h <;> decide +kernel
  arc h := by cases h <;> decide +kernel
  port k := by cases k <;> decide +kernel
  gate k := by cases k <;> decide +kernel
  alert := by decide +kernel
  bypass := by decide +kernel

theorem witness_LampsStayInBounds : waiting.LampsKept := by
  intro h
  constructor <;> (cases h <;> decide +kernel)

theorem witness_QueuesStayBounded : waiting.QueuesKept := by constructor <;> decide +kernel

theorem witness_FireConditionHolds : waiting.FiresKept := by
  intro k
  constructor <;> (cases k <;> decide +kernel)

theorem witness_CheckSumFollowsContents : waiting.StoreKept := State.writeStore_kept _

theorem waiting_runups : waiting.RunupsKept := by
  intro k r w
  have none : (waiting.eng k).runup = none := by cases k <;> decide +kernel
  rw [none] at w
  cases w

theorem witness_ShowAndLightsStayTrue : waiting.ShowsKept ∧ waiting.LightsKept ∧ waiting.RunupsKept := by
  refine ⟨?_, ?_, waiting_runups⟩
  · intro k
    have roles : ∀ h, waiting.role h ≠ .showing := by intro h; cases h <;> decide +kernel
    constructor
    · exact fun h _ _ _ w => absurd w (roles h)
    · intro h _
      cases h <;> decide +kernel
    · intro h
      cases k <;> cases h <;> decide +kernel
    · exact fun h _ w => absurd w (roles h)
    · intro r
      have none : (waiting.eng k).runup = none := by cases k <;> decide +kernel
      rw [none]
      exact nofun
    · cases k <;> decide +kernel
  · intro k
    have none : (waiting.light k).fade = none := by cases k <;> decide +kernel
    constructor
    · intro _
      cases k <;> decide +kernel
    · intro f
      rw [none]
      exact nofun

theorem witness_ProgrammeStaysValid : waiting.ProgrammeKept where
  split := by decide +kernel
  records i := Or.inl (by revert i; decide +kernel)
  sides i hi _ := by
    have all : ∀ i < 63, waiting.programme.sameSide i (i + 1) = false := by decide +kernel
    exact all i (by omega)

theorem witness_HousesAreIndependent : commandHouse (.showHalt 0 1 1 none) = some .one ∧ waiting.orders.restart = .clear ∧
    waiting.RunupsKept ∧ ∃ t, exec (.showHalt 0 1 1 none) waiting = .next t := ⟨by decide, by decide +kernel, waiting_runups, ⟨_, rfl⟩⟩

end Sys2Proof.Tests
end

section
/-! SUPPORT. The drive table's write (R40) and the statement on it. -/

namespace Sys2Proof.Machine

/-! ### A written entry -/

@[simp] theorem DriveEntry.written_value (e : DriveEntry) (v : DriveVal) (ms : Nat) : (e.written v ms).value = v := rfl
@[simp] theorem DriveEntry.written_station (e : DriveEntry) (v : DriveVal) (ms : Nat) : (e.written v ms).station = e.station := rfl
@[simp] theorem DriveEntry.written_fn (e : DriveEntry) (v : DriveVal) (ms : Nat) : (e.written v ms).fn = e.fn := rfl
@[simp] theorem DriveEntry.written_lastValue (e : DriveEntry) (v : DriveVal) (ms : Nat) : (e.written v ms).lastValue = e.lastValue := rfl
@[simp] theorem DriveEntry.written_lastTime (e : DriveEntry) (v : DriveVal) (ms : Nat) : (e.written v ms).lastTime = e.lastTime := rfl

theorem DriveEntry.mark_of_dirty {e : DriveEntry} {w : Dirty} (h : e.dirty = some w) (cls : DriveClass) (ms : Nat) :
    e.mark cls ms = some { cls := cls, since := w.since } := by
  simp [DriveEntry.mark, h]

theorem DriveEntry.mark_of_clean {e : DriveEntry} (h : e.dirty = none) (cls : DriveClass) (ms : Nat) :
    e.mark cls ms = some { cls := cls, since := ms } := by
  simp [DriveEntry.mark, h]

/-- The one row of R40's table under which a written entry is not dirty. -/
theorem DriveEntry.written_dirty_of_sent {e : DriveEntry} {v : DriveVal} (clean : e.dirty = none) (sent : e.lastValue = some v) (ms : Nat) :
    (e.written v ms).dirty = none :=
  if_pos ⟨clean, sent⟩

/-- The other rows of R40's table. -/
theorem DriveEntry.written_dirty_of_not {e : DriveEntry} {v : DriveVal} (h : ¬ (e.dirty = none ∧ e.lastValue = some v)) (ms : Nat) :
    (e.written v ms).dirty = e.mark v.cls ms :=
  if_neg h

/-! ### A write to the table -/

@[simp] theorem State.writeDrive_entry_same (s : State) (d : DriveId) (v : DriveVal) :
    (s.writeDrive d v).entry d = (s.entry d).written v s.ms :=
  State.setEntry_entry_same ..

theorem State.writeDrive_entry_ne (s : State) {d d' : DriveId} (v : DriveVal) (ne : d' ≠ d) : (s.writeDrive d v).entry d' = s.entry d' :=
  State.setEntry_entry_ne s _ ne

/-- A write moves the drive table alone. -/
theorem State.writeDrive_frame (s : State) (d : DriveId) (v : DriveVal) : { s.writeDrive d v with drive := s.drive } = s := rfl

@[simp] theorem State.writeDrive_refreshPeriod (s : State) (d : DriveId) (v : DriveVal) :
    (s.writeDrive d v).drive.refreshPeriod = s.drive.refreshPeriod :=
  State.setEntry_refreshPeriod ..

theorem DriveVal.motor_cls (run : Bool) : (DriveVal.motor run).cls = if run then .change else .safety := by cases run <;> rfl
theorem DriveVal.douser_cls (opened : Bool) : (DriveVal.douser opened).cls = if opened then .change else .safety := by
  cases opened <;> rfl
theorem DriveVal.lamp_cls (strike : Bool) : (DriveVal.lamp strike).cls = if strike then .change else .safety := by
  cases strike <;> rfl

/-- Settles O15, row by row of R40's table. -/
theorem writeDriveMarksDirty : Obligations.WriteDriveMarksDirty := by
  refine ⟨fun s d v => ?_, DriveVal.motor_cls, DriveVal.douser_cls, DriveVal.lamp_cls, fun _ => rfl, fun _ => rfl, fun _ => rfl⟩
  dsimp only
  rw [State.writeDrive_entry_same]
  refine ⟨rfl, fun w dirty => ?_, fun clean changed => ?_, fun clean sent => DriveEntry.written_dirty_of_sent clean sent _, rfl, rfl, rfl,
    rfl, fun d' ne => State.writeDrive_entry_ne s v ne, State.writeDrive_frame s d v, State.writeDrive_refreshPeriod s d v⟩
  · rw [DriveEntry.written_dirty_of_not (by simp [dirty]), DriveEntry.mark_of_dirty dirty]
  · rw [DriveEntry.written_dirty_of_not fun h => changed h.2, DriveEntry.mark_of_clean clean]

end Sys2Proof.Machine
end

section
/-! SUPPORT. WRITE REACT (R35): the bytes it decodes, its judgement case by case, and the statement on it. -/

namespace Sys2Proof

theorem toIndex_of_le {n i : Nat} (h : n ≤ i) : toIndex n i = none := dif_neg (by omega)
theorem toIndex_of_eq {n i : Nat} (j : Fin n) (h : i = j.val) : toIndex n i = some j := by
  subst h
  exact dif_pos j.isLt

end Sys2Proof

namespace Sys2Proof.Machine

/-! ### Numbers of heads and zones, and the action byte -/

theorem headOf_of_num {b : Byte} {h : Head} (e : b.toNat = h.num) : headOf b = some h := by
  unfold headOf
  rw [e]
  cases h <;> rfl

theorem headOf_of_outside {b : Byte} (o : b.toNat < 1 ∨ 4 < b.toNat) : headOf b = none := by
  unfold headOf
  split
  case h_5 => rfl
  all_goals omega

theorem zoneOf_of_num {b : Byte} {z : Zone} (e : b.toNat = z.num) : zoneOf b = some z := by
  unfold zoneOf
  rw [e]
  cases z <;> rfl

theorem zoneOf_of_outside {b : Byte} (o : b.toNat < 1 ∨ 3 < b.toNat) : zoneOf b = none := by
  unfold zoneOf
  split
  case h_4 => rfl
  all_goals omega

theorem actionOf_pass (target : Byte) : actionOf 0 target = if target = 0 then some .pass else none := rfl
theorem actionOf_drop (target : Byte) : actionOf 1 target = if target = 0 then some .drop else none := rfl
theorem actionOf_cue (target : Byte) : actionOf 2 target = (headOf target).map .cue := rfl
theorem actionOf_lamp (target : Byte) : actionOf 3 target = (headOf target).map .lamp := rfl
theorem actionOf_sense (target : Byte) : actionOf 4 target = (zoneOf target).map .sense := rfl
theorem actionOf_panel (target : Byte) : actionOf 5 target = if target = 0 then some .panel else none := rfl

theorem actionOf_of_above {action : Byte} (h : 5 < action.toNat) (target : Byte) : actionOf action target = none := by
  unfold actionOf
  split
  case h_7 => rfl
  all_goals omega

/-! ### The entry an order describes -/

theorem reactEntryOf_invalid {p : ReactParams} (h : 30 < p.source.toNat ∨ actionOf p.action p.target = none ∨ 7 < p.flags.toNat)
    (writeLock : Bool) : reactEntryOf p writeLock = none := by
  unfold reactEntryOf
  split
  · rfl
  · next a valid =>
    refine if_neg fun ⟨source, flags⟩ => ?_
    obtain high | invalid | high := h
    · omega
    · rw [valid] at invalid
      cases invalid
    · omega

theorem reactEntryOf_valid {p : ReactParams} {a : Action} (source : p.source.toNat ≤ 30) (action : actionOf p.action p.target = some a)
    (flags : p.flags.toNat ≤ 7) (writeLock : Bool) :
    reactEntryOf p writeLock =
      some
        { inUse := p.flags.getLsbD 0, consume := p.flags.getLsbD 1, protect := p.flags.getLsbD 2
          source := p.source, kind := p.kind, selValue := p.selValue, selMask := p.selMask, action := a
          lockMark := writeLock && p.flags.getLsbD 2 } := by
  unfold reactEntryOf
  rw [action]
  exact if_pos ⟨source, by omega⟩

/-! ### The judgement, in R35's order -/

section
variable {p : ReactParams} {s : State} {i : Fin 32}

theorem judgeWriteReact_badIndex (h : 32 ≤ p.index.toNat) : judgeWriteReact p s = (s, Reply.plain .badIndex) := by
  unfold judgeWriteReact
  rw [toIndex_of_le h]

theorem judgeWriteReact_locked (index : p.index.toNat = i.val) (mark : (s.matcher.table.get i).lockMark = true) :
    judgeWriteReact p s = (s, Reply.plain .locked) := by
  unfold judgeWriteReact
  rw [toIndex_of_eq i index]
  exact if_pos mark

theorem judgeWriteReact_badValue (index : p.index.toNat = i.val) (free : (s.matcher.table.get i).lockMark = false)
    (invalid : reactEntryOf p s.matcher.writeLock = none) : judgeWriteReact p s = (s, Reply.plain .badValue) := by
  unfold judgeWriteReact
  rw [toIndex_of_eq i index]
  simp [free, invalid]

theorem judgeWriteReact_done {e : ReactEntry} (index : p.index.toNat = i.val) (free : (s.matcher.table.get i).lockMark = false)
    (valid : reactEntryOf p s.matcher.writeLock = some e) :
    judgeWriteReact p s =
      ({ s with matcher := { s.matcher with table := s.matcher.table.set i e, counts := s.matcher.counts.set i 0 } },
        Reply.plain .done) := by
  unfold judgeWriteReact
  rw [toIndex_of_eq i index]
  simp [free, valid]

end

/-- The course of a WRITE REACT order, once judged. -/
theorem writeReact_performs {s after : State} {dt : Nat} {src : Byte} {p : ReactParams} {r : Result} (h : s.Listens src)
    (judged : judgeWriteReact p (s.heard dt) = (after, Reply.plain r)) (calm : after.orders.restart = .clear) :
    s.Performs (.writeReact dt src p) src 0x02 r [] after :=
  judgedOrder_performs s dt src (.writeReact p) _ after r [] h (by simp [encodeOrder, Order.params]) judged calm

/-- Settles O13: the four outcomes of the judgement, then the bytes of the action and its target. -/
theorem writeReactReplacesEntry : Obligations.WriteReactReplacesEntry := by
  refine ⟨fun s dt src p listens => ?_, fun action target => ?_⟩
  · have calm : (s.heard dt).orders.restart = .clear := listens.calm
    refine ⟨fun outside => writeReact_performs listens (judgeWriteReact_badIndex outside) calm,
      fun i index => ⟨fun mark => ?_, fun free => ?_⟩⟩
    · exact writeReact_performs listens (judgeWriteReact_locked index mark) calm
    · refine ⟨fun invalid => ?_, fun a source action flags => ?_⟩
      · exact writeReact_performs listens (judgeWriteReact_badValue index free (reactEntryOf_invalid invalid _)) calm
      · exact writeReact_performs listens (judgeWriteReact_done index free (reactEntryOf_valid source action flags _)) calm
  · refine ⟨?pass, ?drop, ?cue, ?lamp, ?sense, ?panel, fun above => actionOf_of_above above target⟩
    case pass => rintro rfl; exact actionOf_pass target
    case drop => rintro rfl; exact actionOf_drop target
    case panel => rintro rfl; exact actionOf_panel target
    case cue =>
      rintro rfl
      exact ⟨fun h num => by rw [actionOf_cue, headOf_of_num num, Option.map_some],
        fun outside => by rw [actionOf_cue, headOf_of_outside outside, Option.map_none]⟩
    case lamp =>
      rintro rfl
      exact ⟨fun h num => by rw [actionOf_lamp, headOf_of_num num, Option.map_some],
        fun outside => by rw [actionOf_lamp, headOf_of_outside outside, Option.map_none]⟩
    case sense =>
      rintro rfl
      exact ⟨fun z num => by rw [actionOf_sense, zoneOf_of_num num, Option.map_some],
        fun outside => by rw [actionOf_sense, zoneOf_of_outside outside, Option.map_none]⟩

end Sys2Proof.Machine
end

section
/-! SUPPORT. The matcher (R26 to R33), the panel decoder's delivery (R171, R172) and the statement on both. -/

namespace Sys2Proof.Machine

/-! ### The taking entry (R26, R27) -/

/-- Two bytes agree under a mask exactly when they agree in every bit the mask sets. -/
theorem masked_eq_iff {b v mask : Byte} :
    b &&& mask = v &&& mask ↔ ∀ n < 8, mask.getLsbD n = true → b.getLsbD n = v.getLsbD n := by
  constructor
  · intro e n _ set
    simpa [set] using congrArg (fun x => BitVec.getLsbD x n) e
  · intro agree
    refine BitVec.eq_of_getLsbD_eq fun n small => ?_
    cases set : mask.getLsbD n
    · simp [set]
    · simp [set, agree n small set]

theorem ReactEntry.selectorPasses_iff (e : ReactEntry) (payload : List Byte) :
    e.selectorPasses payload = true ↔
      e.selMask = 0 ∨ ∃ b rest, payload = b :: rest ∧ ∀ n < 8, e.selMask.getLsbD n = true → b.getLsbD n = e.selValue.getLsbD n := by
  unfold ReactEntry.selectorPasses
  cases payload with
  | nil => simp
  | cons b rest => simp [masked_eq_iff]

theorem ReactEntry.takes_iff (e : ReactEntry) (f : Frame) :
    e.takes f = true ↔
      e.inUse = true ∧ (e.source = 0 ∨ e.source = f.src) ∧ (e.kind = 0 ∨ e.kind = f.kind) ∧ e.selectorPasses f.payload = true := by
  simp [ReactEntry.takes, and_assoc]

theorem Matcher.taking_eq_some_iff (m : Matcher) (f : Frame) (i : Fin 32) :
    m.taking f = some i ↔ (m.table.get i).takes f = true ∧ ∀ j < i, ¬ (m.table.get j).takes f = true := by
  unfold Matcher.taking
  rw [List.find?_eq_some_iff_getElem]
  refine and_congr_right fun _ => ⟨?_, fun before => ⟨i.val, by simp, by simp, fun j hj => ?_⟩⟩
  · rintro ⟨k, bound, at_k, before⟩ j hj
    have k_eq : k = i.val := by simpa using congrArg Fin.val at_k
    simpa using before j.val (by omega)
  · simpa using before ⟨j, by omega⟩ hj

theorem Matcher.taking_eq_none_iff (m : Matcher) (f : Frame) :
    m.taking f = none ↔ ∀ i, ¬ (m.table.get i).takes f = true := by
  simp [Matcher.taking]

/-! ### Deliveries (R30 to R33) -/

theorem wordOf_toNat (hi lo : Byte) : (wordOf hi lo).toNat = 256 * hi.toNat + lo.toNat := by
  have low := lo.isLt
  rw [wordOf, BitVec.toNat_append, ← Nat.shiftLeft_add_eq_or_of_lt low, Nat.shiftLeft_eq]
  omega

theorem conditionOf_eq_getElem? (b : Byte) : conditionOf b = [Condition.normal, .pre, .fire, .fault][b.toNat]? := by
  unfold conditionOf
  generalize b.toNat = n
  match n with
  | 0 | 1 | 2 | 3 => rfl
  | n + 4 => rfl

/-- A payload that begins with a byte. -/
theorem exists_head_of_length {p : List Byte} (h : 1 ≤ p.length) : ∃ rest, p = p.getD 0 0 :: rest := by
  match p, h with
  | b :: rest, _ => exact ⟨rest, rfl⟩

/-- A payload of four bytes or more, as the deliveries of R31 and R33 read it. -/
theorem exists_four_of_length {p : List Byte} (h : 4 ≤ p.length) :
    ∃ rest, p = p.getD 0 0 :: p.getD 1 0 :: p.getD 2 0 :: p.getD 3 0 :: rest := by
  match p, h with
  | a :: b :: c :: d :: rest, _ => exact ⟨rest, rfl⟩

section
variable (s : State) {p : List Byte}

theorem State.deliverCue_invalid (h : Head) (bad : p.length = 0 ∨ (p.getD 0 0 ≠ 1 ∧ p.getD 0 0 ≠ 2)) :
    s.deliverCue h p = s.malformed := by
  cases p with
  | nil => rfl
  | cons b rest =>
    obtain ⟨not_motor, not_change⟩ := bad.resolve_left (by simp)
    exact (if_neg not_motor).trans (if_neg not_change)

theorem State.deliverCue_motor (h : Head) (some_byte : 1 ≤ p.length) (cue : p.getD 0 0 = 1) : s.deliverCue h p = s.motorCue h := by
  obtain ⟨rest, e⟩ := exists_head_of_length some_byte
  rw [e, cue]
  rfl

theorem State.deliverCue_change (h : Head) (some_byte : 1 ≤ p.length) (cue : p.getD 0 0 = 2) : s.deliverCue h p = s.changeCue h := by
  obtain ⟨rest, e⟩ := exists_head_of_length some_byte
  rw [e, cue]
  rfl

theorem State.deliverLamp_short (h : Head) (short : p.length < 4) : s.deliverLamp h p = s.malformed := by
  unfold State.deliverLamp
  split
  · simp at short; omega
  · rfl

theorem State.deliverLamp_long (h : Head) (long : 4 ≤ p.length) :
    s.deliverLamp h p =
      if 256 * (p.getD 0 0).toNat + (p.getD 1 0).toNat ≤ 999 ∧ (p.getD 2 0).toNat ≤ 199 then
        s.lampSample h (256 * (p.getD 0 0).toNat + (p.getD 1 0).toNat) (p.getD 2 0).toNat ((p.getD 3 0).getLsbD 0)
      else s.malformed := by
  obtain ⟨rest, e⟩ := exists_four_of_length long
  generalize p.getD 0 0 = v1, p.getD 1 0 = v0, p.getD 2 0 = c, p.getD 3 0 = st at e ⊢
  rw [e, ← wordOf_toNat]
  rfl

theorem State.deliverLamp_invalid (h : Head)
    (bad : p.length < 4 ∨ 999 < 256 * (p.getD 0 0).toNat + (p.getD 1 0).toNat ∨ 199 < (p.getD 2 0).toNat) :
    s.deliverLamp h p = s.malformed := by
  by_cases short : p.length < 4
  · exact s.deliverLamp_short h short
  · rw [s.deliverLamp_long h (by omega)]
    exact if_neg (by omega)

theorem State.deliverSense_invalid (z : Zone) (source : Byte) (bad : p.length = 0 ∨ 3 < (p.getD 0 0).toNat) :
    s.deliverSense z source p = s.malformed := by
  cases p with
  | nil => rfl
  | cons b rest =>
    have high : 3 < b.toNat := bad.resolve_left (by simp)
    have none : conditionOf b = none := by
      rw [conditionOf_eq_getElem?]
      exact List.getElem?_eq_none high
    simp [State.deliverSense, none]

theorem State.deliverSense_valid (z : Zone) (source : Byte) {c : Condition} (some_byte : 1 ≤ p.length)
    (valid : [Condition.normal, .pre, .fire, .fault][(p.getD 0 0).toNat]? = some c) :
    s.deliverSense z source p = s.detectorReport source z c := by
  obtain ⟨rest, e⟩ := exists_head_of_length some_byte
  rw [← conditionOf_eq_getElem?] at valid
  generalize p.getD 0 0 = b at e valid
  rw [e]
  simp [State.deliverSense, valid]

theorem State.deliverPanel_short (short : p.length < 4) : s.deliverPanel p = s.malformed := by
  unfold State.deliverPanel
  split
  · simp at short; omega
  · rfl

theorem State.deliverPanel_long (long : 4 ≤ p.length) :
    s.deliverPanel p =
      s.panelDelivery { house1 := p.getD 0 0, house2 := p.getD 1 0, head := p.getD 2 0, common := p.getD 3 0 } := by
  obtain ⟨rest, e⟩ := exists_four_of_length long
  generalize p.getD 0 0 = a, p.getD 1 0 = b, p.getD 2 0 = c, p.getD 3 0 = d at e ⊢
  rw [e]
  rfl

end

/-! ### The panel's keys (R171, R172) -/

theorem newKeys_getLsbD {now last : Byte} {bit : Nat} (small : bit < 8) :
    (newKeys now last).getLsbD bit = true ↔ now.getLsbD bit = true ∧ last.getLsbD bit = false := by
  simp [newKeys, small]

/-- The keys handed on are those that stand in the byte delivered and not in the one before it (R171). -/
theorem pressKeys_newKeys (press : State → Nat → State) (now last : Byte) (s : State) :
    pressKeys press (newKeys now last) s =
      (List.range 8).foldl (fun t bit => if now.getLsbD bit = true ∧ last.getLsbD bit = false then press t bit else t) s :=
  List.foldl_ext _ _ _ fun _ _ mem => if_congr (newKeys_getLsbD (List.mem_range.mp mem)) rfl rfl

/-- A byte whose keys are listed for its first bits and whose further bits do nothing. -/
theorem pressKeys_eq_handOn {press : State → Nat → State} {keys : List (State → State)} {n : Nat} (le : n ≤ 8)
    (listed : keys.zipIdx = (List.range n).map fun bit => ((fun t => press t bit), bit))
    (idle : ∀ t, ∀ bit, n ≤ bit → press t bit = t)
    (now last : Byte) (s : State) : pressKeys press (newKeys now last) s = handOn keys now last s := by
  obtain ⟨k, e⟩ := Nat.exists_eq_add_of_le le
  have bits : List.range 8 = List.range n ++ (List.range k).map (n + ·) := by rw [e, List.range_add]
  rw [pressKeys_newKeys, bits, List.foldl_append, List.foldl_map (l := List.range k),
    List.foldl_fixed' fun i => by rw [idle _ _ (Nat.le_add_right n i), ite_self], handOn, listed, List.foldl_map]

theorem pressKeys_houseKey (k : House) (now last : Byte) (s : State) :
    pressKeys (fun t bit => t.houseKey k bit) (newKeys now last) s = handOn (houseKeys k) now last s :=
  pressKeys_eq_handOn (n := 8) (by decide) rfl (fun t bit high => by match bit, high with | _ + 8, _ => rfl) now last s

theorem pressKeys_headKey (now last : Byte) (s : State) :
    pressKeys State.headKey (newKeys now last) s = handOn headKeys now last s :=
  pressKeys_eq_handOn (n := 8) (by decide) rfl (fun t bit high => by match bit, high with | _ + 8, _ => rfl) now last s

/-- Bits 5 to 7 of the common byte do nothing (R172). -/
theorem pressKeys_commonKey (now last : Byte) (s : State) :
    pressKeys State.commonKey (newKeys now last) s = handOn commonKeys now last s :=
  pressKeys_eq_handOn (n := 5) (by decide) rfl (fun t bit high => by match bit, high with | _ + 5, _ => rfl) now last s

section
variable {s : State} (m : KeyMap)

theorem State.panelDelivery_absent (absent : s.panel.present = false) :
    s.panelDelivery m = { s with panel := s.panel.delivered m s.ms } := by
  simp [State.panelDelivery, absent]

theorem State.panelDelivery_present (present : s.panel.present = true) :
    s.panelDelivery m =
      handOn commonKeys m.common s.panel.last.common
        (handOn headKeys m.head s.panel.last.head
          (handOn (houseKeys .two) m.house2 s.panel.last.house2
            (handOn (houseKeys .one) m.house1 s.panel.last.house1 { s with panel := s.panel.delivered m s.ms }))) := by
  unfold State.panelDelivery
  dsimp only
  rw [if_neg (by simp [present]), pressKeys_commonKey, pressKeys_headKey, pressKeys_houseKey, pressKeys_houseKey]

end

/-- Settles O12: the first match, the deliveries by action, and the panel's keys. -/
theorem takingEntryIsFirstMatch : Obligations.TakingEntryIsFirstMatch := by
  refine ⟨fun m f => ?_, fun s f => ?_, fun s m => ⟨s.panelDelivery_absent m, s.panelDelivery_present m⟩⟩
  · simp only [Matcher.taking_eq_some_iff, Matcher.taking_eq_none_iff, ReactEntry.takes_iff, ReactEntry.selectorPasses_iff, implies_true,
      and_self]
  · refine ⟨rfl, rfl, fun h => ⟨s.deliverCue_invalid h, s.deliverCue_motor h, s.deliverCue_change h⟩,
      fun h => ⟨s.deliverLamp_invalid h, fun long voltage current => ?_⟩,
      fun z => ⟨s.deliverSense_invalid z f.src, fun some_byte c valid => ?_⟩, s.deliverPanel_short, s.deliverPanel_long⟩
    · exact (s.deliverLamp_long h long).trans (if_pos ⟨voltage, current⟩)
    · refine (s.deliverSense_valid z f.src some_byte valid).trans ?_
      cases z <;> rfl

end Sys2Proof.Machine
end

section
/-! SUPPORT. TRIM (R84): its judgement case by case, and the statement on it. -/

namespace Sys2Proof.Machine

section
variable {s : State} {head : Byte} {length : Option Word} {h : Head}

theorem judgeTrim_badIndex (outside : headOf head = none) : judgeTrim head length s = (s, Reply.plain .badIndex) := by
  simp [judgeTrim, outside]

theorem judgeTrim_badState (named : headOf head = some h) (lit : (s.lamp h).state = .striking ∨ (s.lamp h).state = .burning) :
    judgeTrim head length s = (s, Reply.plain .badState) := by
  obtain striking | burning := lit
  · simp [judgeTrim, named, striking]
  · simp [judgeTrim, named, burning]

theorem judgeTrim_done (named : headOf head = some h) (unlit : (s.lamp h).state = .dark ∨ (s.lamp h).state = .failed) :
    judgeTrim head length s =
      (s.setLamp h { s.lamp h with rod := length.elim (s.lamp h).record.trimLength BitVec.toNat, rem := 0 }, Reply.plain .done) := by
  obtain dark | failed := unlit
  · cases length <;> simp [judgeTrim, named, dark]
  · cases length <;> simp [judgeTrim, named, failed]

end

/-- The course of a TRIM order, once judged. -/
theorem trim_performs {s after : State} {dt : Nat} {src head : Byte} {length : Option Word} {r : Result} (listens : s.Listens src)
    (judged : judgeTrim head length (s.heard dt) = (after, Reply.plain r)) (calm : after.orders.restart = .clear) :
    s.Performs (.trim dt src head length) src 0x0A r [] after :=
  judgedOrder_performs s dt src (.trim head length) _ after r [] listens (by cases length <;> simp [encodeOrder, Order.params]) judged calm

/-- Settles O24: the three outcomes of the judgement. -/
theorem trimSetsRod : Obligations.TrimSetsRod := by
  intro s dt src head length listens
  have calm : (s.heard dt).orders.restart = .clear := listens.calm
  refine ⟨fun outside => trim_performs listens (judgeTrim_badIndex outside) calm, fun h named => ⟨fun lit => ?_, fun unlit => ?_⟩⟩
  · exact trim_performs listens (judgeTrim_badState named lit) calm
  · cases length <;> exact trim_performs listens (judgeTrim_done named unlit) calm

end Sys2Proof.Machine
end

section
/-! SUPPORT. One rule for each shared operation a lamp's report ends in: the raise (R175), the light unit's requests (R142, R147), the
idle timer (R60), the carbon check (R87) and the loss of light (R127); and what a settled state passes on. -/

namespace Sys2Proof

theorem PerHead.set_set {α : Type} (p : PerHead α) (h : Head) (x y : α) : (p.set h x).set h y = p.set h y := by cases h <;> rfl
theorem PerHead.set_get_self {α : Type} (p : PerHead α) (h : Head) : p.set h (p.get h) = p := by cases h <;> rfl

end Sys2Proof

namespace Sys2Proof.Machine

/-! ### Writes to one head -/

@[simp] theorem State.setLamp_setLamp (s : State) (h : Head) (x y : Lamp) : (s.setLamp h x).setLamp h y = s.setLamp h y := by
  simp [State.setLamp, PerHead.set_set]

theorem State.setMon_self (s : State) (h : Head) : s.setMon h (s.mon h) = s := by
  simp [State.setMon, State.mon, PerHead.set_get_self]

theorem State.setLamp_writeDrive (s : State) (h : Head) (x : Lamp) (d : DriveId) (v : DriveVal) :
    (s.setLamp h x).writeDrive d v = (s.writeDrive d v).setLamp h x := rfl

@[simp] theorem State.writeDrive_mon (s : State) (d : DriveId) (v : DriveVal) (h : Head) : (s.writeDrive d v).mon h = s.mon h := rfl
@[simp] theorem State.writeDrive_lamp (s : State) (d : DriveId) (v : DriveVal) (h : Head) : (s.writeDrive d v).lamp h = s.lamp h := rfl
@[simp] theorem State.writeDrive_role (s : State) (d : DriveId) (v : DriveVal) (h : Head) : (s.writeDrive d v).role h = s.role h := rfl
@[simp] theorem State.writeDrive_monitors (s : State) (d : DriveId) (v : DriveVal) : (s.writeDrive d v).monitors = s.monitors := rfl
@[simp] theorem State.writeDrive_lamps (s : State) (d : DriveId) (v : DriveVal) : (s.writeDrive d v).lamps = s.lamps := rfl
@[simp] theorem State.writeDrive_slots (s : State) (d : DriveId) (v : DriveVal) : (s.writeDrive d v).slots = s.slots := rfl
@[simp] theorem State.writeDrive_fire (s : State) (d : DriveId) (v : DriveVal) : (s.writeDrive d v).fire = s.fire := rfl
@[simp] theorem State.writeDrive_eng (s : State) (d : DriveId) (v : DriveVal) (k : House) : (s.writeDrive d v).eng k = s.eng k := rfl
@[simp] theorem State.writeDrive_light (s : State) (d : DriveId) (v : DriveVal) (k : House) : (s.writeDrive d v).light k = s.light k := rfl
@[simp] theorem State.writeDrive_notices (s : State) (d : DriveId) (v : DriveVal) : (s.writeDrive d v).notices = s.notices := rfl

theorem State.writeDrive_value (s : State) (d d' : DriveId) (v : DriveVal) :
    ((s.writeDrive d v).entry d').value = if d' = d then v else (s.entry d').value := by
  by_cases same : d' = d
  · subst same; simp
  · rw [s.writeDrive_entry_ne v same, if_neg same]

/-! ### A raise (R175) -/

theorem State.enqueue_frame (s : State) (w : Waiting) : { s.enqueue w with loop := s.loop, orders := s.orders } = s := by
  have room : { s.makeRoom with loop := s.loop, orders := s.orders } = s := by
    unfold State.makeRoom State.requestStart State.countLoop
    dsimp only
    repeat' split
    all_goals rfl
  exact room

theorem State.queueNotice_frame (s : State) (c : NoticeContents) : { s.queueNotice c with loop := s.loop, orders := s.orders } = s := by
  unfold State.queueNotice
  split
  · rfl
  · exact s.enqueue_frame _

section
variable (s : State) (e : Event) (c : Cause) (k : Option Code)

/-- A raise moves the notice unit, the loop unit's FIFO with its drop counter, and the restart wait a dropped ANSWER ends. -/
theorem State.raise_frame :
    { s.raise e c k with loop := s.loop, orders := s.orders } = s.setNotices (s.notices.raised e c k) := by
  unfold State.raise
  dsimp only
  split
  · rfl
  · exact State.queueNotice_frame (s.setNotices (s.notices.raised e c k)) _

@[simp] theorem State.raise_notices : (s.raise e c k).notices = s.notices.raised e c k :=
  (congrArg State.notices (s.raise_frame e c k) :)
@[simp] theorem State.raise_monitors : (s.raise e c k).monitors = s.monitors := (congrArg State.monitors (s.raise_frame e c k) :)
@[simp] theorem State.raise_lamps : (s.raise e c k).lamps = s.lamps := (congrArg State.lamps (s.raise_frame e c k) :)
@[simp] theorem State.raise_slots : (s.raise e c k).slots = s.slots := (congrArg State.slots (s.raise_frame e c k) :)
@[simp] theorem State.raise_fire : (s.raise e c k).fire = s.fire := (congrArg State.fire (s.raise_frame e c k) :)
@[simp] theorem State.raise_eng (k' : House) : (s.raise e c k).eng k' = s.eng k' :=
  (congrArg (fun t => t.eng k') (s.raise_frame e c k) :)
@[simp] theorem State.raise_light (k' : House) : (s.raise e c k).light k' = s.light k' :=
  (congrArg (fun t => t.light k') (s.raise_frame e c k) :)
@[simp] theorem State.raise_entry (d : DriveId) : (s.raise e c k).entry d = s.entry d :=
  (congrArg (fun t => t.entry d) (s.raise_frame e c k) :)

end

/-! ### Light requests (R142, R147) -/

section
variable (s : State) (k : House)

theorem State.lookupLight_frame : { s.lookupLight k with lights := s.lights, drive := s.drive } = s := by
  unfold State.lookupLight
  dsimp only
  split <;> rfl

theorem State.lookupLight_requests : ((s.lookupLight k).light k).requests = (s.light k).requests := by
  unfold State.lookupLight
  dsimp only
  split
  · rfl
  · simp

theorem State.lookupLight_entry_ne {d : DriveId} (ne : d ≠ .dim k) : (s.lookupLight k).entry d = s.entry d := by
  unfold State.lookupLight
  dsimp only
  split
  · rfl
  · exact State.writeDrive_entry_ne _ _ ne

theorem State.setRequests_frame (r : Requests) : { s.setRequests k r with lights := s.lights, drive := s.drive } = s := by
  unfold State.setRequests
  dsimp only
  repeat' split
  · rfl
  · rfl
  · exact congrArg (fun t : State => { t with lights := s.lights }) (State.lookupLight_frame (s.setLight k _) k)
  · rfl

theorem State.setRequests_requests (r : Requests) : ((s.setRequests k r).light k).requests = r := by
  unfold State.setRequests
  dsimp only
  repeat' split
  · simp
  · simp
  · simp [State.lookupLight_requests]
  · simp

theorem State.setRequests_entry_ne (r : Requests) {d : DriveId} (ne : d ≠ .dim k) : (s.setRequests k r).entry d = s.entry d := by
  unfold State.setRequests
  dsimp only
  repeat' split
  · rfl
  · rfl
  · exact State.lookupLight_entry_ne _ k ne
  · rfl

/-- The fault claim moves the engine, the lights and the DIM entry of its house (R145). -/
theorem State.setClaim_frame : { s.setClaim k with engines := s.engines, lights := s.lights, drive := s.drive } = s :=
  congrArg (fun t : State => { t with engines := s.engines })
    (State.setRequests_frame (s.setEng k { s.eng k with faultClaim := true }) k _)

@[simp] theorem State.setClaim_eng : (s.setClaim k).eng k = { s.eng k with faultClaim := true } :=
  (congrArg (fun t => t.eng k) (State.setRequests_frame (s.setEng k { s.eng k with faultClaim := true }) k _) :).trans
    (State.setEng_eng_same ..)

@[simp] theorem State.setClaim_requests :
    ((s.setClaim k).light k).requests =
      { (s.light k).requests with fault := some { position := (s.light k).faultPos, fade := (s.light k).fastFade } } :=
  State.setRequests_requests ..

theorem State.setClaim_entry_ne {d : DriveId} (ne : d ≠ .dim k) : (s.setClaim k).entry d = s.entry d :=
  State.setRequests_entry_ne _ k _ ne

@[simp] theorem State.setClaim_monitors : (s.setClaim k).monitors = s.monitors := (congrArg State.monitors (s.setClaim_frame k) :)
@[simp] theorem State.setClaim_lamps : (s.setClaim k).lamps = s.lamps := (congrArg State.lamps (s.setClaim_frame k) :)
@[simp] theorem State.setClaim_slots : (s.setClaim k).slots = s.slots := (congrArg State.slots (s.setClaim_frame k) :)
@[simp] theorem State.setClaim_fire : (s.setClaim k).fire = s.fire := (congrArg State.fire (s.setClaim_frame k) :)
@[simp] theorem State.setClaim_notices : (s.setClaim k).notices = s.notices := (congrArg State.notices (s.setClaim_frame k) :)

end

/-! ### The idle timer (R60) -/

/-- The idle timer of a head whose lamp burns: it runs while the head stands still and does not show. -/
theorem State.rejudgeIdle_burning {s : State} {h : Head} (burning : (s.lamp h).state = .burning) :
    s.rejudgeIdle h =
      s.setMon h
        { s.mon h with
          idleTimer :=
            if (s.mon h).motion = .stopped ∧ s.role h ≠ .showing then
              some ((s.mon h).idleTimer.getD (s.ms + (s.mon h).idleLimit * 1000))
            else none } := by
  by_cases idle : (s.mon h).motion = .stopped ∧ s.role h ≠ .showing
  · have holds : s.idleCondition h = true := by simp [State.idleCondition, burning, idle]
    rw [State.rejudgeIdle, if_pos idle]
    cases timer : (s.mon h).idleTimer with
    | none => simp [holds]
    | some d =>
      have same : s.setMon h { s.mon h with idleTimer := some d } = s := by rw [← timer]; exact s.setMon_self h
      exact (if_pos holds).trans same.symm
  · have fails : ¬ s.idleCondition h = true := by simpa [State.idleCondition, burning] using idle
    rw [State.rejudgeIdle, if_neg idle]
    exact if_neg fails

theorem State.rejudgeIdle_not_burning {s : State} {h : Head} (unlit : (s.lamp h).state ≠ .burning) :
    s.rejudgeIdle h = s.setMon h { s.mon h with idleTimer := none } := by
  unfold State.rejudgeIdle State.idleCondition
  simp [unlit]

/-! ### The carbon check at a sample (R87) -/

theorem State.heldReel_of_held {s : State} {h : Head} {i : Nat} (held : (s.slot h).held = some i) :
    s.heldReel h = s.programme.record i := by
  simp [State.heldReel, held]

theorem State.carbonCheckShow_not_showing {s : State} {h : Head} (role : s.role h ≠ .showing) : s.carbonCheckShow h = s := by
  simp [State.carbonCheckShow, role]

/-- The check of a SHOWING head with a lamp `l` and record `i`: nothing while the carbon lasts or the flag is set, and otherwise the
flag and CARBON_LOW. -/
theorem State.carbonCheckShow_showing {s : State} {h : Head} {l : Lamp} {i : Nat} (lamp : s.lamp h = l) (role : s.role h = .showing)
    (held : (s.slot h).held = some i) :
    let left := (s.programme.record i).last - (s.mon h).counter
    let short := l.rod * 60 / max l.record.base 1 < left / (s.mon h).fps + l.record.lowMargin
    (¬ short ∨ l.carbonLow = true → s.carbonCheckShow h = s) ∧
    (short → l.carbonLow = false →
      s.carbonCheckShow h = (s.setLamp h { l with carbonLow := true }).raise .carbonLow (.head h) (some .show)) := by
  subst lamp
  unfold State.carbonCheckShow Lamp.short
  rw [State.heldReel_of_held held]
  refine ⟨?lasts, fun short clear => ?_⟩
  case lasts =>
    rintro (lasts | flagged)
    · simp [role, lasts]
    · simp [flagged]
  · simp [role, short, clear]

/-! ### A head reported lit, and light lost (R66, R127) -/

theorem State.litReport_not_locked {s : State} {h : Head} (motion : (s.mon h).motion ≠ .locked) : s.litReport h = s := by
  simp [State.litReport, State.ready, motion]

theorem State.judged_iff {s : State} {h : Head} : s.judged h = true ↔ (s.eng h.house).state = .running ∧ s.role h = .showing := by
  simp [State.judged]

theorem State.lightLost_judged {s : State} {h : Head} (judged : s.judged h = true) :
    s.lightLost h =
      ((s.writeDrive (.douser h) (.douser false)).raise .pictureLost (.head h) (some .lamp)).setClaim h.house :=
  if_pos judged

theorem State.lightLost_not_judged {s : State} {h : Head} (out : ¬ s.judged h = true) : s.lightLost h = s := if_neg out

/-- Light lost moves no head. -/
theorem State.lightLost_heads (s : State) (h : Head) :
    (s.lightLost h).monitors = s.monitors ∧ (s.lightLost h).lamps = s.lamps ∧ (s.lightLost h).slots = s.slots ∧
      (s.lightLost h).fire = s.fire := by
  by_cases judged : s.judged h = true
  · simp [State.lightLost_judged judged]
  · simp [State.lightLost_not_judged judged]

/-- Of the drive table light lost writes the douser, and the lights it moves the DIM entry. -/
theorem State.lightLost_entry_ne (s : State) {h : Head} {d : DriveId} (douser : d ≠ .douser h) (dim : d ≠ .dim h.house) :
    (s.lightLost h).entry d = s.entry d := by
  by_cases judged : s.judged h = true
  · rw [State.lightLost_judged judged, State.setClaim_entry_ne _ _ dim, State.raise_entry, State.writeDrive_entry_ne _ _ douser]
  · rw [State.lightLost_not_judged judged]

/-! ### What a settled state passes on -/

section
variable {s t u : State} (e : t.Settles u)
include e

theorem State.Settles.slots : t.slots = u.slots := (congrArg State.slots e.rest :)
theorem State.Settles.fire : t.fire = u.fire := (congrArg State.fire e.rest :)
theorem State.Settles.notices : t.notices = u.notices := (congrArg State.notices e.rest :)
theorem State.Settles.mon (h : Head) : t.mon h = u.mon h := (congrArg (fun s => s.mon h) e.rest :)
theorem State.Settles.lamp (h : Head) : t.lamp h = u.lamp h := (congrArg (fun s => s.lamp h) e.rest :)
theorem State.Settles.slot (h : Head) : t.slot h = u.slot h := (congrArg (fun s => s.slot h) e.rest :)
theorem State.Settles.eng (k : House) : t.eng k = u.eng k := (congrArg (fun s => s.eng k) e.rest :)
theorem State.Settles.light (k : House) : t.light k = u.light k := (congrArg (fun s => s.light k) e.rest :)
theorem State.Settles.fireOf (k : House) : t.fireOf k = u.fireOf k := (congrArg (fun s => s.fireOf k) e.rest :)

theorem State.Settles.settled_entry (d : DriveId) : (t.entry d).settled = (u.entry d).settled := by
  simpa using congrArg (fun s => s.entry d) e.rest

theorem State.Settles.value (d : DriveId) : (t.entry d).value = (u.entry d).value :=
  (congrArg DriveEntry.value (e.settled_entry d) :)

theorem State.Settles.sameHead {h : Head} (same : s.SameHead u h) : s.SameHead t h := by
  obtain ⟨mon, lamp, slot⟩ := same
  exact ⟨(e.mon h).trans mon, (e.lamp h).trans lamp, (e.slot h).trans slot⟩

theorem State.Settles.sameHouse {k : House} (same : s.SameHouse u k) : s.SameHouse t k := by
  obtain ⟨heads, eng, light, fire, values⟩ := same
  exact ⟨fun h house => e.sameHead (heads h house), (e.eng k).trans eng, (e.light k).trans light, (e.fireOf k).trans fire,
    fun d house => (e.value d).trans (values d house)⟩

theorem State.Settles.sameTables (same : s.SameTables u) : s.SameTables t := by
  obtain ⟨matcher, programme, panel, holdTime, window, refresh, orders, starter, pending, map⟩ := same
  refine ⟨(congrArg State.matcher e.rest :).trans matcher, (congrArg State.programme e.rest :).trans programme,
    (congrArg State.panel e.rest :).trans panel, (congrArg (fun s => s.fire.holdTime) e.rest :).trans holdTime,
    (congrArg (fun s => s.fire.confirmWindow) e.rest :).trans window, (congrArg (fun s => s.drive.refreshPeriod) e.rest :).trans refresh,
    (congrArg State.orders e.rest :).trans orders, (congrArg State.starter e.rest :).trans starter,
    (congrArg State.pending e.rest :).trans pending, fun d => ?_⟩
  obtain ⟨station, fn⟩ := map d
  exact ⟨(congrArg DriveEntry.station (e.settled_entry d) :).trans station, (congrArg DriveEntry.fn (e.settled_entry d) :).trans fn⟩

end

/-- What stays within a house leaves the tables, no restart awaited. -/
theorem State.Local.sameTables {k : House} {s t : State} (l : State.Local k s t) (calm : s.orders.restart ≠ .waiting) :
    s.SameTables t :=
  ⟨l.matcher, l.programme, l.panel, l.holdTime, l.confirmWindow, l.refreshPeriod, l.orders calm, l.starter, l.pending, l.map⟩

end Sys2Proof.Machine
end

section
/-! SUPPORT. The effects of a lamp that fails (R73, R74, R127): carbon end and an arc gone out. -/

namespace Sys2Proof.Machine

/-! ### A lamp put into FAILED -/

theorem State.failLamp_eq (s : State) (h : Head) (l : Lamp) :
    s.failLamp h l =
      (((s.setLamp h (l.putOut .failed)).writeDrive (.lamp h) (.lamp false)).writeDrive (.feed h) (.feed 0)).setMon h
        { s.mon h with idleTimer := none } :=
  State.rejudgeIdle_not_burning (by simp [Lamp.putOut])

section
variable (s : State) (h : Head) (l : Lamp)

theorem State.failLamp_lamps : (s.failLamp h l).lamps = s.lamps.set h (l.putOut .failed) := by
  rw [State.failLamp_eq]
  rfl

theorem State.failLamp_monitors : (s.failLamp h l).monitors = s.monitors.set h { s.mon h with idleTimer := none } := by
  rw [State.failLamp_eq]
  rfl

@[simp] theorem State.failLamp_slots : (s.failLamp h l).slots = s.slots := by simp [State.failLamp_eq]
@[simp] theorem State.failLamp_fire : (s.failLamp h l).fire = s.fire := by simp [State.failLamp_eq]
@[simp] theorem State.failLamp_notices : (s.failLamp h l).notices = s.notices := by simp [State.failLamp_eq]
@[simp] theorem State.failLamp_eng (k : House) : (s.failLamp h l).eng k = s.eng k := by simp [State.failLamp_eq]
@[simp] theorem State.failLamp_light (k : House) : (s.failLamp h l).light k = s.light k := by simp [State.failLamp_eq]
@[simp] theorem State.failLamp_judged : (s.failLamp h l).judged h = s.judged h := by simp [State.judged, State.failLamp_eq]

theorem State.failLamp_value (d : DriveId) :
    ((s.failLamp h l).entry d).value =
      if d = .feed h then .feed 0 else if d = .lamp h then .lamp false else (s.entry d).value := by
  simp [State.failLamp_eq, State.writeDrive_value]

theorem State.failLamp_setLamp (x : Lamp) : (s.setLamp h x).failLamp h l = s.failLamp h l := by
  simp only [State.failLamp_eq, State.setLamp_setLamp, State.setLamp_mon]

end

/-- The regulator's own closing of a head's douser, which a carbon end begins with and an arc gone out does not (R73, R74). -/
def State.closeDouser (s : State) (h : Head) (shut : Bool) : State := if shut then s.writeDrive (.douser h) (.douser false) else s

section
variable (s : State) (h : Head) (shut : Bool)

@[simp] theorem State.closeDouser_lamps : (s.closeDouser h shut).lamps = s.lamps := by cases shut <;> rfl
@[simp] theorem State.closeDouser_monitors : (s.closeDouser h shut).monitors = s.monitors := by cases shut <;> rfl
@[simp] theorem State.closeDouser_mon (h' : Head) : (s.closeDouser h shut).mon h' = s.mon h' := by cases shut <;> rfl
@[simp] theorem State.closeDouser_slots : (s.closeDouser h shut).slots = s.slots := by cases shut <;> rfl
@[simp] theorem State.closeDouser_fire : (s.closeDouser h shut).fire = s.fire := by cases shut <;> rfl
@[simp] theorem State.closeDouser_notices : (s.closeDouser h shut).notices = s.notices := by cases shut <;> rfl
@[simp] theorem State.closeDouser_eng (k : House) : (s.closeDouser h shut).eng k = s.eng k := by cases shut <;> rfl
@[simp] theorem State.closeDouser_light (k : House) : (s.closeDouser h shut).light k = s.light k := by cases shut <;> rfl
@[simp] theorem State.closeDouser_judged : (s.closeDouser h shut).judged h = s.judged h := by cases shut <;> rfl

theorem State.closeDouser_value :
    ((s.closeDouser h shut).entry (.douser h)).value = if shut then .douser false else (s.entry (.douser h)).value := by
  cases shut
  · rfl
  · simp [State.closeDouser]

theorem State.Local.closeDouser : State.Local h.house s (s.closeDouser h shut) := by
  cases shut
  · exact State.Local.refl _ s
  · exact State.Local.writeDrive s _ rfl

end

/-! ### A lamp failed and reported -/

/-- A lamp failed on its account, and the reports in their order: the loss of light to the engine when the lamp was burning, then the
lamp's notice (R73, R74). -/
def State.failedWith (s : State) (h : Head) (account : Lamp) (e : Event) (code : Code) (shut : Bool) : State :=
  let u := (s.closeDouser h shut).failLamp h account
  (if (s.lamp h).state = .burning then u.lightLost h else u).raise e (.head h) (some code)

theorem State.carbonEnd_eq (s : State) (h : Head) {x : Lamp} (state : x.state = (s.lamp h).state) (b : Bool) :
    (s.setLamp h x).carbonEnd h b =
      s.failedWith h (if b then { x with rod := 0 } else x) .carbonEnd (if b then .switch else .rod) true := by
  unfold State.carbonEnd State.failedWith State.closeDouser
  dsimp only
  rw [State.setLamp_lamp_same, State.setLamp_writeDrive, State.failLamp_setLamp, state, if_pos rfl]

theorem State.arcOut_eq (s : State) (h : Head) (x : Lamp) (burning : (s.lamp h).state = .burning) :
    (s.setLamp h x).arcOut h = s.failedWith h x .arcFail .out false := by
  simp [State.arcOut, State.failedWith, State.closeDouser, State.failLamp_setLamp, burning]

section
variable (s : State) (h : Head) (l : Lamp) (e : Event) (code : Code) (shut : Bool)

theorem State.Local.failedWith : State.Local h.house s (s.failedWith h l e code shut) := by
  have failed := (State.Local.closeDouser s h shut).trans (State.Local.failLamp _ l rfl)
  unfold State.failedWith
  dsimp only
  split
  · exact (failed.trans (State.Local.lightLost _ rfl)).trans (State.Local.raise ..)
  · exact failed.trans (State.Local.raise ..)

/-- A failing lamp moves its own regulator and the idle timer of its own monitor, and no other part of a head. -/
theorem State.failedWith_heads :
    let t := s.failedWith h l e code shut
    t.lamps = s.lamps.set h (l.putOut .failed) ∧ t.monitors = s.monitors.set h { s.mon h with idleTimer := none } ∧
      t.slots = s.slots ∧ t.fire = s.fire := by
  obtain ⟨monitors, lamps, slots, fire⟩ := State.lightLost_heads ((s.closeDouser h shut).failLamp h l) h
  unfold State.failedWith
  dsimp only
  split
  · simp [monitors, lamps, slots, fire, State.failLamp_lamps, State.failLamp_monitors]
  · simp [State.failLamp_lamps, State.failLamp_monitors]

theorem State.failedWith_entry_ne {d : DriveId} (douser : d ≠ .douser h) (dim : d ≠ .dim h.house) :
    (s.failedWith h l e code shut).entry d = ((s.closeDouser h shut).failLamp h l).entry d := by
  unfold State.failedWith
  dsimp only
  rw [State.raise_entry]
  split
  · exact State.lightLost_entry_ne _ douser dim
  · rfl

variable {s h}

/-- The reports of a failed lamp reach the engine, the lights and the douser in one case alone: the lamp burned on the SHOWING head of a
RUNNING house. -/
theorem State.failedWith_shown (burning : (s.lamp h).state = .burning) (judged : s.judged h = true) :
    s.failedWith h l e code shut =
      (((((s.closeDouser h shut).failLamp h l).writeDrive (.douser h) (.douser false)).raise
        .pictureLost (.head h) (some .lamp)).setClaim h.house).raise e (.head h) (some code) := by
  unfold State.failedWith
  dsimp only
  rw [if_pos burning, State.lightLost_judged (by simpa using judged)]

theorem State.failedWith_unshown (out : (s.lamp h).state ≠ .burning ∨ ¬ s.judged h = true) :
    s.failedWith h l e code shut = ((s.closeDouser h shut).failLamp h l).raise e (.head h) (some code) := by
  unfold State.failedWith
  dsimp only
  split
  case isTrue burning => rw [State.lightLost_not_judged (by simpa using out.resolve_left (· burning))]
  case isFalse => rfl

/-- The effects of a failing lamp, all together (R73, R74, R127). -/
theorem State.failedWith_lampFailed (calm : s.orders.restart = .clear) :
    s.LampFailed (s.failedWith h l e code shut) h l e code shut := by
  have kept := State.Local.failedWith s h l e code shut
  obtain ⟨lamps, monitors, slots, fire⟩ := State.failedWith_heads s h l e code shut
  refine { lamp := ?lamp, entries := ⟨?off, ?still⟩, shown := ?shown, unshown := ?unshown, monitor := ?monitor, others := ?others }
  case lamp =>
    rw [State.lamp, lamps, PerHead.get_set_same]
    rfl
  case monitor => rw [State.mon, monitors, PerHead.get_set_same]
  case off => simp [State.failedWith_entry_ne, State.failLamp_value]
  case still => simp [State.failedWith_entry_ne, State.failLamp_value]
  case shown =>
    intro burning running showing
    rw [State.failedWith_shown _ _ _ _ burning (State.judged_iff.mpr ⟨running, showing⟩)]
    simp [State.setClaim_entry_ne]
  case unshown =>
    intro out
    have quiet : (s.lamp h).state ≠ .burning ∨ ¬ s.judged h = true := by
      rw [State.judged_iff]
      tauto
    rw [State.failedWith_unshown _ _ _ _ quiet]
    simp [State.failLamp_value, State.closeDouser_value]
  case others =>
    refine ⟨slots, fire, fun h' ne => ⟨?_, ?_, ?_⟩, kept.house, kept.sameTables (by simp [calm])⟩
    · rw [State.mon, monitors, PerHead.get_set_ne _ _ ne]
      rfl
    · rw [State.lamp, lamps, PerHead.get_set_ne _ _ ne]
      rfl
    · rw [State.slot, slots]
      rfl

end

section
variable {s : State} {h : Head} {x : Lamp}

theorem State.carbonEnd_switch_lampFailed (calm : s.orders.restart = .clear) (state : x.state = (s.lamp h).state) :
    s.LampFailed ((s.setLamp h x).carbonEnd h true) h { x with rod := 0 } .carbonEnd .switch true := by
  rw [State.carbonEnd_eq s h state]
  exact State.failedWith_lampFailed _ _ _ _ calm

theorem State.carbonEnd_rod_lampFailed (calm : s.orders.restart = .clear) (state : x.state = (s.lamp h).state) (empty : x.rod = 0) :
    s.LampFailed ((s.setLamp h x).carbonEnd h false) h { x with rod := 0 } .carbonEnd .rod true := by
  have same : { x with rod := 0 } = x := by rw [← empty]
  rw [State.carbonEnd_eq s h state, same]
  exact State.failedWith_lampFailed _ _ _ _ calm

theorem State.arcOut_lampFailed (calm : s.orders.restart = .clear) (burning : (s.lamp h).state = .burning) :
    s.LampFailed ((s.setLamp h x).arcOut h) h x .arcFail .out false := by
  rw [State.arcOut_eq s h x burning]
  exact State.failedWith_lampFailed _ _ _ _ calm

end

section
variable {s t u : State} {h : Head} {a b : Lamp} {e : Event} {code : Code} {shut : Bool}

theorem State.LampFailed.orders (failed : s.LampFailed t h a e code shut) : t.orders = s.orders := by
  obtain ⟨-, -, -, -, -, -, -, -, -, -, orders, -⟩ := failed.others
  exact orders

/-- What a failed lamp is accounted matters in what is left of it after it has been put out. -/
theorem State.LampFailed.of_putOut (failed : s.LampFailed t h a e code shut) (same : a.putOut .failed = b.putOut .failed) :
    s.LampFailed t h b e code shut :=
  { failed with lamp := failed.lamp.trans same }

/-- The effects of a failing lamp are those of the state its event settles in. -/
theorem State.LampFailed.of_settles (failed : s.LampFailed u h a e code shut) (settles : t.Settles u) :
    s.LampFailed t h a e code shut := by
  obtain ⟨lamp, entries, shown, unshown, monitor, slots, fire, heads, house, tables⟩ := failed
  refine
    { lamp := (settles.lamp h).trans lamp
      entries := ?entries
      shown := ?shown
      unshown := ?unshown
      monitor := (settles.mon h).trans monitor
      others :=
        ⟨settles.slots.trans slots, settles.fire.trans fire, fun h' ne => settles.sameHead (heads h' ne), settles.sameHouse house,
          settles.sameTables tables⟩ }
  case entries => simpa only [settles.value] using entries
  case shown => simpa only [settles.value, settles.eng, settles.light, settles.notices] using shown
  case unshown => simpa only [settles.value, settles.eng, settles.light, settles.notices] using unshown

end

end Sys2Proof.Machine
end

section
/-! SUPPORT. The feed regulator (R79 to R81), what a lamp sample does (R69 to R72) and the statement on them. -/

namespace Sys2Proof.Machine

/-! ### The feed regulator (R79 to R81) -/

theorem clampInt_bounds {lo hi : Int} (le : lo ≤ hi) (x : Int) : lo ≤ clampInt lo hi x ∧ clampInt lo hi x ≤ hi := by
  unfold clampInt
  omega

theorem clampInt_toNat (n : Nat) (x : Int) : ((clampInt 0 n x).toNat : Int) = max 0 (min (n : Int) x) :=
  Int.toNat_of_nonneg (clampInt_bounds (by omega) x).1

/-- The accumulator a run of the regulator tries (R80). -/
def Lamp.trial (l : Lamp) (v : Nat) : Int := clampInt (-32767) 32767 (l.acc + regError l.record v)

/-- The regulator's output for an accumulator, before it is clamped (R79 to R81). -/
def Lamp.output (l : Lamp) (v : Nat) (a : Int) : Int := l.record.base + regP l.record (regError l.record v) + regI l.record a

/-- Whether the output stands past a limit and the error would push it further (R80). -/
def Lamp.windsUp (l : Lamp) (v : Nat) : Bool :=
  decide
    (((l.record.fmax : Int) < l.output v (l.trial v) ∧ 0 < regError l.record v) ∨
      (l.output v (l.trial v) < 0 ∧ regError l.record v < 0))

section
variable {l : Lamp} {v : Nat}

theorem Lamp.regulate_eq :
    l.regulate v =
      (if l.windsUp v then l.acc else l.trial v,
        (clampInt 0 l.record.fmax (if l.windsUp v then l.output v l.acc else l.output v (l.trial v))).toNat) := rfl

theorem Lamp.regulate_windsUp (winds : l.windsUp v = true) :
    l.regulate v = (l.acc, (clampInt 0 l.record.fmax (l.output v l.acc)).toNat) := by
  simp [Lamp.regulate_eq, winds]

theorem Lamp.regulate_free (free : ¬ l.windsUp v = true) :
    l.regulate v = (l.trial v, (clampInt 0 l.record.fmax (l.output v (l.trial v))).toNat) := by
  simp [Lamp.regulate_eq, free]

theorem Lamp.regulate_acc_bounds (low : -32767 ≤ l.acc) (high : l.acc ≤ 32767) :
    -32767 ≤ (l.regulate v).1 ∧ (l.regulate v).1 ≤ 32767 := by
  by_cases winds : l.windsUp v = true
  · rw [Lamp.regulate_windsUp winds]
    exact ⟨low, high⟩
  · rw [Lamp.regulate_free winds]
    exact clampInt_bounds (by omega) _

theorem Lamp.regulate_rate_le : (l.regulate v).2 ≤ l.record.fmax :=
  Int.toNat_le.mpr (clampInt_bounds (by omega) _).2

end

/-! ### What a lamp sample does (R69 to R72) -/

/-- A lamp with a sample kept (R69). -/
def Lamp.withSample (l : Lamp) (v c : Nat) (es : Bool) (ms : Nat) : Lamp :=
  { l with sample := some { voltage := v, current := c, endSwitch := es, moment := ms } }

/-- A BURNING lamp as a sample finds it: the sample kept, consumption accounted, the stale timer started again (R69, R72). -/
def Lamp.counted (l : Lamp) (v c : Nat) (es : Bool) (ms : Nat) : Lamp := (l.withSample v c es ms).sampled ms

/-- A BURNING lamp as its stale expiry leaves it while rod is left (R77). -/
def Lamp.wentStale (l : Lamp) (ms : Nat) : Lamp := { l.account ms with stale := true, staleTimer := some (ms + Config.staleMs) }

/-- The step-milliseconds a lamp is accounted at a moment: its remainder, and those fed since the last accounting (R82). -/
def Lamp.used (l : Lamp) (ms : Nat) : Nat := l.rem + l.rate * (ms - l.accounted.getD ms)

theorem Lamp.account_rod_eq_zero {l : Lamp} {ms : Nat} : (l.account ms).rod = 0 ↔ l.rod ≤ l.used ms / 60000 :=
  Nat.sub_eq_zero_iff_le

theorem Lamp.counted_rod_eq_zero {l : Lamp} {v c ms : Nat} {es : Bool} : (l.counted v c es ms).rod = 0 ↔ l.rod ≤ l.used ms / 60000 :=
  Lamp.account_rod_eq_zero

/-- A head's lamp put in place with one run of the regulator made on it, and its rate written to FEED (R72, R81). -/
def State.fed (s : State) (h : Head) (x : Lamp) (v : Nat) : State :=
  (s.setLamp h { x with acc := (x.regulate v).1, rate := (x.regulate v).2 }).writeDrive (.feed h) (.feed (x.regulate v).2)

theorem State.runRegulator_setLamp (s : State) (h : Head) (x : Lamp) (v : Nat) : (s.setLamp h x).runRegulator h v = s.fed h x v := by
  simp [State.runRegulator, State.fed]

theorem State.fed_lamp (s : State) (h : Head) (x : Lamp) (v : Nat) :
    (s.fed h x v).lamp h = { x with acc := (x.regulate v).1, rate := (x.regulate v).2 } := by
  simp [State.fed]

section
variable {s : State} {h : Head} {v c : Nat} {es : Bool}

theorem State.lampSample_unlit (unlit : (s.lamp h).state = .dark ∨ (s.lamp h).state = .failed) :
    s.lampSample h v c es = s.setLamp h ((s.lamp h).withSample v c es s.ms) := by
  obtain dark | failed := unlit
  · simp [State.lampSample, dark, Lamp.withSample]
  · simp [State.lampSample, failed, Lamp.withSample]

/-- A sample of a BURNING lamp, judged on the lamp as accounted, in the order of R72. -/
theorem State.lampSample_burning (burning : (s.lamp h).state = .burning) :
    let l := (s.lamp h).counted v c es s.ms
    s.lampSample h v c es =
      if es then (s.setLamp h l).carbonEnd h true
      else if l.rod = 0 then (s.setLamp h l).carbonEnd h false
      else if c < l.record.imin then (s.setLamp h l).arcOut h
      else (s.fed h l v).carbonCheckShow h := by
  simp [State.lampSample, burning, State.sampleBurning, Lamp.counted, Lamp.withSample, State.runRegulator_setLamp]

/-- A sample of a STRIKING lamp (R70). -/
theorem State.lampSample_striking (striking : (s.lamp h).state = .striking) :
    let l := (s.lamp h).withSample v c es s.ms
    s.lampSample h v c es =
      if es then (s.setLamp h l).carbonEnd h true
      else if l.record.imin ≤ c then (((s.fed h (l.lit s.ms) v).rejudgeIdle h).litReport h).carbonCheckShow h
      else s.setLamp h l := by
  simp [State.lampSample, striking, State.sampleStriking, State.struck, Lamp.withSample, State.runRegulator_setLamp]

theorem State.lampSample_feeds (burning : (s.lamp h).state = .burning) (rod : (s.lamp h).used s.ms / 60000 < (s.lamp h).rod)
    (current : (s.lamp h).record.imin ≤ c) :
    s.lampSample h v c false = (s.fed h ((s.lamp h).counted v c false s.ms) v).carbonCheckShow h := by
  rw [State.lampSample_burning burning, if_neg Bool.false_ne_true, if_neg (mt Lamp.counted_rod_eq_zero.mp (Nat.not_le.mpr rod))]
  exact if_neg (Nat.not_lt.mpr current)

/-- The arc strikes: the regulator is run on the lamp lit, the idle timer is judged, and a LOCKED head is reported ready before its
carbon is checked (R60, R66, R70, R110). -/
theorem State.lampSample_strikes (striking : (s.lamp h).state = .striking) (current : (s.lamp h).record.imin ≤ c) :
    let timed := (s.fed h (((s.lamp h).withSample v c false s.ms).lit s.ms) v).setMon h
      { s.mon h with
        idleTimer :=
          if (s.mon h).motion = .stopped ∧ s.role h ≠ .showing then
            some ((s.mon h).idleTimer.getD (s.ms + (s.mon h).idleLimit * 1000))
          else none }
    s.lampSample h v c false = (if (s.mon h).motion = .locked then timed.litReport h else timed).carbonCheckShow h := by
  intro timed
  have lit : ((s.fed h (((s.lamp h).withSample v c false s.ms).lit s.ms) v).lamp h).state = .burning := by rw [State.fed_lamp]; rfl
  have judged : (s.fed h (((s.lamp h).withSample v c false s.ms).lit s.ms) v).rejudgeIdle h = timed := State.rejudgeIdle_burning lit
  have report : timed.litReport h = if (s.mon h).motion = .locked then timed.litReport h else timed := by
    split
    case isTrue => rfl
    case isFalse motion => exact State.litReport_not_locked (by simpa [timed] using motion)
  rw [State.lampSample_striking striking, if_neg Bool.false_ne_true, ← report, ← judged]
  exact if_pos current

/-- A stale expiry that finds the rod used up is a carbon end (R74, R77). -/
theorem State.staleExpiry_lampFailed {d : Nat} (calm : s.orders.restart = .clear) (burning : (s.lamp h).state = .burning)
    (timer : (s.lamp h).staleTimer = some d) (passed : d ≤ s.ms) (ended : (s.lamp h).rod ≤ (s.lamp h).used s.ms / 60000) :
    s.LampFailed (s.staleExpiry h) h { (s.lamp h).wentStale s.ms with rod := 0 } .carbonEnd .rod true := by
  have falls : (s.lamp h).state = .burning ∧ due (s.lamp h).staleTimer s.ms = true := ⟨burning, by simp [due, timer, passed]⟩
  have empty : ((s.lamp h).wentStale s.ms).rod = 0 := Lamp.account_rod_eq_zero.mpr ended
  have expiry : s.staleExpiry h = (s.setLamp h ((s.lamp h).wentStale s.ms)).carbonEnd h false := (if_pos falls).trans (if_pos empty)
  rw [expiry]
  exact State.carbonEnd_rod_lampFailed calm rfl empty

end

/-- Settles O20: the regulator's arithmetic, a sample in each state of the lamp, and the stale expiry of a rod used up. -/
theorem regulatorSetsFeed : Obligations.RegulatorSetsFeed := by
  refine ⟨fun l v low high => ?arithmetic, fun s h v c burning role current => ?feeds, fun s h v c es => ?sample,
    fun s dt d h awake passed => ?stale⟩
  case arithmetic =>
    refine ⟨clampInt_bounds (by omega) _, fun winds => ?_, fun free => ?_, Lamp.regulate_acc_bounds low high, Lamp.regulate_rate_le⟩
    · rw [Lamp.regulate_windsUp (decide_eq_true winds)]
      exact ⟨rfl, clampInt_toNat ..⟩
    · rw [Lamp.regulate_free fun winds => free (of_decide_eq_true winds)]
      exact ⟨rfl, clampInt_toNat ..⟩
  case feeds =>
    intro l used rod l1
    rw [State.lampSample_feeds burning rod current]
    exact State.carbonCheckShow_not_showing role
  case sample =>
    refine ⟨State.lampSample_unlit, fun burning showing no_switch current rod i held => ?shows, fun calm burning => ?ends,
      fun striking => ⟨fun calm switch => ?switch, fun no_switch low => ?waits, fun no_switch current => ?strikes⟩⟩
    case shows =>
      subst no_switch
      have check := State.carbonCheckShow_showing (State.fed_lamp s h ((s.lamp h).counted v c false s.ms) v) showing held
      obtain ⟨lasts, short⟩ := check
      rw [State.lampSample_feeds burning rod current]
      refine ⟨lasts, fun is_short clear => (short is_short clear).trans ?_⟩
      rw [← State.fed_lamp]
      rfl
    case ends =>
      refine ⟨fun switch => ?_, fun no_switch ended => ?_, fun no_switch rod low => ?_⟩
      · rw [State.lampSample_burning burning, if_pos switch]
        exact State.carbonEnd_switch_lampFailed calm rfl
      · subst no_switch
        have empty : ((s.lamp h).counted v c false s.ms).rod = 0 := Lamp.counted_rod_eq_zero.mpr ended
        rw [State.lampSample_burning burning, if_neg Bool.false_ne_true, if_pos empty]
        exact State.carbonEnd_rod_lampFailed calm rfl empty
      · subst no_switch
        have left : ¬ ((s.lamp h).counted v c false s.ms).rod = 0 := mt Lamp.counted_rod_eq_zero.mp (Nat.not_le.mpr rod)
        have below : c < ((s.lamp h).counted v c false s.ms).record.imin := low
        rw [State.lampSample_burning burning, if_neg Bool.false_ne_true, if_neg left, if_pos below]
        exact State.arcOut_lampFailed calm burning
    case switch =>
      rw [State.lampSample_striking striking, if_pos switch]
      exact State.carbonEnd_switch_lampFailed calm rfl
    case waits =>
      subst no_switch
      rw [State.lampSample_striking striking, if_neg Bool.false_ne_true]
      exact if_neg (Nat.not_le.mpr low)
    case strikes =>
      subst no_switch
      rw [State.lampSample_strikes striking current]
      exact ⟨fun out => State.carbonCheckShow_not_showing out, fun showing i held => State.carbonCheckShow_showing rfl showing held⟩
  case stale =>
    intro l used burning timer ended
    obtain ⟨running, calm⟩ := awake
    have failed := State.staleExpiry_lampFailed (s := s.elapse dt) calm burning timer passed ended
    obtain ⟨t, run, settles⟩ := event_becomes dt (fun t => t.staleExpiry h) s running (by simp [failed.orders, calm])
    exact ⟨t, run, (failed.of_settles settles).of_putOut rfl⟩

end Sys2Proof.Machine
end

section
/-! SUPPORT. SPLIT (R100): the programme's joined boundary and the houses at rest as propositions, its judgement case by case, and the
statement on it. -/

namespace Sys2Proof.Machine

/-! ### Records, boundaries and houses at rest -/

/-- A record within the store's ends is the store's own cell. -/
@[simp] theorem Programme.record_fin (p : Programme) (i : Fin 64) : p.record i.val = p.reels.get i := by
  simp [Programme.record, Table.get?, toIndex_of_eq i rfl]

theorem Programme.sameSide_iff {p : Programme} {i j : Fin 64} :
    p.sameSide i.val j.val = true ↔
      (p.reels.get i).last ≠ 0 ∧ (p.reels.get j).last ≠ 0 ∧ (p.reels.get i).side = (p.reels.get j).side := by
  simp [Programme.sameSide, and_assoc]

/-- The records on the two sides of a boundary inside the store, named by their indexes (R100). -/
theorem Programme.sameSide_boundary_iff {p : Programme} {n : Nat} (low : 1 ≤ n) (high : n ≤ 63) :
    p.sameSide (n - 1) n = true ↔
      ∃ i j : Fin 64, i.val + 1 = n ∧ j.val = n ∧ (p.reels.get i).last ≠ 0 ∧ (p.reels.get j).last ≠ 0 ∧
        (p.reels.get i).side = (p.reels.get j).side := by
  constructor
  · intro same
    exact ⟨⟨n - 1, by omega⟩, ⟨n, by omega⟩, Nat.sub_add_cancel low, rfl, Programme.sameSide_iff.mp same⟩
  · rintro ⟨i, j, rfl, after, same⟩
    rw [Nat.add_sub_cancel, ← after]
    exact Programme.sameSide_iff.mpr same

theorem State.atRest_iff {s : State} {k : House} : s.atRest k = true ↔ (s.eng k).state = .idle ∨ (s.eng k).state = .ended := by
  simp [State.atRest]

theorem State.atRest_both_iff {s : State} :
    (s.atRest .one && s.atRest .two) = true ↔ ∀ k, (s.eng k).state = .idle ∨ (s.eng k).state = .ended := by
  simp only [Bool.and_eq_true, State.atRest_iff]
  exact ⟨fun ⟨one, two⟩ k => by cases k <;> assumption, fun rest => ⟨rest .one, rest .two⟩⟩

/-! ### The judgement, in R100's order -/

section
variable {s : State} {n : Byte}

theorem judgeSplit_badIndex (outside : n.toNat < 1 ∨ 63 < n.toNat) : judgeSplit n s = (s, Reply.plain .badIndex) := if_pos outside

variable (inside : ¬ (n.toNat < 1 ∨ 63 < n.toNat))
include inside

theorem judgeSplit_locked (lock : s.matcher.writeLock = true) : judgeSplit n s = (s, Reply.plain .locked) :=
  (if_neg inside).trans (if_pos lock)

variable (free : s.matcher.writeLock = false)
include free

theorem judgeSplit_inUse (busy : ¬ ∀ k, (s.eng k).state = .idle ∨ (s.eng k).state = .ended) :
    judgeSplit n s = (s, Reply.plain .inUse) := by
  have moving : (s.atRest .one && s.atRest .two) = false := Bool.eq_false_iff.mpr (mt State.atRest_both_iff.mp busy)
  simp only [judgeSplit, if_neg inside, free, moving, Bool.false_eq_true, if_false, Bool.not_false, if_true]

variable (rest : ∀ k, (s.eng k).state = .idle ∨ (s.eng k).state = .ended)
include rest

/-- At rest and unlocked, only the joined boundary stands in the way of a split point within range. -/
theorem judgeSplit_rest :
    judgeSplit n s =
      if n.toNat ≠ s.programme.split ∧ s.programme.sameSide (s.programme.split - 1) s.programme.split then (s, Reply.plain .badValue)
      else ({ s with programme := { s.programme with split := n.toNat } }, Reply.plain .done) := by
  simp only [judgeSplit, if_neg inside, free, State.atRest_both_iff.mpr rest, Bool.false_eq_true, if_false, Bool.not_true]

theorem judgeSplit_badValue (moves : n.toNat ≠ s.programme.split)
    (joined : s.programme.sameSide (s.programme.split - 1) s.programme.split = true) : judgeSplit n s = (s, Reply.plain .badValue) :=
  (judgeSplit_rest inside free rest).trans (if_pos ⟨moves, joined⟩)

theorem judgeSplit_done
    (clear : n.toNat = s.programme.split ∨ ¬ s.programme.sameSide (s.programme.split - 1) s.programme.split = true) :
    judgeSplit n s = ({ s with programme := { s.programme with split := n.toNat } }, Reply.plain .done) :=
  (judgeSplit_rest inside free rest).trans (if_neg fun ⟨moves, joined⟩ => clear.elim moves fun apart => apart joined)

end

/-- The course of a SPLIT order, once judged. -/
theorem splitPoint_performs {s after : State} {dt : Nat} {src n : Byte} {r : Result} (listens : s.Listens src)
    (judged : judgeSplit n (s.heard dt) = (after, Reply.plain r)) (calm : after.orders.restart = .clear) :
    s.Performs (.splitPoint dt src n) src 0x0B r [] after :=
  judgedOrder_performs s dt src (.splitPoint n) _ after r [] listens (by simp [encodeOrder, Order.params]) judged calm

/-- Settles O26: the five outcomes of the judgement, in R100's order. -/
theorem splitJudgedInOrder : Obligations.SplitJudgedInOrder := by
  intro s dt src n listens low high
  have calm : (s.heard dt).orders.restart = .clear := listens.calm
  have boundary := Programme.sameSide_boundary_iff (p := s.programme) low high
  refine ⟨fun outside => splitPoint_performs listens (judgeSplit_badIndex outside) calm, fun above below => ?_⟩
  have inside : ¬ (n.toNat < 1 ∨ 63 < n.toNat) := by omega
  refine ⟨fun lock => ?locked, fun free => ⟨fun busy => ?inUse, fun rest moves joins => ?badValue, fun rest clear => ?done⟩⟩
  case locked => exact splitPoint_performs listens (judgeSplit_locked inside lock) calm
  case inUse => exact splitPoint_performs listens (judgeSplit_inUse inside free busy) calm
  case badValue => exact splitPoint_performs listens (judgeSplit_badValue inside free rest moves (boundary.mpr joins)) calm
  case done => exact splitPoint_performs listens (judgeSplit_done inside free rest (clear.imp_right (mt boundary.mp))) calm

end Sys2Proof.Machine
end

section
/-! SUPPORT. The effective light request (R147): the DIM lookup's two outcomes, the four outcomes of a new request list, each an equation,
and the statement on them. -/

namespace Sys2Proof.Machine

variable {s : State} {k : House} {r : Requests}

/-! ### The lookup of the present position (R137) -/

theorem State.lookupLight_same (same : (s.light k).lookup (s.light k).position = (s.light k).lastTriple) : s.lookupLight k = s :=
  if_pos same

theorem State.lookupLight_differs (differs : (s.light k).lookup (s.light k).position ≠ (s.light k).lastTriple) :
    s.lookupLight k =
      (s.setLight k { s.light k with lastTriple := (s.light k).lookup (s.light k).position }).writeDrive (.dim k)
        (.dim ((s.light k).lookup (s.light k).position)) :=
  if_neg differs

/-- Written or not, the last triple is the one looked up. -/
theorem State.lookupLight_light :
    (s.lookupLight k).light k = { s.light k with lastTriple := (s.light k).lookup (s.light k).position } := by
  by_cases same : (s.light k).lookup (s.light k).position = (s.light k).lastTriple
  · rw [State.lookupLight_same same, same]
  · rw [State.lookupLight_differs same, State.writeDrive_light, State.setLight_light_same]

/-! ### A new request list, case by case (R147) -/

theorem Requests.changed_iff {before after : Requests} :
    before.changed after = true ↔
      after.effective.1 ≠ before.effective.1 ∨ after.effective.2.position ≠ before.effective.2.position :=
  decide_eq_true_iff.trans (or_congr ne_comm ne_comm)

theorem State.setRequests_unchanged (same : (s.light k).requests.changed r = false) :
    s.setRequests k r = s.setLight k { s.light k with requests := r } := by
  simp [State.setRequests, same]

section
variable (changed : (s.light k).requests.changed r = true)
include changed

theorem State.setRequests_atTarget (there : r.effective.2.position = (s.light k).position) :
    s.setRequests k r = s.setLight k { s.light k with requests := r, fade := none } := by
  simp [State.setRequests, changed, there]

variable (away : r.effective.2.position ≠ (s.light k).position)
include away

theorem State.setRequests_jumps (atOnce : r.effective.2.fade = 0) :
    s.setRequests k r =
      (s.setLight k { s.light k with requests := r, position := r.effective.2.position, fade := none }).lookupLight k := by
  simp [State.setRequests, changed, away, atOnce]

theorem State.setRequests_fades (slow : r.effective.2.fade ≠ 0) :
    s.setRequests k r =
      s.setLight k
        { s.light k with
          requests := r
          fade := some { p0 := (s.light k).position, target := r.effective.2.position, n := r.effective.2.fade, k := 0, began := s.ms } } := by
  simp [State.setRequests, changed, away, slow]

end

/-- Settles O33: the frame of a new request list, then R147's outcomes, and the DIM entry of a position moved at once. -/
theorem effectiveRequestMovesLights : Obligations.EffectiveRequestMovesLights := by
  intro s k r
  refine ⟨s.setRequests_requests k r, (State.Local.setRequests k s r).house, fun source target => ?unchanged, fun moved => ?changed⟩
  case unchanged =>
    have same : (s.light k).requests.changed r = false :=
      Bool.eq_false_iff.mpr fun changed => (Requests.changed_iff.mp changed).elim (absurd source) (absurd target)
    rw [State.setRequests_unchanged same]
    exact ⟨State.setLight_light_same .., fun _ => rfl⟩
  case changed =>
    have changed : (s.light k).requests.changed r = true := Requests.changed_iff.mpr moved
    refine ⟨fun there => ?stops, fun away atOnce => ?jumps, fun away slow => ?fades⟩
    case stops =>
      rw [State.setRequests_atTarget changed there]
      exact ⟨State.setLight_light_same .., fun _ => rfl⟩
    case jumps =>
      rw [State.setRequests_jumps changed away atOnce]
      refine ⟨?light, fun differs => ?written, fun same => ?kept⟩
      case light => rw [State.lookupLight_light, State.setLight_light_same]; rfl
      case written =>
        rw [State.lookupLight_differs (by rw [State.setLight_light_same]; exact differs), State.writeDrive_entry_same,
          State.setLight_light_same, DriveEntry.written_value]
        rfl
      case kept => rw [State.lookupLight_same (by rw [State.setLight_light_same]; exact same), State.setLight_entry]
    case fades =>
      rw [State.setRequests_fades changed away slow]
      exact ⟨State.setLight_light_same .., fun _ => rfl⟩

end Sys2Proof.Machine
end

section
/-! SUPPORT. A raise (R175): the notice unit it leaves, the answer/notice FIFO with a NOTICE new or waiting (R21, R176), and the statement
on it. -/

namespace Sys2Proof.Machine

/-! ### The bit and the cause record -/

theorem Event.num_val (e : Event) : e.num.val = e.ctorIdx := by cases e <;> rfl

theorem Event.num_injective : Function.Injective Event.num := by
  intro e e' same
  have place : e.ctorIdx = e'.ctorIdx := by rw [← e.num_val, ← e'.num_val, same]
  rw [← Event.ofNat_ctorIdx e, ← Event.ofNat_ctorIdx e', place]

theorem Event.bit_getLsbD (e : Event) {n : Nat} (small : n < 16) : e.bit.getLsbD n = decide (n = e.num.val) := by
  rw [Event.bit, BitVec.getLsbD_ofNat, Nat.testBit_two_pow]
  simp [small, eq_comm]

section
variable (n : NoticeUnit) (e : Event) (c : Cause) (k : Option Code)

theorem NoticeUnit.raised_cause_same :
    (n.raised e c k).causes.get e.num = { cause := c, code := k, count := min ((n.causes.get e.num).count + 1) 255 } :=
  Table.get_set_same ..

theorem NoticeUnit.raised_cause_ne {e' : Event} (ne : e' ≠ e) : (n.raised e c k).causes.get e'.num = n.causes.get e'.num :=
  Table.get_set_ne _ _ fun same => ne (Event.num_injective same)

theorem NoticeUnit.raised_pending_bit {i : Nat} (small : i < 16) :
    (n.raised e c k).pending.getLsbD i = (n.pending.getLsbD i || decide (i = e.num.val)) := by
  rw [← e.bit_getLsbD small]
  exact BitVec.getLsbD_or

/-- What the NOTICE of a raise holds (R176). -/
def NoticeUnit.raisedContents : NoticeContents :=
  { pending := (n.raised e c k).pending, event := e, cause := c, code := k, count := min ((n.causes.get e.num).count + 1) 255 }

end

/-! ### Room for one more telegram (R21) -/

theorem State.requestStart_eq (s : State) :
    s.requestStart = s.setRestart (if s.orders.restart = .waiting then .requested else s.orders.restart) := by
  unfold State.requestStart
  split <;> rfl

theorem State.countLoop_eq (s : State) (f : LoopCounters → LoopCounters) :
    s.countLoop f =
      s.setLoop { s.loop with counters := if s.loop.state = .search then s.loop.counters else f s.loop.counters } := by
  unfold State.countLoop
  split <;> rfl

section
variable {s : State} {before after : List Waiting} {dst : Byte} {p : List Byte} {named : Bool}

/-- NOTICEs ahead of the oldest ANSWER are passed over when it is dropped. -/
theorem Waiting.eraseP_oldest_answer (notices : ∀ w ∈ before, w.isNotice = true) :
    (before ++ .answer dst p named :: after).eraseP Waiting.isAnswer = before ++ after := by
  have passed : ∀ w ∈ before, ¬ w.isAnswer = true := fun w mem => by simpa [Waiting.isNotice] using notices w mem
  rw [List.eraseP_append_right _ passed, List.eraseP_cons_of_pos rfl]

theorem Waiting.find?_oldest_answer (notices : ∀ w ∈ before, w.isNotice = true) :
    (before ++ .answer dst p named :: after).find? Waiting.isAnswer = some (.answer dst p named) := by
  have passed : before.find? Waiting.isAnswer = none :=
    List.find?_eq_none.mpr fun w mem => by simpa [Waiting.isNotice] using notices w mem
  rw [List.find?_append, passed, Option.none_or, List.find?_cons_of_pos rfl]

/-- Room made in a full FIFO drops the oldest ANSWER: counted outside SEARCH and, when the restart wait names it, the request of the
start (R21, R24, R190). -/
theorem State.makeRoom_full (full : s.loop.fifo.length = 4) (fifo : s.loop.fifo = before ++ .answer dst p named :: after)
    (notices : ∀ w ∈ before, w.isNotice = true) :
    s.makeRoom =
      { s with
        loop :=
          { s.loop with
            fifo := before ++ after
            counters :=
              if s.loop.state = .search then s.loop.counters
              else { s.loop.counters with answerDrop := bump s.loop.counters.answerDrop } }
        orders :=
          { s.orders with restart := if named = true ∧ s.orders.restart = .waiting then .requested else s.orders.restart } } := by
  have crowded : ¬ s.loop.fifo.length < 4 := by omega
  rw [State.makeRoom, if_neg crowded, fifo, Waiting.eraseP_oldest_answer notices, Waiting.find?_oldest_answer notices, State.countLoop_eq]
  cases named with
  | false => rfl
  | true =>
    simp only [Option.any_some, Waiting.isNamed, if_true, State.requestStart_eq, true_and]
    rfl

end

/-! ### A NOTICE queued (R21, R176) -/

section
variable {s : State}

theorem State.queueNotice_new (answers : ∀ w ∈ s.loop.fifo, w.isNotice = false) (c : NoticeContents) :
    s.queueNotice c = s.enqueue (.notice c) :=
  if_neg (by simpa using answers)

theorem State.queueNotice_waiting {before after : List Waiting} {old : NoticeContents}
    (fifo : s.loop.fifo = before ++ .notice old :: after) (alone : ∀ w ∈ before ++ after, w.isNotice = false) (c : NoticeContents) :
    s.queueNotice c = s.setLoop { s.loop with fifo := before ++ .notice c :: after } := by
  have kept : ∀ l : List Waiting, (∀ w ∈ l, w ∈ before ++ after) → (l.map fun w => if w.isNotice then .notice c else w) = l :=
    fun l part => (List.map_congr_left fun w mem => if_neg (by simp [alone w (part w mem)])).trans l.map_id
  have held : s.loop.fifo.any Waiting.isNotice = true := by simp [fifo, Waiting.isNotice, Waiting.isAnswer]
  rw [State.queueNotice, if_pos held, fifo, List.map_append, List.map_cons,
    kept before fun _ => List.mem_append_left _, kept after fun _ => List.mem_append_right _]
  rfl

end

/-! ### A raise with and without a NOTICE (R175) -/

section
variable {s : State} {e : Event} {c : Cause} {k : Option Code}

theorem State.raise_silent (known : s.notices.pending.getLsbD e.num = true ∨ s.notices.mask.getLsbD e.num = true) :
    s.raise e c k = s.setNotices (s.notices.raised e c k) :=
  if_pos (by simpa [NoticeUnit.isPending, NoticeUnit.isMasked] using known)

theorem State.raise_notifies (idle : s.notices.pending.getLsbD e.num = false) (unmasked : s.notices.mask.getLsbD e.num = false) :
    s.raise e c k = (s.setNotices (s.notices.raised e c k)).queueNotice (s.notices.raisedContents e c k) := by
  have fresh : (s.notices.isPending e || s.notices.isMasked e) = false := by
    rw [NoticeUnit.isPending, NoticeUnit.isMasked, idle, unmasked, Bool.or_false]
  simp only [State.raise, fresh, Bool.false_eq_true, if_false, NoticeUnit.raised_cause_same, NoticeUnit.raisedContents]

end

/-- Settles O39: the notice unit first, then the FIFO with no NOTICE called for, with a new one finding room or none, and with one
waiting; the frame is that of every raise. -/
theorem raiseRecordsEvent : Obligations.RaiseRecordsEvent := by
  intro s e cause code t contents
  have notices : t.notices = s.notices.raised e cause code := s.raise_notices e cause code
  have told : contents = s.notices.raisedContents e cause code := by
    simp only [contents, notices]
    rfl
  rw [notices]
  refine ⟨s.notices.raised_cause_same e cause code, fun e' ne => s.notices.raised_cause_ne e cause code ne,
    fun n small => s.notices.raised_pending_bit e cause code small, rfl, rfl, rfl, rfl, ?silent, fun idle unmasked => ?notifies, ?frame⟩
  case silent =>
    intro known
    have silent : t = s.setNotices (s.notices.raised e cause code) := State.raise_silent known
    rw [silent]
    exact ⟨rfl, rfl⟩
  case notifies =>
    obtain ⟨u, loop, orders, queued⟩ : ∃ u : State, u.loop = s.loop ∧ u.orders = s.orders ∧ t = u.queueNotice contents :=
      ⟨s.setNotices (s.notices.raised e cause code), rfl, rfl, told ▸ State.raise_notifies idle unmasked⟩
    rw [queued, ← loop, ← orders]
    refine ⟨fun answers room => ?room, fun dst p named rest fifo behind full => ?full, fun before old after fifo alone => ?waiting⟩
    case room =>
      rw [State.queueNotice_new answers, State.enqueue_room _ _ room]
      exact ⟨rfl, rfl⟩
    case full =>
      have answers : ∀ w ∈ u.loop.fifo, w.isNotice = false := by
        rw [fifo]
        exact List.forall_mem_cons.mpr ⟨rfl, behind⟩
      rw [State.queueNotice_new answers, State.enqueue, State.makeRoom_full (before := []) full fifo (List.forall_mem_nil _)]
      exact ⟨rfl, rfl⟩
    case waiting =>
      rw [State.queueNotice_waiting fifo alone]
      exact ⟨rfl, rfl⟩
  case frame => exact (congrArg (fun u : State => { u with notices := s.notices }) (s.raise_frame e cause code) :)

end Sys2Proof.Machine
end

section
/-! SUPPORT. CLEAR COUNTERS (R189): the 46 counters as a list, what an order leaves of the loop counters, and the statement
on it. -/

namespace Sys2Proof.Machine

/-! ### The list of counters (R184) -/

/-- Of the 46 counters the settled state leaves out the answer-drop counter alone, which is a loop counter. -/
theorem State.Settles.counterList_eq {t u : State} (settles : t.Settles u) (loop : t.loop.counters = u.loop.counters) :
    t.counterList = u.counterList := by
  have matcher : t.matcher = u.matcher := (congrArg State.matcher settles.rest :)
  have monitors : t.monitors = u.monitors := (congrArg State.monitors settles.rest :)
  have engines : t.engines = u.engines := (congrArg State.engines settles.rest :)
  simp only [State.counterList, loop, matcher, monitors, engines]

theorem State.clearCounters_counterList (s : State) : s.clearCounters.counterList = List.replicate 46 0 := rfl

/-! ### The course of an order and the loop unit -/

/-- The locked rate, the receiver and the guard are all that hearing an order moves, none of them a queue (R4, R8, R11). -/
theorem LoopUnit.heard_fifo (l : LoopUnit) (ms : Nat) : (l.heard ms).fifo = l.fifo := by
  by_cases search : l.state = .search <;> simp [LoopUnit.heard, LoopUnit.lockedRate, search]

/-- The arbiter's one choice counts nothing (R22, R24). -/
theorem State.ArbiterChose.counters_eq {u t : State} (chose : u.ArbiterChose t) : t.loop.counters = u.loop.counters := by
  by_cases rests : u.loop.state ≠ .held ∨ u.loop.leaveAwaiting = true ∨ u.loop.out ≠ .free
  · rw [(chose.rests rests).1]
  · simp only [ne_eq, not_or, not_not, Bool.not_eq_true] at rests
    obtain ⟨held, staying, free⟩ := rests
    cases waiting : u.loop.repeats with
    | cons g rest => rw [(chose.repeats held staying free g rest waiting).1]
    | nil =>
      obtain ⟨loop, -⟩ | ⟨-, -, w, rest, x, f, -, loop, -⟩ | ⟨-, d, f, cls, since, -, -, loop, -⟩ :=
        chose.originates held staying free waiting <;> rw [loop]

/-- An event that queues a telegram in a FIFO with room counts nothing at its end: no ANSWER is dropped (R21, R24). -/
theorem State.conclude_enqueue_counters (s before : State) (w : Waiting) (calm : s.orders.restart = .clear)
    (room : s.loop.fifo.length < 4) : ((s.enqueue w).conclude before).loop.counters = s.loop.counters := by
  have queued := State.enqueue_room s w room
  have unrequested : (s.enqueue w).orders.restart ≠ .requested := by simp [queued, calm]
  rw [(State.conclude_chose _ before unrequested).counters_eq, queued]
  rfl

/-- The next state of a judged order's command: the judgement's, with the ANSWER queued and the event concluded (R182). -/
theorem judgedOrder_next {s after : State} {dt : Nat} {src : Byte} {o : Order} {run : State → State × Reply} {r : Reply}
    (listens : s.Listens src) (len : (encodeOrder o).length ≤ 12) (judged : run (s.heard dt) = (after, r)) :
    judgedOrder dt src o run s = .next ((after.enqueue (.answer src (answerPayload o.code r) false)).conclude (s.elapse dt)) := by
  rw [judgedOrder, orderEvent, event_awake _ _ _ listens.awake, State.receive_order s dt src _ _ listens len, answerOrder, judged]

/-- Settles O46: the judgement clears the counters, and with room for the ANSWER neither its queueing nor the arbiter counts. -/
theorem clearCountersZeroesAll : Obligations.ClearCountersZeroesAll := by
  intro s dt src listens
  have calm : (s.heard dt).clearCounters.orders.restart = .clear := listens.calm
  obtain ⟨settles, answers⟩ := State.conclude_answer (s.heard dt).clearCounters (s.elapse dt) src [0x14, 0] calm
  have next := judgedOrder_next (dt := dt) (o := .clearCounters) (run := judgeClearCounters) listens (by decide) rfl
  refine ⟨_, next, answers, fun room => ?_, settles⟩
  have fifo : (s.heard dt).clearCounters.loop.fifo = s.loop.fifo := LoopUnit.heard_fifo _ (s.elapse dt).ms
  have counters := State.conclude_enqueue_counters _ (s.elapse dt) (.answer src [0x14, 0] false) calm (fifo ▸ room)
  exact (settles.counterList_eq counters).trans (s.heard dt).clearCounters_counterList

end Sys2Proof.Machine
end

section
/-! SUPPORT. The step, the arbiter's one choice case by case, the frames of the stop and the start, and the store's check sum (R192). -/

namespace Sys2Proof.Machine

/-- Settles O1: both equations are the step's own. -/
theorem stepTakesFrontOrIdles : Obligations.StepTakesFrontOrIdles := by
  refine ⟨fun c rest s front => ?_, fun s empty => ?_⟩
  · rw [step, front]
  · rw [step, empty]

/-- A step idles, or is the meaning of the command at the front on the queue's rest. -/
theorem step_cases {s t : State} (next : step s = .next t) :
    t = s ∨ ∃ c rest, s.pending = c :: rest ∧ exec c { s with pending := rest } = .next t := by
  cases front : s.pending with
  | nil =>
    rw [stepTakesFrontOrIdles.2 s front] at next
    cases next
    exact .inl rfl
  | cons c rest =>
    rw [stepTakesFrontOrIdles.1 c rest s front] at next
    exact .inr ⟨c, rest, rfl, next⟩

/-! ### What a command does -/

/-- A part hears the good ORDER telegram that carries an order (R182; log entry 6). -/
def State.hearOrder (src : Byte) (o : Order) (s : State) : State := s.receive (s.orderFrame src (encodeOrder o)) (takeOrder src o)

/-- The effect of a command that is taken as an event, with the time before it; none for the four commands of the start logic. -/
def commandEffect : Instr → Option (Nat × (State → State))
  | .telegramComplete dt f => some (dt, fun t => t.receive f (takeOrder f.src (decodeOrder f.payload)))
  | .lineBreak dt cause => some (dt, fun t => t.lineBreak cause)
  | .lengthError dt => some (dt, fun t => t.lengthError)
  | .lengthIdleEnd dt => some (dt, fun t => t.lengthIdle)
  | .searchDwellExpiry dt => some (dt, fun t => t.dwellExpiry)
  | .loopGuardExpiry dt => some (dt, fun t => t.guardExpiry)
  | .returnDeadlineExpiry dt => some (dt, fun t => t.returnExpiry)
  | .loopOutFree dt => some (dt, fun t => t.outFree)
  | .lastByteSent dt => some (dt, fun t => t.lastByteSent)
  | .unknownOrder dt src payload => some (dt, fun t => t.receive (t.orderFrame src payload) (takeOrder src (decodeOrder payload)))
  | .refreshDue dt d => some (dt, fun t => t.refresh d)
  | .framePulse dt h => some (dt, fun t => t.pulse h)
  | .slowTimerExpiry dt h => some (dt, fun t => t.slowExpiry h)
  | .stopTimerExpiry dt h => some (dt, fun t => t.stopExpiry h)
  | .idleTimerExpiry dt h => some (dt, fun t => t.idleExpiry h)
  | .strikeTimerExpiry dt h => some (dt, fun t => t.strikeExpiry h)
  | .staleTimerExpiry dt h => some (dt, fun t => t.staleExpiry h)
  | .runupDeadlineExpiry dt k => some (dt, fun t => t.runupExpiry k)
  | .fadeStep dt k => some (dt, fun t => t.fadeStep k)
  | .linkChange dt k opened => some (dt, fun t => t.linkLevel k opened)
  | .detectorExpiry dt k source => some (dt, fun t => t.detectorExpiry k source)
  | .panelGuardExpiry dt => some (dt, fun t => t.panelExpiry)
  | .quietTimerExpiry dt => some (dt, fun t => t.quietExpiry)
  | .writeReact dt src p => some (dt, State.hearOrder src (.writeReact p))
  | .lock dt src => some (dt, State.hearOrder src .lock)
  | .writeMap dt src index station code => some (dt, State.hearOrder src (.writeMap index station code))
  | .writeLamp dt src head item value => some (dt, State.hearOrder src (.writeLamp head item value))
  | .trim dt src head length => some (dt, State.hearOrder src (.trim head length))
  | .writeReel dt src p => some (dt, State.hearOrder src (.writeReel p))
  | .splitPoint dt src n => some (dt, State.hearOrder src (.splitPoint n))
  | .showArm dt src target start => some (dt, State.hearOrder src (.showFn 1 target start))
  | .showThread dt src target start => some (dt, State.hearOrder src (.showFn 9 target start))
  | .showStart dt src target start => some (dt, State.hearOrder src (.showFn 2 target start))
  | .showHalt dt src target start => some (dt, State.hearOrder src (.showFn 4 target start))
  | .showResume dt src target start => some (dt, State.hearOrder src (.showFn 5 target start))
  | .showChange dt src target start => some (dt, State.hearOrder src (.showFn 3 target start))
  | .showLightsUp dt src target start => some (dt, State.hearOrder src (.showFn 6 target start))
  | .showLightsDown dt src target start => some (dt, State.hearOrder src (.showFn 7 target start))
  | .showLightsAuto dt src target start => some (dt, State.hearOrder src (.showFn 8 target start))
  | .showStrike dt src target start => some (dt, State.hearOrder src (.showFn 10 target start))
  | .showFireDrop dt src target start => some (dt, State.hearOrder src (.showFn 11 target start))
  | .showFireReset dt src target start => some (dt, State.hearOrder src (.showFn 12 target start))
  | .showBadFunction dt src fn target start => some (dt, State.hearOrder src (.showFn fn target start))
  | .curvePoint dt src house entry => some (dt, State.hearOrder src (.curvePoint house entry))
  | .curveDataHouse1 dt src bytes => some (dt, State.hearOrder src (.curveData .one bytes))
  | .curveDataHouse2 dt src bytes => some (dt, State.hearOrder src (.curveData .two bytes))
  | .ack dt src marks => some (dt, State.hearOrder src (.ack marks))
  | .mask dt src marks => some (dt, State.hearOrder src (.mask marks))
  | .endAlert dt src => some (dt, State.hearOrder src .endAlert)
  | .leave dt src => some (dt, State.hearOrder src .leave)
  | .join dt src => some (dt, State.hearOrder src .join)
  | .readReactionEntry dt src a b page => some (dt, State.hearOrder src (.read 1 a b page))
  | .readMapEntry dt src a b page => some (dt, State.hearOrder src (.read 2 a b page))
  | .readReelRecord dt src a b page => some (dt, State.hearOrder src (.read 3 a b page))
  | .readLampRecord dt src a b page => some (dt, State.hearOrder src (.read 4 a b page))
  | .readLampState dt src a b page => some (dt, State.hearOrder src (.read 5 a b page))
  | .readCurveEntry dt src a b page => some (dt, State.hearOrder src (.read 6 a b page))
  | .readSettingsItem dt src a b page => some (dt, State.hearOrder src (.read 7 a b page))
  | .readCounters dt src a b page => some (dt, State.hearOrder src (.read 8 a b page))
  | .readLoopState dt src a b page => some (dt, State.hearOrder src (.read 9 a b page))
  | .readHouseState dt src a b page => some (dt, State.hearOrder src (.read 10 a b page))
  | .readHeadMonitor dt src a b page => some (dt, State.hearOrder src (.read 11 a b page))
  | .readFireState dt src a b page => some (dt, State.hearOrder src (.read 12 a b page))
  | .readNoticeSet dt src a b page => some (dt, State.hearOrder src (.read 13 a b page))
  | .setupLoopGuardTime dt src index value => some (dt, State.hearOrder src (.setup 1 index value))
  | .setupReturnLimit dt src index value => some (dt, State.hearOrder src (.setup 2 index value))
  | .setupRefreshPeriod dt src index value => some (dt, State.hearOrder src (.setup 3 index value))
  | .setupConsoleAddress dt src index value => some (dt, State.hearOrder src (.setup 4 index value))
  | .setupServiceFlag dt src index value => some (dt, State.hearOrder src (.setup 5 index value))
  | .setupNominalRate dt src index value => some (dt, State.hearOrder src (.setup 6 index value))
  | .setupStopLimit dt src index value => some (dt, State.hearOrder src (.setup 7 index value))
  | .setupIdleLimit dt src index value => some (dt, State.hearOrder src (.setup 8 index value))
  | .setupRunupLimit dt src index value => some (dt, State.hearOrder src (.setup 9 index value))
  | .setupStrikeLead dt src index value => some (dt, State.hearOrder src (.setup 10 index value))
  | .setupRunout dt src index value => some (dt, State.hearOrder src (.setup 11 index value))
  | .setupIdlePosition dt src index value => some (dt, State.hearOrder src (.setup 12 index value))
  | .setupFaultPosition dt src index value => some (dt, State.hearOrder src (.setup 13 index value))
  | .setupIntervalPosition dt src index value => some (dt, State.hearOrder src (.setup 14 index value))
  | .setupEndPosition dt src index value => some (dt, State.hearOrder src (.setup 15 index value))
  | .setupFastFadeTime dt src index value => some (dt, State.hearOrder src (.setup 16 index value))
  | .setupDetectorHoldTime dt src index value => some (dt, State.hearOrder src (.setup 17 index value))
  | .setupConfirmWindow dt src index value => some (dt, State.hearOrder src (.setup 18 index value))
  | .setupPanelGuardTime dt src index value => some (dt, State.hearOrder src (.setup 19 index value))
  | .setupQuietTime dt src index value => some (dt, State.hearOrder src (.setup 20 index value))
  | .setupBadItem dt src item index value => some (dt, State.hearOrder src (.setup item index value))
  | .address dt src a lockFlag => some (dt, State.hearOrder src (.address a lockFlag))
  | .clearCounters dt src => some (dt, State.hearOrder src .clearCounters)
  | .restart dt src => some (dt, State.hearOrder src .restart)
  | _ => none

/-- The lines as a command finds them: a LINK change has moved its line before the event is taken (R155). -/
def State.withLines (s : State) : Instr → State
  | .linkChange _ k opened => { s with starter := { s.starter with link := s.starter.link.set k opened } }
  | _ => s

/-- A command with an effect is that effect taken as an event. -/
theorem exec_eq_event {c : Instr} {dt : Nat} {f : State → State} (effect : commandEffect c = some (dt, f)) (s : State) :
    exec c s = event dt f (s.withLines c) := by
  cases c <;> cases effect <;> rfl

/-- What a command does: it is an event, the stop of a supply fall or of a reset, or the end of a stop. -/
theorem exec_cases (c : Instr) (s : State) :
    (∃ dt f, commandEffect c = some (dt, f) ∧ exec c s = event dt f (s.withLines c)) ∨
    (∃ dt, (c = .supplyFail dt ∧ exec c s = .next (s.elapse dt).supplyFail) ∨
      (c = .resetAssert dt ∧ exec c s = .next (s.elapse dt).resetAssert)) ∨
    ∃ dt clear, (c = .supplyReturn dt clear ∧ exec c s = .next ((s.elapse dt).supplyReturn clear)) ∨
      (c = .resetRelease dt clear ∧ exec c s = .next ((s.elapse dt).resetRelease clear)) := by
  cases effect : commandEffect c with
  | some e => exact .inl ⟨e.1, e.2, rfl, exec_eq_event effect s⟩
  | none =>
    cases c with
    | supplyFail dt => exact .inr (.inl ⟨dt, .inl ⟨rfl, rfl⟩⟩)
    | resetAssert dt => exact .inr (.inl ⟨dt, .inr ⟨rfl, rfl⟩⟩)
    | supplyReturn dt clear => exact .inr (.inr ⟨dt, clear, .inl ⟨rfl, rfl⟩⟩)
    | resetRelease dt clear => exact .inr (.inr ⟨dt, clear, .inr ⟨rfl, rfl⟩⟩)
    | _ => cases effect

/-- An event in a stopped part lets time pass; in a running one it makes its effect and concludes (R193). -/
theorem event_cases {dt : Nat} {f : State → State} {s t : State} (next : event dt f s = .next t) :
    (s.starter.stopped = true ∧ t = s.elapse dt) ∨
      (s.starter.stopped = false ∧ t = (f (s.elapse dt)).conclude (s.elapse dt)) := by
  cases stopped : s.starter.stopped with
  | true => rw [event_stopped dt f s stopped] at next; cases next; exact .inl ⟨rfl, rfl⟩
  | false => rw [event_awake dt f s stopped] at next; cases next; exact .inr ⟨rfl, rfl⟩

/-! ### The arbiter's one choice -/

/-- The arbiter may choose: the loop is HELD, no LEAVE awaits its move and LOOP OUT is free (R22). -/
def State.MayChoose (s : State) : Prop := s.loop.state = .held ∧ s.loop.leaveAwaiting = false ∧ s.loop.out = .free

/-- What the arbiter does: nothing, or it starts a repeat, the head of the answer/notice FIFO or a waiting drive entry (R22). -/
theorem State.arbitrate_cases (s : State) :
    s.arbitrate = s ∨
    s.MayChoose ∧
      ((∃ f rest, s.loop.repeats = f :: rest ∧
          s.arbitrate = s.setLoop { s.loop with repeats := rest, out := .sending (.repeated f) }) ∨
        s.loop.transit.length < 4 ∧
          ((∃ w rest, s.loop.fifo = w :: rest ∧ s.arbitrate = s.startWaiting w rest) ∨
            ∃ d cls since, s.DriveWaits d cls since ∧ s.arbitrate = s.startDrive d cls since)) := by
  by_cases may : s.loop.state = .held ∧ s.loop.leaveAwaiting = false ∧ s.loop.out = .free
  · rw [State.arbitrate, if_pos may, State.choose]
    cases waiting : s.loop.repeats with
    | cons f rest => exact .inr ⟨may, .inl ⟨f, rest, rfl, rfl⟩⟩
    | nil =>
      by_cases room : s.loop.transit.length < 4
      · simp only [if_pos room]
        obtain none | ⟨w, rest, fifo, starts⟩ | ⟨d, cls, since, waits, starts⟩ := s.startOriginated_cases
        · exact .inl none
        · exact .inr ⟨may, .inr ⟨room, .inl ⟨w, rest, fifo, starts⟩⟩⟩
        · exact .inr ⟨may, .inr ⟨room, .inr ⟨d, cls, since, waits, starts⟩⟩⟩
      · exact .inl (if_neg room)
  · exact .inl (if_neg may)

theorem State.startWaiting_frame (s : State) (w : Waiting) (rest : List Waiting) :
    { s.startWaiting w rest with loop := s.loop } = s := by
  cases w <;> rfl

theorem State.startDrive_frame (s : State) (d : DriveId) (cls : DriveClass) (since : Nat) :
    { s.startDrive d cls since with loop := s.loop, drive := s.drive } = s := rfl

/-- The arbiter moves the loop unit and the drive table alone. -/
theorem State.arbitrate_frame (s : State) : { s.arbitrate with loop := s.loop, drive := s.drive } = s := by
  obtain none | ⟨-, ⟨_, _, -, starts⟩ | ⟨-, ⟨w, rest, -, starts⟩ | ⟨_, _, _, -, starts⟩⟩⟩ := s.arbitrate_cases
  · rw [none]
  · rw [starts]; rfl
  · rw [starts]; exact congrArg (fun t : State => { t with drive := s.drive }) (s.startWaiting_frame w rest)
  · rw [starts]; exact s.startDrive_frame ..

/-! ### The retained contents (R192) -/

/-- The contents of the store are part of the settled state. -/
theorem State.settled_retained (s : State) : s.settled.retained = s.retained := by
  have map : (s.drive.entries.map DriveEntry.settled).cells.flatMap (fun e => [e.station, e.fn]) =
      s.drive.entries.cells.flatMap (fun e => [e.station, e.fn]) := List.flatMap_map ..
  unfold State.retained State.settled
  dsimp only
  rw [map]

theorem State.Settles.retained {t u : State} (settles : t.Settles u) : t.retained = u.retained := by
  rw [← t.settled_retained, ← u.settled_retained, settles.rest]

/-- Moments and the queue are no part of the contents. -/
@[simp] theorem State.elapse_retained (s : State) (dt : Nat) : (s.elapse dt).retained = s.retained := rfl

/-- A stop moves no content of the store: the lines are not kept in it. -/
@[simp] theorem State.beginStop_retained (s : State) : s.beginStop.retained = s.retained := by
  unfold State.retained State.beginStop
  simp only [PerHead.toList, PerHead.map, PerHouse.map]
  rfl

theorem State.StoreKept.of_eq {s t : State} (kept : s.StoreKept) (sum : t.checkSum = s.checkSum) (retained : t.retained = s.retained) :
    t.StoreKept := by
  rw [State.StoreKept, sum, retained]
  exact kept

theorem State.arbitrate_kept {s : State} (kept : s.StoreKept) : s.arbitrate.StoreKept :=
  kept.of_eq (congrArg State.checkSum s.arbitrate_frame :) s.arbitrate_settles.retained

theorem State.coldStart_kept (s : State) : s.coldStart.StoreKept := State.sealFrom_kept (State.writeStore_kept _)

/-- A start leaves the sum true, whichever it is: a cold one writes the store afresh. -/
theorem State.startUp_kept (s : State) (clearHeld : Bool) (code : Code) : (s.startUp clearHeld code).StoreKept := by
  unfold State.startUp
  split
  · exact s.coldStart_kept
  · rename_i verifies
    have kept : s.StoreKept := s.sumVerifies_iff.mp (by simp at verifies; exact verifies.1)
    exact State.sealFrom_kept kept

theorem State.restartNow_kept {s : State} (kept : s.StoreKept) : s.restartNow.StoreKept := by
  unfold State.restartNow
  split
  · exact kept.of_eq rfl s.beginStop_retained
  · exact State.startUp_kept ..

theorem State.conclude_kept {b : State} (s : State) (kept : b.StoreKept) : (s.conclude b).StoreKept := by
  have sealed : (s.sealFrom b).StoreKept := State.sealFrom_kept kept
  unfold State.conclude
  dsimp only
  split
  · exact State.restartNow_kept sealed
  · exact State.arbitrate_kept sealed

theorem State.endStop_kept {s : State} (kept : s.StoreKept) : s.endStop.StoreKept := by
  unfold State.endStop
  split
  · exact State.startUp_kept ..
  · exact kept

theorem State.supplyFail_kept {s : State} (kept : s.StoreKept) : s.supplyFail.StoreKept := by
  unfold State.supplyFail
  dsimp only
  split
  · exact kept
  · exact kept.of_eq rfl s.beginStop_retained

theorem State.resetAssert_kept {s : State} (kept : s.StoreKept) : s.resetAssert.StoreKept := by
  unfold State.resetAssert
  dsimp only
  split
  · exact kept
  · exact kept.of_eq rfl s.beginStop_retained

theorem State.withLines_kept {s : State} (c : Instr) (kept : s.StoreKept) : (s.withLines c).StoreKept := by
  cases c <;> exact kept

theorem exec_kept {c : Instr} {s t : State} (run : exec c s = .next t) (kept : s.StoreKept) : t.StoreKept := by
  obtain ⟨dt, f, -, e⟩ | ⟨dt, ⟨-, e⟩ | ⟨-, e⟩⟩ | ⟨dt, clear, ⟨-, e⟩ | ⟨-, e⟩⟩ := exec_cases c s
  · obtain ⟨-, rfl⟩ | ⟨-, rfl⟩ := event_cases (e.symm.trans run)
    · exact State.withLines_kept c kept
    · exact State.conclude_kept _ (State.withLines_kept c kept)
  all_goals cases e.symm.trans run
  · exact State.supplyFail_kept kept
  · exact State.resetAssert_kept kept
  · exact State.endStop_kept kept
  · exact State.endStop_kept kept

/-- Settles O58: the end of every event writes or leaves the sum, a start writes it or finds it true, and the stop moves no content. -/
theorem checkSumFollowsContents : Obligations.CheckSumFollowsContents := by
  intro s t kept next
  obtain rfl | ⟨c, rest, -, run⟩ := step_cases next
  · exact kept
  · exact exec_kept run kept

end Sys2Proof.Machine
end

section
/-! SUPPORT. What the operations of a house leave of each other: `Steady` for the rest of the part, `LampSide` for what lamps and monitors
leave of the pictures and lights, `ShowSide` for what pictures and lights leave of the lamps and monitors. -/

namespace Sys2Proof.Machine

/-! ### The answer/notice FIFO within its bounds (R21) -/

/-- The answer/notice FIFO holds at most 4, with at most one NOTICE (R21). -/
def LoopUnit.Bounded (l : LoopUnit) : Prop := l.fifo.length ≤ 4 ∧ l.fifo.countP Waiting.isNotice ≤ 1

theorem State.requestStart_loop (s : State) : s.requestStart.loop = s.loop := by
  unfold State.requestStart
  split <;> rfl

theorem State.makeRoom_fifo (s : State) :
    s.makeRoom.loop.fifo = if s.loop.fifo.length < 4 then s.loop.fifo else s.loop.fifo.eraseP Waiting.isAnswer := by
  unfold State.makeRoom
  dsimp only
  split
  · rfl
  · split <;> simp [State.requestStart_loop]

/-- A full FIFO with one NOTICE at most holds an ANSWER to drop, so that there is room afterwards. -/
theorem State.makeRoom_room {s : State} (bounded : s.loop.Bounded) :
    s.makeRoom.loop.fifo.length ≤ 3 ∧
      s.makeRoom.loop.fifo.countP Waiting.isNotice ≤ s.loop.fifo.countP Waiting.isNotice := by
  obtain ⟨length, notices⟩ := bounded
  rw [State.makeRoom_fifo]
  split
  · omega
  · have answer : ∃ w ∈ s.loop.fifo, w.isAnswer = true := by
      by_contra none
      have all : s.loop.fifo.countP Waiting.isNotice = s.loop.fifo.length :=
        List.countP_eq_length.mpr fun w mem => by
          simp only [not_exists, not_and] at none
          simp [Waiting.isNotice, none w mem]
      omega
    obtain ⟨w, mem, isAnswer⟩ := answer
    rw [List.length_eraseP_of_mem mem isAnswer]
    exact ⟨by omega, List.Sublist.countP_le List.eraseP_sublist⟩

theorem State.enqueue_fifo (s : State) (w : Waiting) : (s.enqueue w).loop.fifo = s.makeRoom.loop.fifo ++ [w] := rfl

/-- An ANSWER queued, and a NOTICE queued when none waits, keep the bounds. -/
theorem State.enqueue_bounded {s : State} {w : Waiting} (bounded : s.loop.Bounded)
    (single : w.isNotice = true → s.loop.fifo.countP Waiting.isNotice = 0) : (s.enqueue w).loop.Bounded := by
  obtain ⟨room, notices⟩ := State.makeRoom_room bounded
  rw [LoopUnit.Bounded, State.enqueue_fifo, List.length_append, List.countP_append]
  refine ⟨by simp; omega, ?_⟩
  cases isNotice : w.isNotice with
  | false => simpa [isNotice] using notices.trans bounded.2
  | true =>
    rw [single isNotice] at notices
    simpa [isNotice] using notices

theorem State.queueNotice_bounded {s : State} (c : NoticeContents) (bounded : s.loop.Bounded) : (s.queueNotice c).loop.Bounded := by
  unfold State.queueNotice
  split
  · refine ⟨by simpa using bounded.1, ?_⟩
    have same : (Waiting.isNotice ∘ fun w => if w.isNotice then .notice c else w) = Waiting.isNotice := by
      funext w
      cases w <;> rfl
    rw [State.setLoop_loop, List.countP_map, same]
    exact bounded.2
  · rename_i none
    refine State.enqueue_bounded bounded fun _ => List.countP_eq_zero.mpr fun w mem => ?_
    simp only [List.any_eq_true, not_exists, not_and] at none
    exact none w mem

theorem State.raise_bounded {s : State} (e : Event) (c : Cause) (code : Option Code) (bounded : s.loop.Bounded) :
    (s.raise e c code).loop.Bounded := by
  unfold State.raise
  dsimp only
  split
  · exact bounded
  · exact State.queueNotice_bounded _ bounded

/-! ### The bits of the notice unit -/

/-- The ALERT line stands as its condition says (R179). -/
def NoticeUnit.AlertTrue (n : NoticeUnit) : Prop := n.alert = n.alertCondition

theorem NoticeUnit.rejudge_alertTrue (n : NoticeUnit) : n.rejudge.AlertTrue := rfl

theorem NoticeUnit.raised_isPending (n : NoticeUnit) (e : Event) (c : Cause) (code : Option Code) (e' : Event) :
    (n.raised e c code).isPending e' = (n.isPending e' || decide (e' = e)) := by
  unfold NoticeUnit.isPending
  rw [NoticeUnit.raised_pending_bit n e c code e'.num.isLt]
  simp only [Fin.val_inj, Event.num_injective.eq_iff]


/-! ### What every operation of a house leaves -/

/-- What an operation of a house leaves of the rest of the part, the FIRE bits included: the tables, the queue of commands, the loop unit
but for its answer/notice FIFO within its bounds, the fire unit, and an ALERT line true to its rule. -/
structure State.Steady (s t : State) : Prop where
  now : t.now = s.now
  pending : t.pending = s.pending
  matcher : t.matcher = s.matcher
  programme : t.programme = s.programme
  starter : t.starter = s.starter
  fire : t.fire = s.fire
  loop : t.loop.quieted = s.loop.quieted
  bounded : s.loop.Bounded → t.loop.Bounded
  mask : t.notices.mask = s.notices.mask
  bits : ∀ k, t.notices.isPending (fireEvent k) = s.notices.isPending (fireEvent k)
  alert : s.notices.AlertTrue → t.notices.AlertTrue

namespace State.Steady

variable {s t u : State}

theorem trans (a : Steady s t) (b : Steady t u) : Steady s u where
  now := b.now.trans a.now
  pending := b.pending.trans a.pending
  matcher := b.matcher.trans a.matcher
  programme := b.programme.trans a.programme
  starter := b.starter.trans a.starter
  fire := b.fire.trans a.fire
  loop := b.loop.trans a.loop
  bounded h := b.bounded (a.bounded h)
  mask := b.mask.trans a.mask
  bits k := (b.bits k).trans (a.bits k)
  alert h := b.alert (a.alert h)

/-- A state that differs in the heads, the houses and the drive table alone. -/
theorem of_heads (rest : { t with
      monitors := s.monitors, lamps := s.lamps, slots := s.slots, engines := s.engines, lights := s.lights, drive := s.drive } = s) :
    Steady s t where
  now := (congrArg State.now rest :)
  pending := (congrArg State.pending rest :)
  matcher := (congrArg State.matcher rest :)
  programme := (congrArg State.programme rest :)
  starter := (congrArg State.starter rest :)
  fire := (congrArg State.fire rest :)
  loop := (congrArg (fun s => s.loop.quieted) rest :)
  bounded h := by rw [show t.loop = s.loop from (congrArg State.loop rest :)]; exact h
  mask := (congrArg (fun s => s.notices.mask) rest :)
  bits k := (congrArg (fun s => s.notices.isPending (fireEvent k)) rest :)
  alert h := by rw [show t.notices = s.notices from (congrArg State.notices rest :)]; exact h

/-- A raise of an event that is not a house's FIRE (R175). -/
theorem raise (s : State) (e : Event) (c : Cause) (code : Option Code) (other : ∀ k, fireEvent k ≠ e) : Steady s (s.raise e c code) :=
  have l := State.Local.raise .one s e c code
  { now := l.now, pending := l.pending, matcher := l.matcher, programme := l.programme, starter := l.starter
    fire := s.raise_fire e c code
    loop := l.loop
    bounded := State.raise_bounded e c code
    mask := l.mask
    bits := fun k => by rw [State.raise_notices, NoticeUnit.raised_isPending, decide_eq_false (other k), Bool.or_false]
    alert := fun _ => by rw [State.raise_notices]; exact NoticeUnit.rejudge_alertTrue _ }

theorem inFire (a : Steady s t) (k : House) : t.inFire k = s.inFire k := by
  unfold State.inFire State.fireOf
  rw [a.fire]

theorem fireOf (a : Steady s t) (k : House) : t.fireOf k = s.fireOf k := by
  simp only [State.fireOf, a.fire]

theorem queues (a : Steady s t) (kept : s.QueuesKept) : t.QueuesKept := by
  have field : ∀ {α : Type} (f : LoopUnit → α), (∀ l, f l.quieted = f l) → f t.loop = f s.loop := fun f quiet => by
    rw [← quiet t.loop, a.loop, quiet]
  have repeats := field LoopUnit.repeats fun _ => rfl
  have transit := field LoopUnit.transit fun _ => rfl
  have losses := field LoopUnit.losses fun _ => rfl
  have state := field LoopUnit.state fun _ => rfl
  obtain ⟨fifo, notices⟩ := a.bounded ⟨kept.fifo, kept.notices⟩
  exact ⟨repeats ▸ kept.repeats, transit ▸ kept.transit, fifo, notices, losses ▸ kept.losses, by
    rw [state, transit, losses]; exact kept.search, by rw [state, repeats]; exact kept.held⟩

end State.Steady

/-! ### The lamp side -/

/-- What lamps and monitors leave: the pictures and the lights, but that a douser may be closed. -/
structure State.LampSide (s t : State) : Prop where
  steady : s.Steady t
  slots : t.slots = s.slots
  engines : t.engines = s.engines
  lights : t.lights = s.lights
  dousers : ∀ h, (t.entry (.douser h)).value = (s.entry (.douser h)).value ∨ (t.entry (.douser h)).value = .douser false
  sounds : ∀ k, (t.entry (.sound k)).value = (s.entry (.sound k)).value

namespace State.LampSide

variable {s t u : State}

theorem trans (a : LampSide s t) (b : LampSide t u) : LampSide s u where
  steady := a.steady.trans b.steady
  slots := b.slots.trans a.slots
  engines := b.engines.trans a.engines
  lights := b.lights.trans a.lights
  dousers h := (b.dousers h).elim (fun same => (a.dousers h).imp same.trans same.trans) .inr
  sounds k := (b.sounds k).trans (a.sounds k)

/-- A state that differs in the monitors, the lamps and the drive table, and of that in no picture but a closed douser. -/
theorem of_lamps (rest : { t with monitors := s.monitors, lamps := s.lamps, drive := s.drive } = s)
    (dousers : ∀ h, (t.entry (.douser h)).value = (s.entry (.douser h)).value ∨ (t.entry (.douser h)).value = .douser false)
    (sounds : ∀ k, (t.entry (.sound k)).value = (s.entry (.sound k)).value) : LampSide s t where
  steady := .of_heads (congrArg (fun t : State =>
    { t with slots := s.slots, engines := s.engines, lights := s.lights }) rest :)
  slots := (congrArg State.slots rest :)
  engines := (congrArg State.engines rest :)
  lights := (congrArg State.lights rest :)
  dousers := dousers
  sounds := sounds

theorem refl (s : State) : LampSide s s := of_lamps rfl (fun _ => .inl rfl) fun _ => rfl

theorem setMon (s : State) (h : Head) (m : Monitor) : LampSide s (s.setMon h m) := of_lamps rfl (fun _ => .inl rfl) fun _ => rfl

theorem setLamp (s : State) (h : Head) (l : Lamp) : LampSide s (s.setLamp h l) := of_lamps rfl (fun _ => .inl rfl) fun _ => rfl

/-- A write that opens no douser and is no sound (R40). -/
theorem writeDrive (s : State) {d : DriveId} {v : DriveVal} (douser : ∀ h, d = .douser h → v = .douser false)
    (sound : ∀ k, d ≠ .sound k) : LampSide s (s.writeDrive d v) := by
  refine of_lamps rfl (fun h => ?_) fun k => ?_
  · rw [State.writeDrive_value]
    split
    · exact .inr (douser h (Eq.symm ‹_›))
    · exact .inl rfl
  · rw [State.writeDrive_value, if_neg (sound k).symm]

theorem raise (s : State) (e : Event) (c : Cause) (code : Option Code) (other : ∀ k, fireEvent k ≠ e) :
    LampSide s (s.raise e c code) where
  steady := .raise s e c code other
  slots := s.raise_slots e c code
  engines := PerHouse.ext_get (s.raise_eng e c code)
  lights := PerHouse.ext_get (s.raise_light e c code)
  dousers h := .inl (by rw [State.raise_entry])
  sounds k := by rw [State.raise_entry]

theorem rejudgeIdle (s : State) (h : Head) : LampSide s (s.rejudgeIdle h) := by
  unfold State.rejudgeIdle
  dsimp only
  split
  · split
    · exact refl s
    · exact setMon s h _
  · exact setMon s h _

theorem role (a : LampSide s t) (h : Head) : t.role h = s.role h := by
  unfold State.role State.slot
  rw [a.slots]

theorem eng (a : LampSide s t) (k : House) : t.eng k = s.eng k := by
  unfold State.eng
  rw [a.engines]

theorem light (a : LampSide s t) (k : House) : t.light k = s.light k := by
  unfold State.light
  rw [a.lights]

end State.LampSide

/-! ### The picture side -/

/-- What pictures and lights leave: the lamps with their feeds, and the monitors but for their idle timers. -/
structure State.ShowSide (s t : State) : Prop where
  steady : s.Steady t
  lamps : t.lamps = s.lamps
  monitors : ∀ h, { t.mon h with idleTimer := (s.mon h).idleTimer } = s.mon h
  feeds : ∀ h, (t.entry (.feed h)).value = (s.entry (.feed h)).value

namespace State.ShowSide

variable {s t u : State}

theorem trans (a : ShowSide s t) (b : ShowSide t u) : ShowSide s u where
  steady := a.steady.trans b.steady
  lamps := b.lamps.trans a.lamps
  monitors h := by
    rw [← a.monitors h, ← b.monitors h]
  feeds h := (b.feeds h).trans (a.feeds h)

/-- A state that differs in the slots, the engines, the lights and the drive table, and of that in no feed. -/
theorem of_shows (rest : { t with slots := s.slots, engines := s.engines, lights := s.lights, drive := s.drive } = s)
    (feeds : ∀ h, (t.entry (.feed h)).value = (s.entry (.feed h)).value) : ShowSide s t where
  steady := .of_heads (congrArg (fun t : State => { t with monitors := s.monitors, lamps := s.lamps }) rest :)
  lamps := (congrArg State.lamps rest :)
  monitors h := by rw [show t.mon h = s.mon h from (congrArg (fun s => s.mon h) rest :)]
  feeds := feeds

theorem refl (s : State) : ShowSide s s := of_shows rfl fun _ => rfl

theorem setSlot (s : State) (h : Head) (x : Slot) : ShowSide s (s.setSlot h x) := of_shows rfl fun _ => rfl

theorem setEng (s : State) (k : House) (e : Engine) : ShowSide s (s.setEng k e) := of_shows rfl fun _ => rfl

theorem setLight (s : State) (k : House) (l : LightUnit) : ShowSide s (s.setLight k l) := of_shows rfl fun _ => rfl

/-- A write that is no feed (R40). -/
theorem writeDrive (s : State) {d : DriveId} (v : DriveVal) (other : ∀ h, d ≠ .feed h) : ShowSide s (s.writeDrive d v) :=
  of_shows rfl fun h => by rw [State.writeDrive_value, if_neg (other h).symm]

theorem raise (s : State) (e : Event) (c : Cause) (code : Option Code) (other : ∀ k, fireEvent k ≠ e) :
    ShowSide s (s.raise e c code) where
  steady := .raise s e c code other
  lamps := s.raise_lamps e c code
  monitors h := by rw [State.mon, State.raise_monitors]; rfl
  feeds h := by rw [State.raise_entry]

theorem rejudgeIdle (s : State) (h : Head) : ShowSide s (s.rejudgeIdle h) := by
  have idle : ∀ t, ShowSide s (s.setMon h { s.mon h with idleTimer := t }) := fun t =>
    { steady := .of_heads rfl
      lamps := rfl
      monitors := fun h' => by
        rw [State.setMon_mon]
        split
        · rename_i same; rw [same]
        · rfl
      feeds := fun _ => rfl }
  unfold State.rejudgeIdle
  dsimp only
  split
  · split
    · exact refl s
    · exact idle _
  · exact idle _

theorem assign (s : State) (h : Head) (r : Role) (i : Option Nat) : ShowSide s (s.assign h r i) :=
  (setSlot s h _).trans (rejudgeIdle _ h)

theorem lamp (a : ShowSide s t) (h : Head) : t.lamp h = s.lamp h := by
  unfold State.lamp
  rw [a.lamps]

/-- Of a monitor nothing moves but the idle timer. -/
theorem mon (a : ShowSide s t) (h : Head) : t.mon h = { s.mon h with idleTimer := (t.mon h).idleTimer } := by
  rw [← a.monitors h]

theorem ready (a : ShowSide s t) (h : Head) : t.ready h = s.ready h := by
  unfold State.ready
  rw [a.lamp h, a.mon h]

end State.ShowSide

end Sys2Proof.Machine
end

section
/-! SUPPORT. `Meets c`: the conditions held at every moment that a set of claims names. The rules of the operations of lamps, monitors
and lights; the operations made of them compose. -/

namespace Sys2Proof.Machine

/-! ### The conditions in the form they take inside an event -/

/-- The direct lines and the gates of a part that is not stopped (R56, R66, R154, R179), but that the hold line of a head of `ajar` has
still to be judged anew. -/
structure State.LinesLive (ajar : Head → Prop) (s : State) : Prop where
  shut : ∀ h, ¬ ajar h → (s.mon h).hold = s.holdCondition h
  arc : ∀ h, (s.lamp h).contactor = (s.lamp h).state.isLit
  port : ∀ k, (s.fireOf k).port = !s.inFire k
  gate : ∀ k, (s.fireOf k).gate = !s.inFire k
  alert : s.notices.AlertTrue
  bypass : s.loop.bypass = (s.loop.state != .held)

theorem State.linesTrue_iff_live {s : State} (awake : s.starter.stopped = false) : s.LinesTrue ↔ s.LinesLive fun _ => False := by
  constructor
  · rintro ⟨shut, arc, port, gate, alert, bypass⟩
    simp only [awake, Bool.not_false, Bool.and_true, Bool.or_false] at shut arc port alert bypass
    exact ⟨fun h _ => shut h, arc, port, gate, alert, bypass⟩
  · rintro ⟨shut, arc, port, gate, alert, bypass⟩
    simp only [NoticeUnit.AlertTrue, not_false_eq_true, forall_const] at shut alert
    constructor <;> simpa [awake] using ‹_›

/-- A lamp within the bounds that are its own (R65, R80 to R83). -/
structure Lamp.Bounded (l : Lamp) : Prop where
  idle : l.state ≠ .burning → l.rate = 0
  rate : l.rate ≤ l.record.fmax
  base : l.record.base ≤ l.record.fmax
  acc : -32767 ≤ l.acc ∧ l.acc ≤ 32767
  rem : l.rem < 60000
  rod : l.rod ≤ 65535 ∧ l.record.trimLength ≤ 65535

/-- Every lamp within its bounds, but that a head of `X` may be lit out of service or in FIRE: so it stands within an event that takes the
head out of service or its house into FIRE, until the lamp is put out. -/
structure State.LampsKeptBut (X : Head → Prop) (s : State) : Prop where
  lamps : ∀ h, (s.lamp h).Bounded
  feeds : ∀ h, (s.entry (.feed h)).value = .feed (s.lamp h).rate
  lit : ∀ h, ¬ X h → (s.lamp h).state.isLit = true → (s.mon h).inService = true ∧ s.inFire h.house = false

theorem State.lampsKept_iff (s : State) : s.LampsKept ↔ s.LampsKeptBut fun _ => False := by
  constructor
  · intro kept
    exact ⟨fun h => ⟨(kept h).idle, (kept h).rate, (kept h).base, (kept h).acc, (kept h).rem, (kept h).rod⟩, fun h => (kept h).feed,
      fun h _ => (kept h).lit⟩
  · rintro ⟨lamps, feeds, lit⟩ h
    obtain ⟨idle, rate, base, acc, rem, rod⟩ := lamps h
    exact ⟨lit h not_false, idle, rate, base, feeds h, acc, rem, rod⟩

/-! ### Claims -/

/-- A choice among the conditions held at every moment, so that each is shown to be kept without a premise about the others. -/
structure Claims where
  lines : Prop
  /-- heads whose hold lines have still to be judged anew -/
  ajar : Head → Prop
  lamps : Prop
  /-- heads whose lamps may be lit out of service or in FIRE -/
  exempt : Head → Prop
  queues : Prop
  lights : Prop
  runups : Prop
  fires : Prop
  shows : Prop
  /-- houses that are not in FIRE -/
  free : House → Prop

/-- A state meets the claims made of it. -/
structure State.Meets (c : Claims) (s : State) : Prop where
  lines : c.lines → s.LinesLive c.ajar
  lamps : c.lamps → s.LampsKeptBut c.exempt
  queues : c.queues → s.QueuesKept
  lights : c.lights → s.LightsKept
  runups : c.runups → s.RunupsKept
  fires : c.fires → s.FiresKept
  shows : c.shows → s.ShowsKept
  free : ∀ k, c.free k → s.inFire k = false

variable {c : Claims} {s t : State}

/-! ### What the rest of the part keeps -/

namespace State.Steady

theorem linesLive {ajar : Head → Prop} (a : Steady s t) (kept : s.LinesLive ajar) (shut : ∀ h, ¬ ajar h → (t.mon h).hold = t.holdCondition h)
    (arc : ∀ h, (t.lamp h).contactor = (t.lamp h).state.isLit) : t.LinesLive ajar where
  shut := shut
  arc := arc
  port k := by rw [a.fireOf, a.inFire]; exact kept.port k
  gate k := by rw [a.fireOf, a.inFire]; exact kept.gate k
  alert := a.alert kept.alert
  bypass := by
    have field : ∀ {α : Type} (f : LoopUnit → α), (∀ l, f l.quieted = f l) → f t.loop = f s.loop := fun f quiet => by
      rw [← quiet t.loop, a.loop, quiet]
    rw [field LoopUnit.bypass fun _ => rfl, field LoopUnit.state fun _ => rfl]
    exact kept.bypass

/-- A house's fire condition, where the rest of the part and the house's request stand. -/
theorem fireKept {k : House} (a : Steady s t) (kept : s.FireKept k) (request : (t.light k).requests.fire = (s.light k).requests.fire)
    (lights : s.inFire k = true → (t.light k).position = 255 ∧ (t.light k).fade = none)
    (sound : s.inFire k = true → (t.entry (.sound k)).value = .sound none)
    (engine : s.inFire k = true → (t.eng k).state = .halted ∧ (t.eng k).runup = none) : t.FireKept k where
  latch := by rw [a.fireOf, a.inFire]; exact kept.latch
  bit := by rw [a.bits, a.inFire]; exact kept.bit
  unmasked := by rw [NoticeUnit.isMasked, a.mask]; exact kept.unmasked
  request := by rw [request, a.inFire]; exact kept.request
  lights h := lights (a.inFire k ▸ h)
  sound h := sound (a.inFire k ▸ h)
  engine h := engine (a.inFire k ▸ h)
  list := by rw [a.fireOf]; exact kept.list
  fires := by rw [a.fireOf, a.inFire]; exact kept.fires

end State.Steady

/-! ### What keeps a house's conditions -/

/-- A house's light position stands while its position, its fade and its requests stand. -/
theorem State.LightKept.of_eq {k : House} (kept : s.LightKept k) (position : (t.light k).position = (s.light k).position)
    (fade : (t.light k).fade = (s.light k).fade) (requests : (t.light k).requests = (s.light k).requests) : t.LightKept k := by
  obtain ⟨rest, fades⟩ := kept
  constructor
  · rw [position, fade, requests]; exact rest
  · rw [position, fade, requests]; exact fades

/-- A house's picture stands while its roles and engine stand, no douser is opened and the sound stands or is none. -/
theorem State.ShowKept.of_eq {k : House} (kept : s.ShowKept k) (roles : ∀ h, h.house = k → t.role h = s.role h) (eng : t.eng k = s.eng k)
    (dousers : ∀ h, h.house = k → (t.entry (.douser h)).value = .douser true → (s.entry (.douser h)).value = .douser true)
    (sounds : (t.entry (.sound k)).value = (s.entry (.sound k)).value ∨ (t.entry (.sound k)).value = .sound none) : t.ShowKept k where
  one h h' e e' a b := kept.one h h' e e' (roles h e ▸ a) (roles h' e' ▸ b)
  dousers h e opened := roles h e ▸ kept.dousers h e (dousers h e opened)
  sound h named := by
    obtain same | none := sounds
    · obtain ⟨e, shows⟩ := kept.sound h (same ▸ named)
      exact ⟨e, (roles h e).trans shows⟩
    · rw [none] at named
      cases named
  states h e shows := by rw [eng]; exact kept.states h e (roles h e ▸ shows)
  runup := by rw [eng]; exact kept.runup
  pending := by rw [eng]; exact kept.pending

/-- What is claimed of the other house stands through an operation of one house. -/
theorem State.Local.lightKept {k : House} (a : State.Local k s t) (kept : s.LightKept (otherHouse k)) : t.LightKept (otherHouse k) := by
  obtain ⟨-, -, light, -, -⟩ := a.house
  exact kept.of_eq (by rw [light]) (by rw [light]) (by rw [light])

theorem State.Local.showKept {k : House} (a : State.Local k s t) (kept : s.ShowKept (otherHouse k)) : t.ShowKept (otherHouse k) := by
  obtain ⟨heads, eng, -, -, values⟩ := a.house
  exact kept.of_eq (fun h e => congrArg Slot.role (heads h e).2.2) eng (fun h e opened => values (.douser h) e ▸ opened)
    (.inl (values (.sound _) rfl))

theorem House.eq_or_other (k k' : House) : k' = k ∨ k' = otherHouse k := by
  cases k <;> cases k' <;> decide

namespace State.Meets

/-- Fewer claims. -/
theorem weaken {c' : Claims} (m : s.Meets c) (lines : c'.lines → c.lines) (ajar : ∀ h, c.ajar h → c'.ajar h) (lamps : c'.lamps → c.lamps)
    (exempt : ∀ h, c.exempt h → c'.exempt h) (queues : c'.queues → c.queues) (lights : c'.lights → c.lights) (runups : c'.runups → c.runups)
    (fires : c'.fires → c.fires) (shows : c'.shows → c.shows) (free : ∀ k, c'.free k → c.free k) : s.Meets c' where
  lines h := { m.lines (lines h) with shut := fun x out => (m.lines (lines h)).shut x (mt (ajar x) out) }
  lamps h := ⟨(m.lamps (lamps h)).lamps, (m.lamps (lamps h)).feeds, fun x out => (m.lamps (lamps h)).lit x (mt (exempt x) out)⟩
  queues h := m.queues (queues h)
  lights h := m.lights (lights h)
  runups h := m.runups (runups h)
  fires h := m.fires (fires h)
  shows h := m.shows (shows h)
  free k h := m.free k (free k h)

/-- An operation of the lamp side: what it must keep is the shutter lines, the contactors and the lamps. -/
theorem of_lampSide (m : s.Meets c) (a : s.LampSide t)
    (shut : c.lines → s.LinesLive c.ajar → ∀ h, ¬ c.ajar h → (t.mon h).hold = t.holdCondition h)
    (arc : c.lines → s.LinesLive c.ajar → ∀ h, (t.lamp h).contactor = (t.lamp h).state.isLit)
    (lamps : c.lamps → s.LampsKeptBut c.exempt → t.LampsKeptBut c.exempt) : t.Meets c where
  lines h := a.steady.linesLive (m.lines h) (shut h (m.lines h)) (arc h (m.lines h))
  lamps h := lamps h (m.lamps h)
  queues h := a.steady.queues (m.queues h)
  lights h k := (m.lights h k).of_eq (by rw [a.light]) (by rw [a.light]) (by rw [a.light])
  runups h k := by rw [a.eng]; exact m.runups h k
  fires h k := a.steady.fireKept (m.fires h k) (by rw [a.light]) (by rw [a.light]; exact (m.fires h k).lights)
    (by rw [a.sounds]; exact (m.fires h k).sound) (by rw [a.eng]; exact (m.fires h k).engine)
  shows h k := (m.shows h k).of_eq (fun h _ => a.role h) (a.eng k)
    (fun h _ opened => (a.dousers h).elim (fun same => same ▸ opened) fun shut => by rw [shut] at opened; cases opened)
    (.inl (a.sounds k))
  free k h := (a.steady.inFire k).trans (m.free k h)

/-- An operation of the picture side in one house: what it must keep is that house's lights, run-up, fire condition and picture. -/
theorem of_showSide {k : House} (m : s.Meets c) (a : s.ShowSide t) (l : State.Local k s t) (light : s.LightKept k → t.LightKept k)
    (runups : ∀ r, (t.eng k).runup = some r → (s.eng k).runup = some r ∨ r.head.house = k)
    (fires : c.fires → s.FireKept k → t.FireKept k) (shows : c.shows → s.ShowKept k → t.ShowKept k) : t.Meets c where
  lines h := a.steady.linesLive (m.lines h)
    (fun x out => by
      unfold State.holdCondition
      rw [a.mon x, a.steady.fireOf]
      exact (m.lines h).shut x out)
    fun x => by rw [a.lamp]; exact (m.lines h).arc x
  lamps h :=
    { lamps := fun x => by rw [a.lamp]; exact (m.lamps h).lamps x
      feeds := fun x => by rw [a.lamp, a.feeds]; exact (m.lamps h).feeds x
      lit := fun x out lit => by
        rw [a.lamp] at lit
        rw [a.mon x, a.steady.inFire]
        exact (m.lamps h).lit x out lit }
  queues h := a.steady.queues (m.queues h)
  lights h k' := by
    obtain rfl | rfl := House.eq_or_other k k'
    · exact light (m.lights h _)
    · exact l.lightKept (m.lights h _)
  runups h k' r some := by
    obtain rfl | rfl := House.eq_or_other k k'
    · exact (runups r some).elim (m.runups h _ r) id
    · rw [l.house.2.1] at some
      exact m.runups h _ r some
  fires h k' := by
    obtain rfl | rfl := House.eq_or_other k k'
    · exact fires h (m.fires h _)
    · obtain ⟨-, eng, light, -, values⟩ := l.house
      have kept := m.fires h (otherHouse k)
      exact a.steady.fireKept kept (by rw [light]) (by rw [light]; exact kept.lights) (by rw [values (.sound (otherHouse k)) rfl]; exact kept.sound)
        (by rw [eng]; exact kept.engine)
  shows h k' := by
    obtain rfl | rfl := House.eq_or_other k k'
    · exact shows h (m.shows h _)
    · exact l.showKept (m.shows h _)
  free k' h := (a.steady.inFire k').trans (m.free k' h)

/-! ### The claims about one kind of condition put back -/

theorem withShows (m : t.Meets { c with shows := False }) (shows : c.shows → t.ShowsKept) : t.Meets c :=
  { m with shows := shows }

theorem withFires (m : t.Meets { c with fires := False }) (fires : c.fires → t.FiresKept) : t.Meets c :=
  { m with fires := fires }

theorem withoutShows (m : s.Meets c) : s.Meets { c with shows := False } := { m with shows := False.elim }

theorem withoutFires (m : s.Meets c) : s.Meets { c with fires := False } := { m with fires := False.elim }

end State.Meets

end Sys2Proof.Machine
end

section
/-! SUPPORT. The lamps and the monitors: the effects of a shutdown, and the conditions that every operation of the lamp side keeps. -/

namespace Sys2Proof.Machine

variable {c : Claims} {s t : State} {h : Head}

/-! ### The effects of a shutdown (R75, R76) -/

/-- The lamp of a shutdown (R75, R76). -/
theorem Lamp.darkAt_eq (l : Lamp) (ms : Nat) : l.darkAt ms = (l.accountIfBurning ms).putOut .dark := by
  unfold Lamp.darkAt Lamp.accountIfBurning
  by_cases burning : l.state = .burning
  · simp [burning, Lamp.account, Lamp.putOut]
  · simp [burning, Lamp.putOut]

@[simp] theorem Lamp.darkAt_state (l : Lamp) (ms : Nat) : (l.darkAt ms).state = .dark := rfl
@[simp] theorem Lamp.darkAt_rate (l : Lamp) (ms : Nat) : (l.darkAt ms).rate = 0 := rfl
@[simp] theorem Lamp.darkAt_contactor (l : Lamp) (ms : Nat) : (l.darkAt ms).contactor = false := rfl

theorem State.overrideShutdown_eq (s : State) (h : Head) :
    s.overrideShutdown h =
      ((((s.setLamp h ((s.lamp h).darkAt s.ms)).writeDrive (.lamp h) (.lamp false)).writeDrive (.feed h) (.feed 0)).writeDrive (.douser h)
        (.douser false)).setMon h { s.mon h with idleTimer := none } := by
  rw [Lamp.darkAt_eq]
  exact State.rejudgeIdle_not_burning (by simp [Lamp.putOut])

/-- The entries a normal shutdown writes: the feed is not written for a lamp STRIKING, which has none (R75). -/
def State.shutEntries (s : State) (h : Head) : State :=
  let t := (s.writeDrive (.douser h) (.douser false)).writeDrive (.lamp h) (.lamp false)
  if (s.lamp h).state = .striking then t else t.writeDrive (.feed h) (.feed 0)

theorem State.normalShutdown_dark (dark : (s.lamp h).state = .dark) : s.normalShutdown h = s := by
  unfold State.normalShutdown
  simp [dark]

theorem State.normalShutdown_lit (lit : (s.lamp h).state ≠ .dark) :
    s.normalShutdown h =
      ((s.shutEntries h).setLamp h ((s.lamp h).darkAt s.ms)).setMon h { s.mon h with idleTimer := none } := by
  rw [Lamp.darkAt_eq]
  unfold State.normalShutdown State.shutEntries Lamp.accountIfBurning
  dsimp only
  cases state : (s.lamp h).state with
  | dark => exact absurd state lit
  | striking | burning | failed =>
    refine (State.rejudgeIdle_not_burning ?_).trans rfl
    simp [Lamp.putOut]

/-! ### One lamp moved -/

/-- What an operation of one lamp leaves beside the lamp side: the monitors but for their idle timers, and the other lamps with their
feeds. -/
structure State.LampTo (s t : State) (h : Head) (l : Lamp) : Prop where
  side : s.LampSide t
  monitors : ∀ x, { t.mon x with idleTimer := (s.mon x).idleTimer } = s.mon x
  lamps : t.lamps = s.lamps.set h l
  feeds : ∀ x, x ≠ h → (t.entry (.feed x)).value = (s.entry (.feed x)).value

namespace State.LampTo

variable {l : Lamp}

theorem mon (a : s.LampTo t h l) (x : Head) : t.mon x = { s.mon x with idleTimer := (t.mon x).idleTimer } := by
  rw [← a.monitors x]

theorem lamp (a : s.LampTo t h l) : t.lamp h = l := by rw [State.lamp, a.lamps]; exact PerHead.get_set_same ..

theorem lamp_ne (a : s.LampTo t h l) {x : Head} (ne : x ≠ h) : t.lamp x = s.lamp x := by
  rw [State.lamp, a.lamps]; exact PerHead.get_set_ne _ _ ne

theorem setLamp (s : State) (h : Head) (l : Lamp) : s.LampTo (s.setLamp h l) h l :=
  ⟨.setLamp s h l, fun _ => rfl, rfl, fun _ _ => rfl⟩

/-- The lamp as it stands. -/
theorem refl (s : State) (h : Head) : s.LampTo s h (s.lamp h) :=
  ⟨.refl s, fun _ => rfl, (PerHead.set_get_self ..).symm, fun _ _ => rfl⟩

theorem write (a : s.LampTo t h l) (d : DriveId) (v : DriveVal) (douser : ∀ h, d = .douser h → v = .douser false)
    (sound : ∀ k, d ≠ .sound k) (feed : ∀ x, x ≠ h → d ≠ .feed x) : s.LampTo (t.writeDrive d v) h l :=
  ⟨a.side.trans (.writeDrive t douser sound), a.monitors, a.lamps, fun x ne => by
    rw [State.writeDrive_value, if_neg (feed x ne).symm]; exact a.feeds x ne⟩

theorem closeDouser (a : s.LampTo t h l) (x : Head) : s.LampTo (t.writeDrive (.douser x) (.douser false)) h l :=
  a.write _ _ (fun _ _ => rfl) nofun nofun

theorem writeLamp (a : s.LampTo t h l) (x : Head) (v : DriveVal) : s.LampTo (t.writeDrive (.lamp x) v) h l :=
  a.write _ _ nofun nofun nofun

theorem writeFeed (a : s.LampTo t h l) (v : DriveVal) : s.LampTo (t.writeDrive (.feed h) v) h l :=
  a.write _ _ nofun nofun fun _ ne e => ne (by cases e; rfl)

theorem rejudgeIdle (a : s.LampTo t h l) (x : Head) : s.LampTo (t.rejudgeIdle x) h l := by
  have idle : ∀ i, s.LampTo (t.setMon x { t.mon x with idleTimer := i }) h l := fun i =>
    ⟨a.side.trans (.setMon ..), fun y => by
      rw [State.setMon_mon]
      split
      · rename_i same; rw [same]; exact a.monitors x
      · exact a.monitors y, a.lamps, a.feeds⟩
  unfold State.rejudgeIdle
  dsimp only
  split
  · split
    · exact a
    · exact idle _
  · exact idle _

theorem setLamp_again (a : s.LampTo t h l) (l' : Lamp) : s.LampTo (t.setLamp h l') h l' :=
  ⟨a.side.trans (.setLamp ..), a.monitors, by rw [State.setLamp, a.lamps]; exact PerHead.set_set .., a.feeds⟩

end State.LampTo

theorem State.overrideShutdown_lampTo (s : State) (h : Head) : s.LampTo (s.overrideShutdown h) h ((s.lamp h).darkAt s.ms) := by
  rw [Lamp.darkAt_eq]
  exact ((((State.LampTo.setLamp s h _).writeLamp h _).writeFeed _).closeDouser h).rejudgeIdle h

theorem State.shutEntries_lampTo (s : State) (h : Head) : s.LampTo (s.shutEntries h) h (s.lamp h) := by
  have both := ((State.LampTo.refl s h).closeDouser h).writeLamp h (.lamp false)
  unfold State.shutEntries
  dsimp only
  split
  · exact both
  · exact both.writeFeed _

theorem State.normalShutdown_lampTo (lit : (s.lamp h).state ≠ .dark) : s.LampTo (s.normalShutdown h) h ((s.lamp h).darkAt s.ms) := by
  have step := (s.shutEntries_lampTo h).setLamp_again ((s.lamp h).darkAt s.ms)
  rw [State.normalShutdown_lit lit]
  have idle := step.rejudgeIdle h
  rw [State.rejudgeIdle_not_burning (by simp)] at idle
  have same : ((s.shutEntries h).setLamp h ((s.lamp h).darkAt s.ms)).mon h = s.mon h := by
    unfold State.shutEntries
    dsimp only
    split <;> rfl
  rw [same] at idle
  exact idle

/-! ### The bounds of a lamp -/

namespace Lamp.Bounded

variable {l : Lamp}

theorem account (b : l.Bounded) (ms : Nat) : (l.account ms).Bounded :=
  ⟨b.idle, b.rate, b.base, b.acc, Nat.mod_lt _ (by decide), (Nat.sub_le ..).trans b.rod.1, b.rod.2⟩

theorem putOut (state : LampState) (base : l.record.base ≤ l.record.fmax) (acc : -32767 ≤ l.acc ∧ l.acc ≤ 32767) (rem : l.rem < 60000)
    (rod : l.rod ≤ 65535 ∧ l.record.trimLength ≤ 65535) : (l.putOut state).Bounded :=
  ⟨fun _ => rfl, Nat.zero_le _, base, acc, rem, rod⟩

theorem darkAt (b : l.Bounded) (ms : Nat) : (l.darkAt ms).Bounded := by
  rw [Lamp.darkAt_eq]
  unfold Lamp.accountIfBurning
  split
  · exact putOut _ b.base b.acc (b.account ms).rem (b.account ms).rod
  · exact putOut _ b.base b.acc b.rem b.rod

end Lamp.Bounded

/-! ### The operations of the lamp side -/

namespace State.Meets

/-- A move of one lamp. -/
theorem lampTo {l : Lamp} (m : s.Meets c) (a : s.LampTo t h l)
    (arc : (s.lamp h).contactor = (s.lamp h).state.isLit → l.contactor = l.state.isLit) (bounded : (s.lamp h).Bounded → l.Bounded)
    (feed : (s.lamp h).Bounded → (s.entry (.feed h)).value = .feed (s.lamp h).rate → (t.entry (.feed h)).value = .feed l.rate)
    (lit : l.state.isLit = true → (s.lamp h).state.isLit = true ∨ ((s.mon h).inService = true ∧ s.inFire h.house = false)) :
    t.Meets c := by
  refine m.of_lampSide a.side (fun _ live x out => ?shut) (fun _ live x => ?arc) fun _ kept => ⟨fun x => ?_, fun x => ?_, fun x out isLit => ?_⟩
  case shut =>
    unfold State.holdCondition
    rw [a.mon x, a.side.steady.fireOf]
    exact live.shut x out
  case arc =>
    by_cases same : x = h
    · subst same; rw [a.lamp]; exact arc (live.arc x)
    · rw [a.lamp_ne same]; exact live.arc x
  · by_cases same : x = h
    · subst same; rw [a.lamp]; exact bounded (kept.lamps x)
    · rw [a.lamp_ne same]; exact kept.lamps x
  · by_cases same : x = h
    · subst same; rw [a.lamp]; exact feed (kept.lamps x) (kept.feeds x)
    · rw [a.lamp_ne same, a.feeds x same]; exact kept.feeds x
  · rw [a.mon x, a.side.steady.inFire]
    by_cases same : x = h
    · subst same
      rw [a.lamp] at isLit
      exact (lit isLit).elim (kept.lit x out) id
    · rw [a.lamp_ne same] at isLit
      exact kept.lit x out isLit

/-- A lamp changed in what no line and no feed depends on. -/
theorem setLamp {l : Lamp} (m : s.Meets c) (state : l.state = (s.lamp h).state) (contactor : l.contactor = (s.lamp h).contactor)
    (rate : l.rate = (s.lamp h).rate) (bounded : (s.lamp h).Bounded → l.Bounded) : (s.setLamp h l).Meets c :=
  m.lampTo (.setLamp s h l) (fun arc => by rw [contactor, state]; exact arc) bounded (fun _ feed => by rw [rate]; exact feed)
    fun lit => .inl (state ▸ lit)

/-- A write that opens no douser, and is no sound and no feed (R40). -/
theorem writeDrive {d : DriveId} {v : DriveVal} (m : s.Meets c) (douser : ∀ h, d = .douser h → v = .douser false)
    (sound : ∀ k, d ≠ .sound k) (feed : ∀ h, d ≠ .feed h) : (s.writeDrive d v).Meets c :=
  m.of_lampSide (.writeDrive s douser sound) (fun _ live => live.shut) (fun _ live => live.arc) fun _ kept =>
    ⟨kept.lamps, fun x => by rw [State.writeDrive_value, if_neg (feed x).symm]; exact kept.feeds x, kept.lit⟩

theorem closeDouser (m : s.Meets c) (h : Head) : (s.writeDrive (.douser h) (.douser false)).Meets c :=
  m.writeDrive (fun _ _ => rfl) nofun nofun

theorem writeMotor (m : s.Meets c) (h : Head) (run : Bool) : (s.writeDrive (.motor h) (.motor run)).Meets c :=
  m.writeDrive nofun nofun nofun

theorem raise (m : s.Meets c) (e : Event) (cause : Cause) (code : Option Code) (other : ∀ k, fireEvent k ≠ e) :
    (s.raise e cause code).Meets c := by
  have side := State.LampSide.raise s e cause code other
  refine m.of_lampSide side (fun _ live x out => ?_) (fun _ live x => ?_) fun _ kept => ⟨fun x => ?_, fun x => ?_, fun x out => ?_⟩
  · rw [State.holdCondition, side.steady.fireOf, State.mon, State.raise_monitors]; exact live.shut x out
  · rw [State.lamp, State.raise_lamps]; exact live.arc x
  · rw [State.lamp, State.raise_lamps]; exact kept.lamps x
  · rw [State.lamp, State.raise_lamps, State.raise_entry]; exact kept.feeds x
  · rw [State.lamp, State.mon, State.raise_lamps, State.raise_monitors, side.steady.inFire]; exact kept.lit x out

/-- A monitor changed: its hold line is right, has still to be judged, or depends on nothing changed. -/
theorem changeMon {n : Monitor} (m : s.Meets c) (h : Head)
    (hold : c.ajar h ∨ (n.hold = (s.mon h).hold ∧ n.motion = (s.mon h).motion ∧ n.inService = (s.mon h).inService))
    (inService : ((s.mon h).inService = true → n.inService = true) ∨ c.exempt h) : (s.setMon h n).Meets c := by
  refine m.of_lampSide (.setMon s h n) (fun _ live x out => ?_) (fun _ live => live.arc) fun _ kept =>
    ⟨kept.lamps, kept.feeds, fun x out lit => ?_⟩
  · have shut := live.shut x out
    unfold State.holdCondition at shut ⊢
    rw [State.setMon_fireOf, State.setMon_mon]
    split
    · rename_i same
      subst same
      obtain ajar | ⟨hold, motion, inService⟩ := hold
      · exact absurd ajar out
      · rw [hold, motion, inService]; exact shut
    · exact shut
  · rw [State.setMon_mon]
    split
    · rename_i same
      subst same
      obtain ⟨served, free⟩ := kept.lit x out lit
      exact inService.elim (fun stays => ⟨stays served, free⟩) fun ex => absurd ex out
    · exact kept.lit x out lit

/-- A monitor changed in what no line and no lamp depends on. -/
theorem setMon {n : Monitor} (m : s.Meets c) (hold : n.hold = (s.mon h).hold) (motion : n.motion = (s.mon h).motion)
    (inService : n.inService = (s.mon h).inService) : (s.setMon h n).Meets c :=
  m.changeMon h (.inr ⟨hold, motion, inService⟩) (.inl inService.trans)

theorem rejudgeIdle (m : s.Meets c) (h : Head) : (s.rejudgeIdle h).Meets c := by
  unfold State.rejudgeIdle
  dsimp only
  split
  · split
    · exact m
    · exact m.setMon rfl rfl rfl
  · exact m.setMon rfl rfl rfl

/-- A hold line judged anew is right, whatever it was before (R56). -/
theorem settleHold (m : s.Meets { c with ajar := fun x => c.ajar x ∨ x = h }) : (s.rejudgeHold h).Meets c := by
  have judged : (s.setMon h { s.mon h with hold := s.holdCondition h }).Meets c := by
    have changed := m.changeMon (n := { s.mon h with hold := s.holdCondition h }) h (.inl (.inr rfl)) (.inl id)
    refine { changed with lines := fun claimed => { changed.lines claimed with shut := fun x out => ?_ } }
    by_cases same : x = h
    · subst same; simp [State.holdCondition]
    · exact (changed.lines claimed).shut x fun ajar => ajar.elim out same
  unfold State.rejudgeHold
  dsimp only
  split
  · exact judged.raise _ _ _ fun k => by cases k <;> decide
  · exact judged

/-- More heads whose hold lines have still to be judged. -/
theorem leaveAjar (m : s.Meets c) (X : Head → Prop) : s.Meets { c with ajar := fun x => c.ajar x ∨ X x } :=
  { m with lines := fun claimed => { m.lines claimed with shut := fun x out => (m.lines claimed).shut x fun ajar => out (.inl ajar) } }

theorem rejudgeHold (m : s.Meets c) (h : Head) : (s.rejudgeHold h).Meets c := (m.leaveAjar _).settleHold

/-- A monitor moved and its hold line judged anew (R56). -/
theorem moveMon {n : Monitor} (m : s.Meets c) (h : Head) (inService : ((s.mon h).inService = true → n.inService = true) ∨ c.exempt h) :
    ((s.setMon h n).rejudgeHold h).Meets c :=
  ((m.leaveAjar fun x => x = h).changeMon h (.inl (.inr rfl)) inService).settleHold

/-! ### Strike and shutdown requests (R67, R68, R75, R76) -/

theorem strikeRequest (m : s.Meets c) (h : Head) : (s.strikeRequest h).Meets c := by
  unfold State.strikeRequest
  dsimp only
  split
  · exact m
  · rename_i taken
    simp only [State.strikeIgnored, Bool.not_eq_true, Bool.or_eq_false_iff, Bool.not_eq_false', beq_eq_false_iff_ne] at taken
    obtain ⟨⟨⟨service, fire⟩, striking⟩, burning⟩ := taken
    split
    · have failed := m.lampTo (State.LampTo.setLamp s h { s.lamp h with state := .failed }) (fun arc => ?_) (fun b => ?_)
        (fun _ feed => feed) nofun
      · exact (failed.rejudgeIdle h).raise _ _ _ fun k => by cases k <;> decide
      · have out : (s.lamp h).state.isLit = false := by cases state : (s.lamp h).state <;> simp_all [LampState.isLit]
        exact arc.trans out
      · exact ⟨fun _ => b.idle burning, b.rate, b.base, b.acc, b.rem, b.rod⟩
    · refine (m.lampTo (((State.LampTo.refl s h).writeLamp h _).setLamp_again _) (fun _ => rfl)
        (fun b => ?_) (fun _ feed => ?_) fun _ => .inr ⟨service, fire⟩).rejudgeIdle h
      · exact ⟨fun _ => b.idle burning, b.rate, b.base, b.acc, b.rem, b.rod⟩
      · rw [State.setLamp_entry, State.writeDrive_value, if_neg nofun]; exact feed

theorem overrideShutdown (m : s.Meets c) (h : Head) : (s.overrideShutdown h).Meets c := by
  refine m.lampTo (s.overrideShutdown_lampTo h) (fun _ => rfl) (fun b => b.darkAt s.ms) (fun _ _ => ?_) nofun
  simp [State.overrideShutdown_eq, State.writeDrive_value]

theorem normalShutdown (m : s.Meets c) (h : Head) : (s.normalShutdown h).Meets c := by
  by_cases dark : (s.lamp h).state = .dark
  · rw [State.normalShutdown_dark dark]; exact m
  · refine m.lampTo (State.normalShutdown_lampTo dark) (fun _ => rfl) (fun b => b.darkAt s.ms) (fun b feed => ?_) nofun
    rw [State.normalShutdown_lit dark, State.setMon_entry, State.setLamp_entry, State.shutEntries]
    split
    · rename_i striking
      have idle := b.idle (by simp [striking])
      rw [State.writeDrive_value, if_neg nofun, State.writeDrive_value, if_neg nofun, feed, idle, Lamp.darkAt_rate]
    · rw [State.writeDrive_entry_same]; rfl

/-! ### A lamp that fails and the regulator (R72 to R81) -/

theorem failLamp (m : s.Meets c) (h : Head) {l : Lamp} (base : (s.lamp h).Bounded → l.record.base ≤ l.record.fmax)
    (acc : (s.lamp h).Bounded → -32767 ≤ l.acc ∧ l.acc ≤ 32767) (rem : (s.lamp h).Bounded → l.rem < 60000)
    (rod : (s.lamp h).Bounded → l.rod ≤ 65535 ∧ l.record.trimLength ≤ 65535) : (s.failLamp h l).Meets c := by
  refine m.lampTo ((((State.LampTo.setLamp s h (l.putOut .failed)).writeLamp h _).writeFeed _).rejudgeIdle h) (fun _ => rfl)
    (fun b => Lamp.Bounded.putOut _ (base b) (acc b) (rem b) (rod b)) (fun _ _ => ?_) nofun
  exact (State.failLamp_value s h l (.feed h)).trans (if_pos rfl)

theorem runRegulator (m : s.Meets c) (v : Nat) (burning : (s.lamp h).state = .burning) : (s.runRegulator h v).Meets c := by
  refine m.lampTo ((State.LampTo.setLamp s h _).writeFeed _) (fun arc => arc)
    (fun b => ⟨fun out => absurd burning out, Lamp.regulate_rate_le .., b.base, Lamp.regulate_acc_bounds (low := b.acc.1) (high := b.acc.2),
      b.rem, b.rod⟩) (fun _ _ => ?_) fun lit => .inl lit
  rw [State.runRegulator, State.writeDrive_entry_same]
  rfl

theorem carbonCheckShow (m : s.Meets c) (h : Head) : (s.carbonCheckShow h).Meets c := by
  unfold State.carbonCheckShow
  dsimp only
  split
  · have marked := m.setLamp (h := h) (l := { s.lamp h with carbonLow := true }) rfl rfl rfl fun b =>
      ⟨b.idle, b.rate, b.base, b.acc, b.rem, b.rod⟩
    exact marked.raise _ _ _ fun k => by cases k <;> decide
  · exact m

theorem carbonCheckThread (m : s.Meets c) (h : Head) (last : Nat) : (s.carbonCheckThread h last).Meets c := by
  have marked := fun short => m.setLamp (h := h) (l := { s.lamp h with carbonLow := short }) rfl rfl rfl fun b =>
    ⟨b.idle, b.rate, b.base, b.acc, b.rem, b.rod⟩
  unfold State.carbonCheckThread
  dsimp only
  split
  · exact (marked _).raise _ _ _ fun k => by cases k <;> decide
  · exact marked _

theorem resetCounter (m : s.Meets c) (h : Head) : (s.resetCounter h).Meets c := m.setMon rfl rfl rfl

end State.Meets

end Sys2Proof.Machine
end

section
/-! SUPPORT. Rules for the operations that pictures and lights are made of: the idle timer, a role, the light requests,
a shutdown and the raise. -/

namespace Sys2Proof

theorem PerHouse.set_get_self {α : Type} (p : PerHouse α) (k : House) : p.set k (p.get k) = p := by cases k <;> rfl

end Sys2Proof

namespace Sys2Proof.Machine

theorem State.rejudgeIdle_frame (s : State) (h : Head) : { s.rejudgeIdle h with monitors := s.monitors } = s := by
  unfold State.rejudgeIdle
  dsimp only
  split
  · split <;> rfl
  · rfl

theorem State.assign_frame (s : State) (h : Head) (r : Role) (i : Option Nat) :
    { s.assign h r i with monitors := s.monitors, slots := s.slots } = s :=
  congrArg (fun t : State => { t with slots := s.slots }) ((s.setSlot h { role := r, held := i }).rejudgeIdle_frame h)

/-! ### The idle timer (R60) -/

@[simp] theorem State.rejudgeIdle_now (s : State) (h : Head) : (s.rejudgeIdle h).now = s.now :=
  (congrArg State.now (s.rejudgeIdle_frame h) :)
@[simp] theorem State.rejudgeIdle_programme (s : State) (h : Head) : (s.rejudgeIdle h).programme = s.programme :=
  (congrArg State.programme (s.rejudgeIdle_frame h) :)
@[simp] theorem State.rejudgeIdle_notices (s : State) (h : Head) : (s.rejudgeIdle h).notices = s.notices :=
  (congrArg State.notices (s.rejudgeIdle_frame h) :)
@[simp] theorem State.rejudgeIdle_fire (s : State) (h : Head) : (s.rejudgeIdle h).fire = s.fire :=
  (congrArg State.fire (s.rejudgeIdle_frame h) :)
@[simp] theorem State.rejudgeIdle_orders (s : State) (h : Head) : (s.rejudgeIdle h).orders = s.orders :=
  (congrArg State.orders (s.rejudgeIdle_frame h) :)
@[simp] theorem State.rejudgeIdle_lamps (s : State) (h : Head) : (s.rejudgeIdle h).lamps = s.lamps :=
  (congrArg State.lamps (s.rejudgeIdle_frame h) :)
@[simp] theorem State.rejudgeIdle_slots (s : State) (h : Head) : (s.rejudgeIdle h).slots = s.slots :=
  (congrArg State.slots (s.rejudgeIdle_frame h) :)
@[simp] theorem State.rejudgeIdle_lamp (s : State) (h : Head) (h' : Head) : (s.rejudgeIdle h).lamp h' = s.lamp h' :=
  (congrArg (fun t => t.lamp h') (s.rejudgeIdle_frame h) :)
@[simp] theorem State.rejudgeIdle_slot (s : State) (h : Head) (h' : Head) : (s.rejudgeIdle h).slot h' = s.slot h' :=
  (congrArg (fun t => t.slot h') (s.rejudgeIdle_frame h) :)
@[simp] theorem State.rejudgeIdle_role (s : State) (h : Head) (h' : Head) : (s.rejudgeIdle h).role h' = s.role h' :=
  (congrArg (fun t => t.role h') (s.rejudgeIdle_frame h) :)
@[simp] theorem State.rejudgeIdle_eng (s : State) (h : Head) (k' : House) : (s.rejudgeIdle h).eng k' = s.eng k' :=
  (congrArg (fun t => t.eng k') (s.rejudgeIdle_frame h) :)
@[simp] theorem State.rejudgeIdle_light (s : State) (h : Head) (k' : House) : (s.rejudgeIdle h).light k' = s.light k' :=
  (congrArg (fun t => t.light k') (s.rejudgeIdle_frame h) :)
@[simp] theorem State.rejudgeIdle_fireOf (s : State) (h : Head) (k' : House) : (s.rejudgeIdle h).fireOf k' = s.fireOf k' :=
  (congrArg (fun t => t.fireOf k') (s.rejudgeIdle_frame h) :)
@[simp] theorem State.rejudgeIdle_entry (s : State) (h : Head) (d : DriveId) : (s.rejudgeIdle h).entry d = s.entry d :=
  (congrArg (fun t => t.entry d) (s.rejudgeIdle_frame h) :)

/-! ### A role given (R104) -/

@[simp] theorem State.assign_now (s : State) (h : Head) (r : Role) (i : Option Nat) : (s.assign h r i).now = s.now :=
  (congrArg State.now (s.assign_frame h r i) :)
@[simp] theorem State.assign_programme (s : State) (h : Head) (r : Role) (i : Option Nat) : (s.assign h r i).programme = s.programme :=
  (congrArg State.programme (s.assign_frame h r i) :)
@[simp] theorem State.assign_notices (s : State) (h : Head) (r : Role) (i : Option Nat) : (s.assign h r i).notices = s.notices :=
  (congrArg State.notices (s.assign_frame h r i) :)
@[simp] theorem State.assign_fire (s : State) (h : Head) (r : Role) (i : Option Nat) : (s.assign h r i).fire = s.fire :=
  (congrArg State.fire (s.assign_frame h r i) :)
@[simp] theorem State.assign_orders (s : State) (h : Head) (r : Role) (i : Option Nat) : (s.assign h r i).orders = s.orders :=
  (congrArg State.orders (s.assign_frame h r i) :)
@[simp] theorem State.assign_lamps (s : State) (h : Head) (r : Role) (i : Option Nat) : (s.assign h r i).lamps = s.lamps :=
  (congrArg State.lamps (s.assign_frame h r i) :)
@[simp] theorem State.assign_lamp (s : State) (h : Head) (r : Role) (i : Option Nat) (h' : Head) : (s.assign h r i).lamp h' = s.lamp h' :=
  (congrArg (fun t => t.lamp h') (s.assign_frame h r i) :)
@[simp] theorem State.assign_eng (s : State) (h : Head) (r : Role) (i : Option Nat) (k' : House) : (s.assign h r i).eng k' = s.eng k' :=
  (congrArg (fun t => t.eng k') (s.assign_frame h r i) :)
@[simp] theorem State.assign_light (s : State) (h : Head) (r : Role) (i : Option Nat) (k' : House) : (s.assign h r i).light k' = s.light k' :=
  (congrArg (fun t => t.light k') (s.assign_frame h r i) :)
@[simp] theorem State.assign_fireOf (s : State) (h : Head) (r : Role) (i : Option Nat) (k' : House) : (s.assign h r i).fireOf k' = s.fireOf k' :=
  (congrArg (fun t => t.fireOf k') (s.assign_frame h r i) :)
@[simp] theorem State.assign_entry (s : State) (h : Head) (r : Role) (i : Option Nat) (d : DriveId) : (s.assign h r i).entry d = s.entry d :=
  (congrArg (fun t => t.entry d) (s.assign_frame h r i) :)

/-! ### The light requests (R142) -/

@[simp] theorem State.setRequests_now (s : State) (k : House) (r : Requests) : (s.setRequests k r).now = s.now :=
  (congrArg State.now (s.setRequests_frame k r) :)
@[simp] theorem State.setRequests_programme (s : State) (k : House) (r : Requests) : (s.setRequests k r).programme = s.programme :=
  (congrArg State.programme (s.setRequests_frame k r) :)
@[simp] theorem State.setRequests_notices (s : State) (k : House) (r : Requests) : (s.setRequests k r).notices = s.notices :=
  (congrArg State.notices (s.setRequests_frame k r) :)
@[simp] theorem State.setRequests_fire (s : State) (k : House) (r : Requests) : (s.setRequests k r).fire = s.fire :=
  (congrArg State.fire (s.setRequests_frame k r) :)
@[simp] theorem State.setRequests_orders (s : State) (k : House) (r : Requests) : (s.setRequests k r).orders = s.orders :=
  (congrArg State.orders (s.setRequests_frame k r) :)
@[simp] theorem State.setRequests_monitors (s : State) (k : House) (r : Requests) : (s.setRequests k r).monitors = s.monitors :=
  (congrArg State.monitors (s.setRequests_frame k r) :)
@[simp] theorem State.setRequests_lamps (s : State) (k : House) (r : Requests) : (s.setRequests k r).lamps = s.lamps :=
  (congrArg State.lamps (s.setRequests_frame k r) :)
@[simp] theorem State.setRequests_slots (s : State) (k : House) (r : Requests) : (s.setRequests k r).slots = s.slots :=
  (congrArg State.slots (s.setRequests_frame k r) :)
@[simp] theorem State.setRequests_mon (s : State) (k : House) (r : Requests) (h' : Head) : (s.setRequests k r).mon h' = s.mon h' :=
  (congrArg (fun t => t.mon h') (s.setRequests_frame k r) :)
@[simp] theorem State.setRequests_lamp (s : State) (k : House) (r : Requests) (h' : Head) : (s.setRequests k r).lamp h' = s.lamp h' :=
  (congrArg (fun t => t.lamp h') (s.setRequests_frame k r) :)
@[simp] theorem State.setRequests_slot (s : State) (k : House) (r : Requests) (h' : Head) : (s.setRequests k r).slot h' = s.slot h' :=
  (congrArg (fun t => t.slot h') (s.setRequests_frame k r) :)
@[simp] theorem State.setRequests_role (s : State) (k : House) (r : Requests) (h' : Head) : (s.setRequests k r).role h' = s.role h' :=
  (congrArg (fun t => t.role h') (s.setRequests_frame k r) :)
@[simp] theorem State.setRequests_eng (s : State) (k : House) (r : Requests) (k' : House) : (s.setRequests k r).eng k' = s.eng k' :=
  (congrArg (fun t => t.eng k') (s.setRequests_frame k r) :)
@[simp] theorem State.setRequests_fireOf (s : State) (k : House) (r : Requests) (k' : House) : (s.setRequests k r).fireOf k' = s.fireOf k' :=
  (congrArg (fun t => t.fireOf k') (s.setRequests_frame k r) :)

/-! ### Shutdowns (R75, R76) -/

theorem State.normalShutdown_frame (s : State) (h : Head) :
    { s.normalShutdown h with monitors := s.monitors, lamps := s.lamps, drive := s.drive } = s := by
  by_cases dark : (s.lamp h).state = .dark
  · rw [State.normalShutdown_dark dark]
  · rw [State.normalShutdown_lit dark]
    unfold State.shutEntries
    dsimp only
    split <;> rfl

theorem State.overrideShutdown_frame (s : State) (h : Head) :
    { s.overrideShutdown h with monitors := s.monitors, lamps := s.lamps, drive := s.drive } = s := by
  rw [State.overrideShutdown_eq]
  rfl

@[simp] theorem State.normalShutdown_now (s : State) (h : Head) : (s.normalShutdown h).now = s.now :=
  (congrArg State.now (s.normalShutdown_frame h) :)
@[simp] theorem State.normalShutdown_programme (s : State) (h : Head) : (s.normalShutdown h).programme = s.programme :=
  (congrArg State.programme (s.normalShutdown_frame h) :)
@[simp] theorem State.normalShutdown_notices (s : State) (h : Head) : (s.normalShutdown h).notices = s.notices :=
  (congrArg State.notices (s.normalShutdown_frame h) :)
@[simp] theorem State.normalShutdown_fire (s : State) (h : Head) : (s.normalShutdown h).fire = s.fire :=
  (congrArg State.fire (s.normalShutdown_frame h) :)
@[simp] theorem State.normalShutdown_orders (s : State) (h : Head) : (s.normalShutdown h).orders = s.orders :=
  (congrArg State.orders (s.normalShutdown_frame h) :)
@[simp] theorem State.normalShutdown_slots (s : State) (h : Head) : (s.normalShutdown h).slots = s.slots :=
  (congrArg State.slots (s.normalShutdown_frame h) :)
@[simp] theorem State.normalShutdown_slot (s : State) (h : Head) (h' : Head) : (s.normalShutdown h).slot h' = s.slot h' :=
  (congrArg (fun t => t.slot h') (s.normalShutdown_frame h) :)
@[simp] theorem State.normalShutdown_role (s : State) (h : Head) (h' : Head) : (s.normalShutdown h).role h' = s.role h' :=
  (congrArg (fun t => t.role h') (s.normalShutdown_frame h) :)
@[simp] theorem State.normalShutdown_eng (s : State) (h : Head) (k' : House) : (s.normalShutdown h).eng k' = s.eng k' :=
  (congrArg (fun t => t.eng k') (s.normalShutdown_frame h) :)
@[simp] theorem State.normalShutdown_light (s : State) (h : Head) (k' : House) : (s.normalShutdown h).light k' = s.light k' :=
  (congrArg (fun t => t.light k') (s.normalShutdown_frame h) :)
@[simp] theorem State.normalShutdown_fireOf (s : State) (h : Head) (k' : House) : (s.normalShutdown h).fireOf k' = s.fireOf k' :=
  (congrArg (fun t => t.fireOf k') (s.normalShutdown_frame h) :)
@[simp] theorem State.overrideShutdown_now (s : State) (h : Head) : (s.overrideShutdown h).now = s.now :=
  (congrArg State.now (s.overrideShutdown_frame h) :)
@[simp] theorem State.overrideShutdown_programme (s : State) (h : Head) : (s.overrideShutdown h).programme = s.programme :=
  (congrArg State.programme (s.overrideShutdown_frame h) :)
@[simp] theorem State.overrideShutdown_notices (s : State) (h : Head) : (s.overrideShutdown h).notices = s.notices :=
  (congrArg State.notices (s.overrideShutdown_frame h) :)
@[simp] theorem State.overrideShutdown_fire (s : State) (h : Head) : (s.overrideShutdown h).fire = s.fire :=
  (congrArg State.fire (s.overrideShutdown_frame h) :)
@[simp] theorem State.overrideShutdown_orders (s : State) (h : Head) : (s.overrideShutdown h).orders = s.orders :=
  (congrArg State.orders (s.overrideShutdown_frame h) :)
@[simp] theorem State.overrideShutdown_slots (s : State) (h : Head) : (s.overrideShutdown h).slots = s.slots :=
  (congrArg State.slots (s.overrideShutdown_frame h) :)
@[simp] theorem State.overrideShutdown_slot (s : State) (h : Head) (h' : Head) : (s.overrideShutdown h).slot h' = s.slot h' :=
  (congrArg (fun t => t.slot h') (s.overrideShutdown_frame h) :)
@[simp] theorem State.overrideShutdown_role (s : State) (h : Head) (h' : Head) : (s.overrideShutdown h).role h' = s.role h' :=
  (congrArg (fun t => t.role h') (s.overrideShutdown_frame h) :)
@[simp] theorem State.overrideShutdown_eng (s : State) (h : Head) (k' : House) : (s.overrideShutdown h).eng k' = s.eng k' :=
  (congrArg (fun t => t.eng k') (s.overrideShutdown_frame h) :)
@[simp] theorem State.overrideShutdown_light (s : State) (h : Head) (k' : House) : (s.overrideShutdown h).light k' = s.light k' :=
  (congrArg (fun t => t.light k') (s.overrideShutdown_frame h) :)
@[simp] theorem State.overrideShutdown_fireOf (s : State) (h : Head) (k' : House) : (s.overrideShutdown h).fireOf k' = s.fireOf k' :=
  (congrArg (fun t => t.fireOf k') (s.overrideShutdown_frame h) :)

/-! ### A strike request (R67) -/

theorem State.strikeRequest_frame (s : State) (h : Head) :
    { s.strikeRequest h with
      monitors := s.monitors, lamps := s.lamps, drive := s.drive, notices := s.notices, loop := s.loop, orders := s.orders } = s := by
  unfold State.strikeRequest
  dsimp only
  split
  · rfl
  · split
    · have raised := ((s.setLamp h { s.lamp h with state := .failed }).rejudgeIdle h).raise_frame .carbonEnd (.head h) (some .rod)
      have idle := (s.setLamp h { s.lamp h with state := .failed }).rejudgeIdle_frame h
      exact (congrArg (fun t : State =>
          { t with
            monitors := s.monitors, lamps := s.lamps, drive := s.drive, notices := s.notices, loop := s.loop, orders := s.orders })
        raised).trans (congrArg (fun t : State =>
          { t with lamps := s.lamps, drive := s.drive, notices := s.notices, loop := s.loop, orders := s.orders }) idle)
    · unfold State.rejudgeIdle
      dsimp only
      split
      · split <;> rfl
      · rfl

@[simp] theorem State.strikeRequest_now (s : State) (h : Head) : (s.strikeRequest h).now = s.now :=
  (congrArg State.now (s.strikeRequest_frame h) :)
@[simp] theorem State.strikeRequest_programme (s : State) (h : Head) : (s.strikeRequest h).programme = s.programme :=
  (congrArg State.programme (s.strikeRequest_frame h) :)
@[simp] theorem State.strikeRequest_fire (s : State) (h : Head) : (s.strikeRequest h).fire = s.fire :=
  (congrArg State.fire (s.strikeRequest_frame h) :)
@[simp] theorem State.strikeRequest_slots (s : State) (h : Head) : (s.strikeRequest h).slots = s.slots :=
  (congrArg State.slots (s.strikeRequest_frame h) :)
@[simp] theorem State.strikeRequest_slot (s : State) (h : Head) (h' : Head) : (s.strikeRequest h).slot h' = s.slot h' :=
  (congrArg (fun t => t.slot h') (s.strikeRequest_frame h) :)
@[simp] theorem State.strikeRequest_role (s : State) (h : Head) (h' : Head) : (s.strikeRequest h).role h' = s.role h' :=
  (congrArg (fun t => t.role h') (s.strikeRequest_frame h) :)
@[simp] theorem State.strikeRequest_eng (s : State) (h : Head) (k' : House) : (s.strikeRequest h).eng k' = s.eng k' :=
  (congrArg (fun t => t.eng k') (s.strikeRequest_frame h) :)
@[simp] theorem State.strikeRequest_light (s : State) (h : Head) (k' : House) : (s.strikeRequest h).light k' = s.light k' :=
  (congrArg (fun t => t.light k') (s.strikeRequest_frame h) :)
@[simp] theorem State.strikeRequest_fireOf (s : State) (h : Head) (k' : House) : (s.strikeRequest h).fireOf k' = s.fireOf k' :=
  (congrArg (fun t => t.fireOf k') (s.strikeRequest_frame h) :)
@[simp] theorem State.strikeRequest_ms (s : State) (h : Head) : (s.strikeRequest h).ms = s.ms := by simp [State.ms]

@[simp] theorem State.normalShutdown_ms (s : State) (h : Head) : (s.normalShutdown h).ms = s.ms := by simp [State.ms]
@[simp] theorem State.overrideShutdown_ms (s : State) (h : Head) : (s.overrideShutdown h).ms = s.ms := by simp [State.ms]
@[simp] theorem State.rejudgeIdle_ms (s : State) (h : Head) : (s.rejudgeIdle h).ms = s.ms := by simp [State.ms]
@[simp] theorem State.assign_ms (s : State) (h : Head) (r : Role) (i : Option Nat) : (s.assign h r i).ms = s.ms := by simp [State.ms]
@[simp] theorem State.setRequests_ms (s : State) (k : House) (r : Requests) : (s.setRequests k r).ms = s.ms := by simp [State.ms]

theorem State.assign_slot (s : State) (h : Head) (r : Role) (i : Option Nat) (h' : Head) :
    (s.assign h r i).slot h' = if h' = h then { role := r, held := i } else s.slot h' := by
  simp [State.assign, State.setSlot_slot]

theorem State.assign_role (s : State) (h : Head) (r : Role) (i : Option Nat) (h' : Head) :
    (s.assign h r i).role h' = if h' = h then r else s.role h' := by
  rw [State.role, State.assign_slot]
  split <;> rfl

theorem State.setRole_slot (s : State) (h : Head) (r : Role) (h' : Head) :
    (s.setRole h r).slot h' = if h' = h then { s.slot h with role := r } else s.slot h' := State.assign_slot ..

theorem State.setRole_role (s : State) (h : Head) (r : Role) (h' : Head) :
    (s.setRole h r).role h' = if h' = h then r else s.role h' := State.assign_role ..

/-! ### A write and a raise leave the heads and the fire unit -/

@[simp] theorem State.writeDrive_slot (s : State) (d : DriveId) (v : DriveVal) (h : Head) : (s.writeDrive d v).slot h = s.slot h := rfl
@[simp] theorem State.writeDrive_fireOf (s : State) (d : DriveId) (v : DriveVal) (k : House) : (s.writeDrive d v).fireOf k = s.fireOf k := rfl
@[simp] theorem State.writeDrive_programme (s : State) (d : DriveId) (v : DriveVal) : (s.writeDrive d v).programme = s.programme := rfl
@[simp] theorem State.writeDrive_ms (s : State) (d : DriveId) (v : DriveVal) : (s.writeDrive d v).ms = s.ms := rfl

section
variable (s : State) (e : Event) (c : Cause) (k : Option Code)

@[simp] theorem State.raise_now : (s.raise e c k).now = s.now := (congrArg State.now (s.raise_frame e c k) :)
@[simp] theorem State.raise_ms : (s.raise e c k).ms = s.ms := by simp [State.ms]
@[simp] theorem State.raise_programme : (s.raise e c k).programme = s.programme := (congrArg State.programme (s.raise_frame e c k) :)
@[simp] theorem State.raise_mon (h : Head) : (s.raise e c k).mon h = s.mon h := by simp [State.mon]
@[simp] theorem State.raise_lamp (h : Head) : (s.raise e c k).lamp h = s.lamp h := by simp [State.lamp]
@[simp] theorem State.raise_slot (h : Head) : (s.raise e c k).slot h = s.slot h := by simp [State.slot]
@[simp] theorem State.raise_role (h : Head) : (s.raise e c k).role h = s.role h := by simp [State.role]
@[simp] theorem State.raise_fireOf (k' : House) : (s.raise e c k).fireOf k' = s.fireOf k' := by simp [State.fireOf]

end

/-! ### The hold line (R56, R57) -/

/-- The hold line judged anew moves the monitor, and raises SHUTTER when it releases a SHOWING head (R56, R57). -/
theorem State.rejudgeHold_frame (s : State) (h : Head) :
    { s.rejudgeHold h with monitors := s.monitors, notices := s.notices, loop := s.loop, orders := s.orders } = s := by
  unfold State.rejudgeHold
  dsimp only
  split
  · exact (congrArg (fun t : State =>
      { t with monitors := s.monitors, notices := s.notices, loop := s.loop, orders := s.orders })
      ((s.setMon h { s.mon h with hold := s.holdCondition h }).raise_frame .shutter (.head h) none) :)
  · rfl

theorem State.rejudgeHold_mon (s : State) (h x : Head) :
    (s.rejudgeHold h).mon x = if x = h then { s.mon h with hold := s.holdCondition h } else s.mon x := by
  unfold State.rejudgeHold
  dsimp only
  split
  · rw [State.raise_mon, State.setMon_mon]
  · rw [State.setMon_mon]

theorem State.rejudgeHold_notices (s : State) (h : Head) :
    (s.rejudgeHold h).notices =
      if (s.mon h).hold = true ∧ s.holdCondition h = false ∧ s.role h = .showing then s.notices.raised .shutter (.head h) none
      else s.notices := by
  unfold State.rejudgeHold
  dsimp only
  split
  · rename_i releases
    simp only [Bool.and_eq_true, Bool.not_eq_true', beq_iff_eq] at releases
    rw [State.raise_notices, if_pos ⟨releases.1.1, releases.1.2, releases.2⟩]
    rfl
  · rename_i stays
    simp only [Bool.and_eq_true, Bool.not_eq_true', beq_iff_eq] at stays
    rw [if_neg fun releases => stays ⟨⟨releases.1, releases.2.1⟩, releases.2.2⟩]
    rfl

@[simp] theorem State.rejudgeHold_now (s : State) (h : Head) : (s.rejudgeHold h).now = s.now :=
  (congrArg State.now (s.rejudgeHold_frame h) :)
@[simp] theorem State.rejudgeHold_programme (s : State) (h : Head) : (s.rejudgeHold h).programme = s.programme :=
  (congrArg State.programme (s.rejudgeHold_frame h) :)
@[simp] theorem State.rejudgeHold_fire (s : State) (h : Head) : (s.rejudgeHold h).fire = s.fire :=
  (congrArg State.fire (s.rejudgeHold_frame h) :)
@[simp] theorem State.rejudgeHold_lamps (s : State) (h : Head) : (s.rejudgeHold h).lamps = s.lamps :=
  (congrArg State.lamps (s.rejudgeHold_frame h) :)
@[simp] theorem State.rejudgeHold_slots (s : State) (h : Head) : (s.rejudgeHold h).slots = s.slots :=
  (congrArg State.slots (s.rejudgeHold_frame h) :)
@[simp] theorem State.rejudgeHold_lamp (s : State) (h : Head) (h' : Head) : (s.rejudgeHold h).lamp h' = s.lamp h' :=
  (congrArg (fun t => t.lamp h') (s.rejudgeHold_frame h) :)
@[simp] theorem State.rejudgeHold_slot (s : State) (h : Head) (h' : Head) : (s.rejudgeHold h).slot h' = s.slot h' :=
  (congrArg (fun t => t.slot h') (s.rejudgeHold_frame h) :)
@[simp] theorem State.rejudgeHold_role (s : State) (h : Head) (h' : Head) : (s.rejudgeHold h).role h' = s.role h' :=
  (congrArg (fun t => t.role h') (s.rejudgeHold_frame h) :)
@[simp] theorem State.rejudgeHold_eng (s : State) (h : Head) (k' : House) : (s.rejudgeHold h).eng k' = s.eng k' :=
  (congrArg (fun t => t.eng k') (s.rejudgeHold_frame h) :)
@[simp] theorem State.rejudgeHold_light (s : State) (h : Head) (k' : House) : (s.rejudgeHold h).light k' = s.light k' :=
  (congrArg (fun t => t.light k') (s.rejudgeHold_frame h) :)
@[simp] theorem State.rejudgeHold_fireOf (s : State) (h : Head) (k' : House) : (s.rejudgeHold h).fireOf k' = s.fireOf k' :=
  (congrArg (fun t => t.fireOf k') (s.rejudgeHold_frame h) :)
@[simp] theorem State.rejudgeHold_entry (s : State) (h : Head) (d : DriveId) : (s.rejudgeHold h).entry d = s.entry d :=
  (congrArg (fun t => t.entry d) (s.rejudgeHold_frame h) :)

end Sys2Proof.Machine
end

section
/-! SUPPORT. The light units: a fade's position lies between its ends (R148), and the light operations keep what is held at every moment. -/

namespace Sys2Proof.Machine

/-! ### The arithmetic of a fade (R148) -/

/-- A share of a distance lies within it, whichever way it goes. -/
theorem tdiv_between (d : Int) {k n : Nat} (le : k ≤ n) : min 0 d ≤ (d * k).tdiv n ∧ (d * k).tdiv n ≤ max 0 d := by
  have rising : ∀ e : Nat, 0 ≤ ((e : Int) * k).tdiv n ∧ ((e : Int) * k).tdiv n ≤ e := fun e => by
    have whole : ((e : Int) * k).tdiv n = ((e * k / n : Nat) : Int) := by
      rw [Int.tdiv_eq_ediv_of_nonneg (by positivity)]
      norm_cast
    rw [whole]
    exact ⟨Int.natCast_nonneg _, by exact_mod_cast Nat.div_le_of_le_mul (by rw [Nat.mul_comm n]; exact Nat.mul_le_mul_left e le)⟩
  obtain ⟨e, rfl | rfl⟩ := d.eq_nat_or_neg
  · have := rising e
    omega
  · have := rising e
    rw [Int.neg_mul, Int.neg_tdiv]
    omega

/-- The position of a fade's step, before it is cut at 0, which it never is. -/
def Fade.line (f : Fade) (k : Nat) : Int := (f.p0 : Int) + (((f.target : Int) - f.p0) * k).tdiv f.n

theorem Fade.line_between (f : Fade) {k : Nat} (le : k ≤ f.n) :
    (min (f.p0 : Int) f.target) ≤ f.line k ∧ f.line k ≤ max (f.p0 : Int) f.target := by
  have := tdiv_between ((f.target : Int) - f.p0) le
  unfold Fade.line
  omega

theorem Fade.at_eq (f : Fade) {k : Nat} (le : k ≤ f.n) : (f.at k : Int) = f.line k := by
  have := f.line_between le
  exact Int.toNat_of_nonneg (show 0 ≤ f.line k by omega)

/-- The last step stands at the target (R148). -/
theorem Fade.line_last (f : Fade) (some : 0 < f.n) : f.line f.n = f.target := by
  have : (((f.target : Int) - f.p0) * f.n).tdiv f.n = f.target - f.p0 := Int.mul_tdiv_cancel _ (by omega)
  rw [Fade.line, this]
  omega

/-! ### The light position as its rule says -/

variable {c : Claims} {s t : State} {k : House}

/-- What a light unit's position is held to (R148), of the unit alone. -/
structure LightUnit.Kept (l : LightUnit) : Prop where
  rest : l.fade = none → l.position = l.requests.effective.2.position
  fades : ∀ f, l.fade = some f → f.target = l.requests.effective.2.position ∧ f.k < f.n ∧ (l.position : Int) = f.line f.k

theorem State.lightKept_iff : s.LightKept k ↔ (s.light k).Kept := by
  constructor
  · rintro ⟨rest, fades⟩
    exact ⟨rest, fun f e => ⟨(fades f e).1, (fades f e).2.1, (fades f e).2.2.1⟩⟩
  · rintro ⟨rest, fades⟩
    refine ⟨rest, fun f e => ?_⟩
    obtain ⟨target, lt, position⟩ := fades f e
    have between := f.line_between lt.le
    exact ⟨target, lt, position, by omega, by omega⟩

/-- A lookup moves the last triple alone. -/
theorem LightUnit.Kept.triple {l : LightUnit} (kept : l.Kept) (x : Triple) : ({ l with lastTriple := x } : LightUnit).Kept :=
  ⟨kept.rest, kept.fades⟩

/-- A request of another source placed or withdrawn leaves the fire unit's (R142). -/
theorem Requests.place_fire {r : Requests} {src : LightSource} {q : LightReq} (other : src ≠ .fire) : (r.place src q).fire = r.fire := by
  cases src with
  | fire => exact absurd rfl other
  | fault => rfl
  | operator => rfl
  | shown => rfl

theorem Requests.withdraw_fire {r : Requests} {src : LightSource} (other : src ≠ .fire) : (r.withdraw src).fire = r.fire := by
  cases src with
  | fire => exact absurd rfl other
  | fault => rfl
  | operator => rfl
  | shown => rfl

theorem State.setRequests_kept (kept : (s.light k).Kept) (r : Requests) : ((s.setRequests k r).light k).Kept := by
  by_cases changed : (s.light k).requests.changed r = true
  · by_cases there : r.effective.2.position = (s.light k).position
    · rw [State.setRequests_atTarget changed there, State.setLight_light_same]
      exact ⟨fun _ => there.symm, nofun⟩
    · by_cases atOnce : r.effective.2.fade = 0
      · rw [State.setRequests_jumps changed there atOnce, State.lookupLight_light, State.setLight_light_same]
        exact ⟨fun _ => rfl, nofun⟩
      · rw [State.setRequests_fades changed there atOnce, State.setLight_light_same]
        refine ⟨nofun, fun f e => ?_⟩
        cases e
        exact ⟨rfl, Nat.pos_of_ne_zero atOnce, by simp [Fade.line]⟩
  · have same : (s.light k).requests.changed r = false := by simpa using changed
    have target : r.effective.2.position = (s.light k).requests.effective.2.position :=
      not_not.mp fun differs => changed (Requests.changed_iff.mpr (.inr differs))
    rw [State.setRequests_unchanged same, State.setLight_light_same]
    exact ⟨fun none => (kept.rest none).trans target.symm, fun f e => target ▸ kept.fades f e⟩

/-- A fade's next step keeps the position on its line, and its last step stands at the target (R148). -/
theorem LightUnit.Kept.nextStep {l : LightUnit} {f : Fade} (kept : l.Kept) (fade : l.fade = some f) :
    ({ l with
      position := f.at (f.k + 1)
      fade := if f.k + 1 = f.n then none else some { f with k := f.k + 1 } } : LightUnit).Kept := by
  obtain ⟨target, lt, -⟩ := kept.fades f fade
  by_cases last : f.k + 1 = f.n
  · refine ⟨fun _ => ?_, fun g e => by simp [last] at e⟩
    have stands := f.at_eq (k := f.n) le_rfl
    rw [f.line_last (by omega)] at stands
    rw [last, ← target]
    exact_mod_cast stands
  · refine ⟨fun none => by simp [last] at none, fun g e => ?_⟩
    simp only [last, if_false, Option.some.injEq] at e
    subst e
    exact ⟨target, Nat.lt_of_le_of_ne lt last, f.at_eq lt⟩

/-! ### The picture side of the light operations -/

theorem State.ShowSide.lookupLight (s : State) (k : House) : s.ShowSide (s.lookupLight k) := by
  unfold State.lookupLight
  dsimp only
  split
  · exact .refl s
  · exact (State.ShowSide.setLight s k _).trans (State.ShowSide.writeDrive _ _ nofun)

theorem State.ShowSide.setRequests (s : State) (k : House) (r : Requests) : s.ShowSide (s.setRequests k r) := by
  unfold State.setRequests
  dsimp only
  repeat' split
  · exact .setLight ..
  · exact .setLight ..
  · exact (State.ShowSide.setLight s k _).trans (State.ShowSide.lookupLight _ k)
  · exact .setLight ..

/-! ### What they keep -/

/-- A house in FIRE shows the request of the fire unit, at full light (R142, R164). -/
theorem Requests.effective_fire {r : Requests} {q : LightReq} (fire : r.fire = some q) : r.effective = (.fire, q) := by
  simp [Requests.effective, fire]

/-- Requests below the fire unit's do not move the lights of a house in FIRE (R147, R164). -/
theorem State.setRequests_light_of_fire {r : Requests} {q : LightReq} (before : (s.light k).requests.fire = some q)
    (after : r.fire = some q) : (s.setRequests k r).light k = { s.light k with requests := r } := by
  have same : (s.light k).requests.changed r = false := Bool.eq_false_iff.mpr fun changed => by
    rw [Requests.changed_iff, Requests.effective_fire before, Requests.effective_fire after] at changed
    simp at changed
  rw [State.setRequests_unchanged same, State.setLight_light_same]

namespace State.Meets

/-- An operation of a house's light unit alone: the engine, the roles, the dousers and the sound stand. -/
theorem ofLight (m : s.Meets c) (a : s.ShowSide t) (l : State.Local k s t) (frame : { t with lights := s.lights, drive := s.drive } = s)
    (entries : ∀ d, d ≠ .dim k → t.entry d = s.entry d) (light : (s.light k).Kept → (t.light k).Kept)
    (fires : c.fires → (t.light k).requests.fire = (s.light k).requests.fire ∧
      (s.inFire k = true → (s.light k).requests.fire = some { position := 255, fade := 0 } →
        (s.light k).position = 255 ∧ (s.light k).fade = none → (t.light k).position = 255 ∧ (t.light k).fade = none)) :
    t.Meets c := by
  have eng : t.eng k = s.eng k := (congrArg (fun t => t.eng k) frame :)
  refine m.of_showSide a l (fun kept => State.lightKept_iff.mpr (light (State.lightKept_iff.mp kept))) (fun r some => .inl (eng ▸ some))
    (fun claimed kept => ?_) fun _ kept => ?_
  · obtain ⟨request, stands⟩ := fires claimed
    refine a.steady.fireKept kept request (fun inFire => stands inFire ?_ (kept.lights inFire))
      (by rw [entries (.sound k) nofun]; exact kept.sound) (by rw [eng]; exact kept.engine)
    rw [kept.request, if_pos inFire]
  · exact kept.of_eq (fun h _ => (congrArg (fun t => t.role h) frame :)) eng
      (fun h _ opened => by rw [entries (.douser h) nofun] at opened; exact opened) (.inl (by rw [entries (.sound k) nofun]))

/-- A new request list that leaves the fire unit's request (R142, R147). -/
theorem setRequests (m : s.Meets c) {r : Requests} (fire : c.fires → r.fire = (s.light k).requests.fire) : (s.setRequests k r).Meets c :=
  m.ofLight (.setRequests s k r) (.setRequests k s r) (s.setRequests_frame k r) (fun _ ne => s.setRequests_entry_ne k r ne)
    (fun kept => State.setRequests_kept kept r) fun claimed => ⟨by rw [State.setRequests_requests, fire claimed], fun _ request lights => by
      rw [State.setRequests_light_of_fire request ((fire claimed).trans request)]
      exact lights⟩

theorem placeLight (m : s.Meets c) {src : LightSource} {q : LightReq} (other : src ≠ .fire) : (s.placeLight k src q).Meets c :=
  m.setRequests fun _ => Requests.place_fire other

theorem withdrawLight (m : s.Meets c) {src : LightSource} (other : src ≠ .fire) : (s.withdrawLight k src).Meets c :=
  m.setRequests fun _ => Requests.withdraw_fire other

/-- A light unit changed, the requests apart (R137, R148). -/
theorem setLightKept (m : s.Meets c) {l : LightUnit} (light : (s.light k).Kept → l.Kept) (requests : l.requests = (s.light k).requests)
    (fires : (s.light k).fade = none → l.position = (s.light k).position ∧ l.fade = none) : (s.setLight k l).Meets c :=
  m.ofLight (.setLight s k l) (.setLight s k l) rfl (fun _ _ => rfl) (by rw [State.setLight_light_same]; exact light) fun _ => by
    rw [State.setLight_light_same, requests]
    refine ⟨rfl, fun _ _ lights => ?_⟩
    obtain ⟨position, fade⟩ := fires lights.2
    exact ⟨position.trans lights.1, fade⟩

theorem lookupLight (m : s.Meets c) (k : House) : (s.lookupLight k).Meets c :=
  m.ofLight (.lookupLight s k) (.lookupLight k s) (s.lookupLight_frame k) (fun _ ne => s.lookupLight_entry_ne k ne)
    (fun kept => by rw [State.lookupLight_light]; exact kept.triple _) fun _ => by
      rw [State.lookupLight_light]; exact ⟨rfl, fun _ _ lights => lights⟩

/-- A light unit changed in its settings and its loading alone. -/
theorem setLight (m : s.Meets c) {l : LightUnit} (requests : l.requests = (s.light k).requests)
    (position : l.position = (s.light k).position) (fade : l.fade = (s.light k).fade) : (s.setLight k l).Meets c :=
  m.setLightKept
    (fun kept => ⟨by rw [requests, position, fade]; exact kept.rest, by rw [requests, position, fade]; exact kept.fades⟩)
    requests fun none => ⟨position, fade.trans none⟩

theorem curveByte (m : s.Meets c) (k : House) (b : Byte) : (s.curveByte k b).Meets c := by
  unfold State.curveByte State.commitTriple
  dsimp only
  split
  · split
    · apply lookupLight
      exact m.setLight rfl rfl rfl
    · exact m.setLight rfl rfl rfl
  · exact m.setLight rfl rfl rfl

theorem fadeStep (m : s.Meets c) (k : House) : (s.fadeStep k).Meets c := by
  unfold State.fadeStep
  dsimp only
  split
  · exact m
  · rename_i f fade
    split
    · apply lookupLight
      exact m.setLightKept (fun kept => kept.nextStep fade) rfl fun none => by rw [none] at fade; cases fade
    · exact m

end State.Meets

end Sys2Proof.Machine
end

section
/-! SUPPORT. The engine's small operations: what each leaves, and the conditions it keeps. -/

namespace Sys2Proof.Machine

theorem Head.eq_or_partner {h x : Head} (e : x.house = h.house) : x = h ∨ x = h.partner := by
  revert e
  cases h <;> cases x <;> decide

variable {c : Claims} {s t : State} {k : House} {h : Head}

/-! ### Rules -/

section
variable (s : State) (k : House) (r : Requests)

@[simp] theorem State.setRequests_motor (h : Head) : (s.setRequests k r).entry (.motor h) = s.entry (.motor h) :=
  s.setRequests_entry_ne k r nofun
@[simp] theorem State.setRequests_douser (h : Head) : (s.setRequests k r).entry (.douser h) = s.entry (.douser h) :=
  s.setRequests_entry_ne k r nofun
@[simp] theorem State.setRequests_lampEntry (h : Head) : (s.setRequests k r).entry (.lamp h) = s.entry (.lamp h) :=
  s.setRequests_entry_ne k r nofun
@[simp] theorem State.setRequests_feed (h : Head) : (s.setRequests k r).entry (.feed h) = s.entry (.feed h) :=
  s.setRequests_entry_ne k r nofun
@[simp] theorem State.setRequests_sound (k' : House) : (s.setRequests k r).entry (.sound k') = s.entry (.sound k') :=
  s.setRequests_entry_ne k r nofun

end

/-- The SHOW request that a record's light cue leaves (R144). -/
def Requests.shownFrom (r : Requests) (cue : Option LightCue) : Requests :=
  { r with
    shown := match cue with
      | some q => { position := q.position, fade := q.fade }
      | none => r.shown }

/-- A record without a light cue leaves the requests as they are, so that the cue is a new request list in every case (R144). -/
theorem State.placeCue_eq (s : State) (k : House) :
    s.placeCue k = s.setRequests k ((s.light k).requests.shownFrom (s.curReel k).light) := by
  unfold State.placeCue Requests.shownFrom
  cases (s.curReel k).light with
  | some q => rfl
  | none =>
    have same : (s.light k).requests.changed (s.light k).requests = false := by simp [Requests.changed]
    rw [State.setRequests_unchanged same]
    exact (congrArg (fun p => { s with lights := p }) (PerHouse.set_get_self s.lights k).symm :)

theorem State.withdrawClaim_eq (s : State) (k : House) :
    s.withdrawClaim k =
      (s.setEng k { s.eng k with faultClaim := false }).setRequests k { (s.light k).requests with fault := none } := rfl

/-! ### The engine of a house changed -/

/-- What an engine keeps of its house's picture (R103, R118). -/
theorem State.ShowKept.setEng {e : Engine} (kept : s.ShowKept k)
    (states : ∀ h, h.house = k → s.role h = .showing → e.state = .running ∨ e.state = .halted)
    (runup : ∀ r, e.runup = some r → r.purpose = .start → e.state = .armed ∨ e.state = .interval)
    (pending : e.changePending = true → e.changeTaken = true) : (s.setEng k e).ShowKept k where
  one := kept.one
  dousers := kept.dousers
  sound := kept.sound
  states := by rw [State.setEng_eng_same]; exact states
  runup := by rw [State.setEng_eng_same]; exact runup
  pending := by rw [State.setEng_eng_same]; exact pending

namespace State.Meets

theorem setEng (m : s.Meets c) {e : Engine} (runups : ∀ r, e.runup = some r → (s.eng k).runup = some r ∨ r.head.house = k)
    (fires : c.fires → s.inFire k = true → (s.eng k).state = .halted → (s.eng k).runup = none → e.state = .halted ∧ e.runup = none)
    (shows : c.shows → s.ShowKept k → (s.setEng k e).ShowKept k) : (s.setEng k e).Meets c := by
  have side := State.ShowSide.setEng s k e
  refine m.of_showSide side (.setEng s k e) (fun kept => kept.of_eq rfl rfl rfl) (fun r some => ?_) (fun claimed kept => ?_) shows
  · rw [State.setEng_eng_same] at some; exact runups r some
  · refine side.steady.fireKept kept rfl kept.lights kept.sound fun inFire => ?_
    rw [State.setEng_eng_same]
    exact fires claimed inFire (kept.engine inFire).1 (kept.engine inFire).2

/-- An engine changed beside its state and its run-up; a change it holds pending has been taken. -/
theorem setMarks (m : s.Meets c) {e : Engine} (state : e.state = (s.eng k).state) (runup : e.runup = (s.eng k).runup)
    (pending : ((s.eng k).changePending = true → (s.eng k).changeTaken = true) → e.changePending = true → e.changeTaken = true) :
    (s.setEng k e).Meets c :=
  m.setEng (fun r some => .inl (runup ▸ some)) (fun _ _ halted none => ⟨state.trans halted, runup.trans none⟩) fun _ kept =>
    kept.setEng (by rw [state]; exact kept.states) (by rw [state, runup]; exact kept.runup) (pending kept.pending)

theorem runupIdle (m : s.Meets c) (k : House) : (s.runupIdle k).Meets c :=
  m.setEng nofun (fun _ _ halted _ => ⟨halted, rfl⟩) fun _ kept => kept.setEng kept.states nofun kept.pending

theorem setClaim (m : s.Meets c) (k : House) : (s.setClaim k).Meets c := by
  refine State.Meets.placeLight (src := .fault) ?_ nofun
  exact m.setMarks rfl rfl id

theorem withdrawClaim (m : s.Meets c) (k : House) : (s.withdrawClaim k).Meets c := by
  refine State.Meets.withdrawLight (src := .fault) ?_ nofun
  exact m.setMarks rfl rfl id

theorem placeCue (m : s.Meets c) (k : House) : (s.placeCue k).Meets c := by
  rw [State.placeCue_eq]
  exact m.setRequests fun _ => rfl

/-! ### Sounds, dousers and roles -/

theorem silence (m : s.Meets c) (k : House) : (s.writeDrive (.sound k) (.sound none)).Meets c := by
  have side := State.ShowSide.writeDrive s (d := .sound k) (.sound none) nofun
  have none : ((s.writeDrive (.sound k) (.sound none)).entry (.sound k)).value = .sound none := by rw [State.writeDrive_value, if_pos rfl]
  refine m.of_showSide side (.writeDrive s _ rfl) (fun kept => kept.of_eq rfl rfl rfl) (fun _ some => .inl some)
    (fun _ kept => side.steady.fireKept kept rfl kept.lights (fun _ => none) kept.engine) fun _ kept =>
    kept.of_eq (fun _ _ => rfl) rfl (fun x _ opened => ?_) (.inr none)
  rw [State.writeDrive_value, if_neg nofun] at opened
  exact opened

/-- A role other than SHOWING given to a head whose picture is over. -/
theorem assign (m : s.Meets c) (h : Head) {r : Role} {i : Option Nat} (dark : r ≠ .showing)
    (ended : c.shows → s.role h ≠ .showing ∨
      ((s.entry (.douser h)).value ≠ .douser true ∧ (s.entry (.sound h.house)).value ≠ .sound (some h))) : (s.assign h r i).Meets c := by
  have side := State.ShowSide.assign s h r i
  refine m.of_showSide side (.assign s r i rfl) (fun kept => kept.of_eq (by simp) (by simp) (by simp)) (fun _ some => .inl (by simpa using some))
    (fun _ kept => side.steady.fireKept kept (by simp) (by simpa using kept.lights) (by simpa using kept.sound) (by simpa using kept.engine))
    fun claimed kept => ?_
  have still : ∀ x, (s.assign h r i).role x = .showing → x ≠ h ∧ s.role x = .showing := fun x shows => by
    rw [State.assign_role] at shows
    split at shows
    · exact absurd shows dark
    · exact ⟨‹_›, shows⟩
  have stays : ∀ x, x ≠ h → s.role x = .showing → (s.assign h r i).role x = .showing := fun x ne shows => by
    rw [State.assign_role, if_neg ne]; exact shows
  refine ⟨fun x y ex ey a b => kept.one x y ex ey (still x a).2 (still y b).2, fun x e opened => ?_, fun x named => ?_,
    fun x e shows => ?_, by simpa using kept.runup, by simpa using kept.pending⟩
  · rw [State.assign_entry] at opened
    have shows := kept.dousers x e opened
    refine stays x (fun same => ?_) shows
    subst same
    exact (ended claimed).elim (fun out => out shows) fun out => out.1 opened
  · rw [State.assign_entry] at named
    obtain ⟨e, shows⟩ := kept.sound x named
    refine ⟨e, stays x (fun same => ?_) shows⟩
    subst same
    exact (ended claimed).elim (fun out => out shows) fun out => out.2 named
  · rw [State.assign_eng]
    exact kept.states x e (still x shows).2

theorem setRole (m : s.Meets c) (h : Head) {r : Role} (dark : r ≠ .showing)
    (ended : c.shows → s.role h ≠ .showing ∨
      ((s.entry (.douser h)).value ≠ .douser true ∧ (s.entry (.sound h.house)).value ≠ .sound (some h))) : (s.setRole h r).Meets c :=
  m.assign h dark ended

/-- A head SHOWING has its douser opened and the sound named, in a house that is not in FIRE. -/
theorem showPicture (m : s.Meets c) (h : Head) (free : c.fires → s.inFire h.house = false) (shows : c.shows → s.role h = .showing) :
    (s.showPicture h).Meets c := by
  have side : s.ShowSide (s.showPicture h) :=
    (State.ShowSide.writeDrive s (d := .douser h) _ nofun).trans (State.ShowSide.writeDrive _ (d := .sound h.house) _ nofun)
  refine m.of_showSide side (.showPicture s rfl) (fun kept => kept.of_eq rfl rfl rfl) (fun _ some => .inl some)
    (fun claimed kept => side.steady.fireKept kept rfl kept.lights (fun inFire => by rw [free claimed] at inFire; cases inFire) kept.engine)
    fun claimed kept => ⟨kept.one, fun x e opened => ?_, fun x named => ?_, kept.states, kept.runup, kept.pending⟩
  · by_cases same : x = h
    · subst same; exact shows claimed
    · rw [State.showPicture, State.writeDrive_value, if_neg nofun, State.writeDrive_value, if_neg (by simpa using same)] at opened
      exact kept.dousers x e opened
  · rw [State.showPicture, State.writeDrive_value, if_pos rfl] at named
    cases named
    exact ⟨rfl, shows claimed⟩

/-! ### The end of a reel and of a tail (R122 to R125) -/

theorem tailEnd (m : s.Meets c) (h : Head) (role : s.role h ≠ .showing) : (s.tailEnd h).Meets c :=
  ((m.writeMotor h false).normalShutdown h).assign h nofun fun _ => .inl (by simpa using role)

theorem tailJudge (m : s.Meets c) (h : Head) : (s.tailJudge h).Meets c := by
  unfold State.tailJudge
  split
  · split
    · rename_i tailing
      exact m.tailEnd h (by rw [tailing.1]; decide)
    · exact m
  · exact m

theorem endPicture (m : s.Meets c) (h : Head) : (s.endPicture h).Meets c :=
  ((m.closeDouser h).silence h.house).setRole h nofun fun _ => .inr (by simp [State.writeDrive_value])

theorem darken (m : s.Meets c) (h : Head) : (s.darken h).Meets c := by
  have dark : ∀ {t : State}, t.Meets c → (t.setEng h.house { t.eng h.house with dark := true }).Meets c := fun m => m.setMarks rfl rfl id
  exact ((((dark (m.endPicture h)).raise _ _ _ fun k => by cases k <;> decide)).setClaim _).tailJudge h

/-- A house whose one picture is over moves to a state without one. -/
theorem restHouse (m : s.Meets c) {st : HouseState} (free : c.fires → s.inFire k = false) (dark : c.shows → ∀ h, h.house = k → s.role h ≠ .showing)
    (runup : c.shows → ∀ r, (s.eng k).runup = some r → r.purpose ≠ .start) : (s.setEng k { s.eng k with state := st }).Meets c :=
  m.setEng (fun _ some => .inl some) (fun claimed inFire => by rw [free claimed] at inFire; cases inFire) fun claimed kept =>
    kept.setEng (fun h e shows => absurd shows (dark claimed h e)) (fun r some start => absurd start (runup claimed r some)) kept.pending

/-- A house that runs is not in FIRE (R163). -/
theorem free_of_running (m : s.Meets c) (running : (s.eng k).state = .running) : c.fires → s.inFire k = false := fun claimed => by
  cases inFire : s.inFire k with
  | false => rfl
  | true => rw [((m.fires claimed k).engine inFire).1] at running; cases running

/-- A house with a run-up is not in FIRE (R163). -/
theorem free_of_runup (m : s.Meets c) (runs : (s.eng k).runup ≠ none) : c.fires → s.inFire k = false := fun claimed => by
  cases inFire : s.inFire k with
  | false => rfl
  | true => exact absurd ((m.fires claimed k).engine inFire).2 runs

/-- The house of a judged head after its picture: nothing shows, and its run-up is not one for START. -/
theorem endPicture_rests (m : s.Meets c) (judged : s.judged h = true) (claimed : c.shows) :
    (∀ x, x.house = h.house → (s.endPicture h).role x ≠ .showing) ∧ ∀ r, (s.eng h.house).runup = some r → r.purpose ≠ .start := by
  obtain ⟨running, showing⟩ := State.judged_iff.mp judged
  refine ⟨fun x e shows => ?_, fun r some start => ?_⟩
  · rw [State.endPicture, State.setRole_role] at shows
    split at shows
    · cases shows
    · exact ‹x ≠ h› ((m.shows claimed _).one x h e rfl shows showing)
  · obtain armed | interval := (m.shows claimed _).runup r some start
    · rw [armed] at running; cases running
    · rw [interval] at running; cases running

/-- The end of a reel that is no changeover reel: the light request, the new state and the tail (R123, R124). -/
theorem endReel (m : s.Meets c) (judged : s.judged h = true) (q : LightReq) (st : HouseState) (code : Code) :
    let s1 := (s.endPicture h).placeLight h.house .shown q
    (((s1.setEng h.house { s1.eng h.house with state := st }).raise .showDone (.house h.house) (some code)).tailJudge h).Meets c := by
  have running := (State.judged_iff.mp judged).1
  have rest : ((s.endPicture h).placeLight h.house .shown q).Meets c := (m.endPicture h).placeLight nofun
  refine ((rest.restHouse (rest.free_of_running ?_) (fun claimed => ?_) fun claimed => ?_).raise _ _ _
    fun k => by cases k <;> decide).tailJudge h
  · simpa [State.placeLight, State.endPicture, State.setRole] using running
  · simpa [State.placeLight] using (m.endPicture_rests judged claimed).1
  · simpa [State.placeLight, State.endPicture, State.setRole] using (m.endPicture_rests judged claimed).2

theorem lastStep (m : s.Meets c) (judged : s.judged h = true) : (Machine.lastStep h s).Meets c := by
  unfold Machine.lastStep
  dsimp only
  split
  · split
    · exact m.endReel judged _ _ _
    · split
      · exact m.endReel judged _ _ _
      · exact m.darken h
  · exact m

end State.Meets

end Sys2Proof.Machine
end

section
/-! SUPPORT. The engine to any depth: what a picture brought up shows, and the conditions that a swap, a run-up and a judgement keep. -/

namespace Sys2Proof.Machine

variable {c : Claims} {s t : State} {k : House} {h : Head}

/-! ### A picture brought up (R110, R120) -/

/-- A swap up to the judgement of the steps of R119 for the head then showing (R120). -/
def State.swapShown (s : State) (inc : Head) : State :=
  let k := inc.house
  let out := inc.partner
  let s1 := ((s.writeDrive (.douser out) (.douser false)).showPicture inc).setRole inc .showing
  let s2 := if s1.role out = .showing then s1.setRole out .tailing else s1
  let s3 := (s2.setEng k { s2.eng k with cur := (s2.eng k).cur + 1 }).placeCue k
  (s3.setEng k (s3.eng k).cleared).withdrawClaim k

theorem swap_eq (J : Judge) (inc : Head) (s : State) : swap J inc s = (J inc (s.swapShown inc)).tailJudge inc.partner := rfl

/-- The entry to RUNNING up to the same judgement (R110). -/
def State.runShown (s : State) (h : Head) : State :=
  let k := h.house
  let s1 := (s.showPicture h).setRole h .showing
  let s2 := s1.setEng k { (s1.eng k).cleared with cur := (s1.slot h).held.getD (s1.eng k).cur }
  let s3 := (s2.withdrawClaim k).placeCue k
  s3.setEng k { s3.eng k with state := .running }

theorem enterRunning_eq (J : Judge) (h : Head) (s : State) : enterRunning J h s = J h (s.runShown h) := rfl

/-- A house whose one SHOWING head has the picture and the sound, its run-up over and no change pending. -/
theorem State.ShowKept.of_single (role : t.role h = .showing) (other : t.role h.partner ≠ .showing)
    (douser : (t.entry (.douser h.partner)).value ≠ .douser true) (sound : (t.entry (.sound h.house)).value = .sound (some h))
    (state : (t.eng h.house).state = .running) (runup : (t.eng h.house).runup = none) (pending : (t.eng h.house).changePending = false) :
    t.ShowKept h.house where
  one x y ex ey a b := by
    obtain rfl | rfl := Head.eq_or_partner ex
    · obtain rfl | rfl := Head.eq_or_partner ey
      · rfl
      · exact absurd b other
    · exact absurd a other
  dousers x e opened := by
    obtain rfl | rfl := Head.eq_or_partner e
    · exact role
    · exact absurd opened douser
  sound x named := by
    rw [sound] at named
    cases named
    exact ⟨rfl, role⟩
  states _ _ _ := .inl state
  runup r some := by rw [runup] at some; cases some
  pending h := by rw [pending] at h; cases h

section
variable (s : State) (inc : Head)

theorem State.swapShown_slots (x : Head) :
    (s.swapShown inc).slot x =
      if x = inc then { s.slot inc with role := .showing }
      else if x = inc.partner then
        { s.slot inc.partner with role := if s.role inc.partner = .showing then .tailing else s.role inc.partner }
      else s.slot x := by
  have ne := Head.partner_ne inc
  unfold State.swapShown State.showPicture
  simp only [State.placeCue_eq, State.withdrawClaim_eq, State.setRequests_slot, State.setEng_slot, State.setRole_role, if_neg ne,
    State.writeDrive_role]
  split
  · rw [State.setRole_slot, State.setRole_slot, State.setRole_slot, if_neg ne]
    by_cases xi : x = inc
    · subst xi
      simp [ne.symm]
    · by_cases xp : x = inc.partner <;> simp [xi, xp, ne]
  · rw [State.setRole_slot]
    by_cases xi : x = inc
    · simp [xi]
    · by_cases xp : x = inc.partner
      · simp [xp, ne]; rfl
      · simp [xi, xp]

theorem State.swapShown_eng :
    (s.swapShown inc).eng inc.house = { (s.eng inc.house).cleared with cur := (s.eng inc.house).cur + 1, faultClaim := false } := by
  unfold State.swapShown State.showPicture State.setRole
  simp only [State.placeCue_eq, State.withdrawClaim_eq, State.setRequests_eng, State.setEng_eng_same]
  split <;> simp [Engine.cleared]

theorem State.swapShown_value {d : DriveId} (dim : d ≠ .dim inc.house) :
    ((s.swapShown inc).entry d).value =
      if d = .sound inc.house then .sound (some inc)
      else if d = .douser inc then .douser true
      else if d = .douser inc.partner then .douser false
      else (s.entry d).value := by
  unfold State.swapShown State.setRole
  simp only [State.placeCue_eq, State.withdrawClaim_eq]
  rw [State.setRequests_entry_ne _ _ _ dim, State.setEng_entry, State.setEng_entry, State.setRequests_entry_ne _ _ _ dim, State.setEng_entry]
  split <;> simp [State.showPicture, State.writeDrive_value]

theorem State.swapShown_showKept (running : (s.eng inc.house).state = .running) : (s.swapShown inc).ShowKept inc.house := by
  have ne := Head.partner_ne inc
  apply State.ShowKept.of_single
  · rw [State.role, s.swapShown_slots, if_pos rfl]
  · rw [State.role, s.swapShown_slots, if_neg ne, if_pos rfl]
    dsimp only
    split
    · decide
    · assumption
  · simp [State.swapShown_value, ne]
  · rw [s.swapShown_value inc (d := .sound inc.house) nofun, if_pos rfl]
  · rw [s.swapShown_eng]; exact running
  · rw [s.swapShown_eng]; rfl
  · rw [s.swapShown_eng]; rfl

theorem State.runShown_slots (x : Head) :
    (s.runShown h).slot x = if x = h then { s.slot h with role := .showing } else s.slot x := by
  unfold State.runShown State.showPicture
  simp [State.placeCue_eq, State.withdrawClaim_eq, State.setRole_slot]

theorem State.runShown_eng :
    (s.runShown h).eng h.house =
      { (s.eng h.house).cleared with
        cur := (s.slot h).held.getD (s.eng h.house).cur, faultClaim := false, state := .running } := by
  unfold State.runShown State.showPicture
  simp [State.placeCue_eq, State.withdrawClaim_eq, State.setRole_slot, Engine.cleared]
  simp [State.setRole]

theorem State.runShown_value {d : DriveId} (dim : d ≠ .dim h.house) :
    ((s.runShown h).entry d).value =
      if d = .sound h.house then .sound (some h) else if d = .douser h then .douser true else (s.entry d).value := by
  unfold State.runShown State.setRole
  simp only [State.placeCue_eq, State.withdrawClaim_eq]
  rw [State.setEng_entry, State.setRequests_entry_ne _ _ _ dim, State.setRequests_entry_ne _ _ _ dim]
  simp [State.showPicture, State.writeDrive_value]

/-- The entry to RUNNING from a house where nothing shows. -/
theorem State.runShown_showKept (kept : s.ShowKept h.house) (dark : ∀ x, x.house = h.house → s.role x ≠ .showing) :
    (s.runShown h).ShowKept h.house := by
  have ne := Head.partner_ne h
  have other := dark h.partner (by simp)
  apply State.ShowKept.of_single
  · rw [State.role, s.runShown_slots, if_pos rfl]
  · rw [State.role, s.runShown_slots, if_neg ne]; exact other
  · rw [s.runShown_value (d := .douser h.partner) nofun, if_neg nofun, if_neg (by simpa using ne)]
    exact fun opened => other (kept.dousers h.partner (by simp) opened)
  · rw [s.runShown_value (d := .sound h.house) nofun, if_pos rfl]
  · rw [s.runShown_eng]
  · rw [s.runShown_eng]; rfl
  · rw [s.runShown_eng]; rfl

end

/-! ### The operations that end in a judgement -/

/-- A judgement keeps whatever is claimed. -/
def Keeper (J : Judge) : Prop := ∀ (c : Claims) (h : Head) (s : State), s.Meets c → (J h s).Meets c

theorem State.Local.swapShown (s : State) (inc : Head) : State.Local inc.house s (s.swapShown inc) := by
  have out : inc.partner.house = inc.house := Head.partner_house inc
  have a := ((State.Local.writeDrive s (d := .douser inc.partner) (.douser false) out).trans (State.Local.showPicture _ rfl)).trans
    (State.Local.setRole _ .showing (h := inc) rfl)
  unfold State.swapShown
  dsimp only
  split
  · exact ((((a.trans (State.Local.setRole _ _ out)).trans (State.Local.setEng _ _ _)).trans (State.Local.placeCue _ _)).trans
      (State.Local.setEng _ _ _)).trans (State.Local.withdrawClaim _ _)
  · exact (((a.trans (State.Local.setEng _ _ _)).trans (State.Local.placeCue _ _)).trans (State.Local.setEng _ _ _)).trans
      (State.Local.withdrawClaim _ _)

theorem State.Local.runShown (s : State) (h : Head) : State.Local h.house s (s.runShown h) :=
  (((((State.Local.showPicture s rfl).trans (State.Local.setRole _ _ rfl)).trans (State.Local.setEng _ _ _)).trans
    (State.Local.withdrawClaim _ _)).trans (State.Local.placeCue _ _)).trans (State.Local.setEng _ _ _)

namespace State.Meets

variable {J : Judge}

/-- The picture of one house judged anew, the other conditions through the steps that lead there. -/
theorem restoreShows (m : t.Meets { c with shows := False }) (l : State.Local k s t) (before : s.Meets c)
    (shows : c.shows → t.ShowKept k) : t.Meets c :=
  m.withShows fun claimed k' => by
    obtain rfl | rfl := House.eq_or_other k k'
    · exact shows claimed
    · exact l.showKept (before.shows claimed _)

/-- A role given while nothing is claimed of the pictures. -/
theorem assignFree (m : s.Meets { c with shows := False }) (h : Head) (r : Role) (i : Option Nat) :
    (s.assign h r i).Meets { c with shows := False } := by
  have side := State.ShowSide.assign s h r i
  exact m.of_showSide side (.assign s r i rfl) (fun kept => kept.of_eq (by simp) (by simp) (by simp))
    (fun _ some => .inl (by simpa using some))
    (fun _ kept => side.steady.fireKept kept (by simp) (by simpa using kept.lights) (by simpa using kept.sound) (by simpa using kept.engine))
    False.elim

/-- The engine of a house out of FIRE changed while nothing is claimed of the pictures. -/
theorem setEngFree (m : s.Meets { c with shows := False }) {e : Engine} (free : c.fires → s.inFire k = false)
    (runups : ∀ r, e.runup = some r → (s.eng k).runup = some r ∨ r.head.house = k) : (s.setEng k e).Meets { c with shows := False } :=
  m.setEng runups (fun claimed inFire => by rw [free claimed] at inFire; cases inFire) False.elim

theorem advance (m : s.Meets c) (k : House) : (s.setEng k { s.eng k with cur := (s.eng k).cur + 1 }).Meets c := m.setMarks rfl rfl id

theorem cleared (m : s.Meets c) (k : House) : (s.setEng k (s.eng k).cleared).Meets c :=
  m.setEng nofun (fun _ _ halted _ => ⟨halted, rfl⟩) fun _ kept => kept.setEng kept.states nofun nofun

theorem swapShown (m : s.Meets c) (inc : Head) (free : c.fires → s.inFire inc.house = false)
    (running : c.shows → (s.eng inc.house).state = .running) : (s.swapShown inc).Meets c := by
  refine restoreShows ?_ (State.Local.swapShown s inc) m fun claimed => s.swapShown_showKept inc (running claimed)
  have shown := (((m.withoutShows).closeDouser inc.partner).showPicture inc free False.elim).assignFree inc .showing
    ((((s.writeDrive (.douser inc.partner) (.douser false)).showPicture inc).slot inc).held)
  unfold State.swapShown
  dsimp only
  split
  · exact ((((shown.assignFree inc.partner .tailing _).advance _).placeCue _).cleared _).withdrawClaim _
  · exact (((shown.advance _).placeCue _).cleared _).withdrawClaim _

theorem runShown (m : s.Meets c) (h : Head) (free : c.fires → s.inFire h.house = false)
    (dark : c.shows → ∀ x, x.house = h.house → s.role x ≠ .showing) : (s.runShown h).Meets c := by
  refine restoreShows ?_ (State.Local.runShown s h) m fun claimed => s.runShown_showKept (m.shows claimed _) (dark claimed)
  let s1 := (s.showPicture h).setRole h .showing
  have shown : s1.Meets { c with shows := False } := ((m.withoutShows).showPicture h free False.elim).assignFree h .showing _
  have fresh := shown.setEngFree (k := h.house) (e := { (s1.eng h.house).cleared with cur := (s1.slot h).held.getD (s1.eng h.house).cur })
    (by simpa [s1, State.setRole, State.inFire, State.showPicture] using free) nofun
  exact ((fresh.withdrawClaim h.house).placeCue h.house).setEngFree
    (by simpa [s1, State.setRole, State.inFire, State.showPicture, State.placeCue_eq, State.withdrawClaim_eq] using free) fun _ some => .inl some

/-! ### The end of a judgement, to any depth -/

variable {J : Judge}

theorem swap (keeper : Keeper J) (m : s.Meets c) (inc : Head) (free : c.fires → s.inFire inc.house = false)
    (running : c.shows → (s.eng inc.house).state = .running) : (Machine.swap J inc s).Meets c :=
  (keeper c inc _ (m.swapShown inc free running)).tailJudge _

/-- A swap in a house that runs. -/
theorem swapRunning (keeper : Keeper J) (m : s.Meets c) (inc : Head) (running : (s.eng inc.house).state = .running) :
    (Machine.swap J inc s).Meets c := m.swap keeper inc (m.free_of_running running) fun _ => running

theorem incomingReady (keeper : Keeper J) (m : s.Meets c) (h : Head) : (Machine.incomingReady J h s).Meets c := by
  have idle := m.runupIdle h.house
  unfold Machine.incomingReady
  dsimp only
  split
  · rename_i swaps
    simp only [Bool.and_eq_true, beq_iff_eq] at swaps
    exact idle.swapRunning keeper h swaps.2
  · exact idle

/-- The run-up set for a head of a house out of FIRE; one for START belongs to ARMED and INTERVAL (R109). -/
theorem setRunup (m : s.Meets c) (h : Head) (p : Purpose) (deadline : Nat) (free : c.fires → s.inFire h.house = false)
    (start : p = .start → (s.eng h.house).state = .armed ∨ (s.eng h.house).state = .interval) :
    (s.setEng h.house { s.eng h.house with runup := some { head := h, purpose := p, deadline := deadline } }).Meets c :=
  m.setEng (fun r some => .inr (by cases some; rfl)) (fun claimed inFire => by rw [free claimed] at inFire; cases inFire) fun _ kept =>
    kept.setEng kept.states (fun r some purpose => by cases some; exact start purpose) kept.pending

/-- A head started (R109). -/
theorem startHeadBase (m : s.Meets c) (h : Head) (p : Purpose) (free : c.fires → s.inFire h.house = false)
    (role : s.role h ≠ .showing ∨ p = .resume)
    (start : p = .start → (s.eng h.house).state = .armed ∨ (s.eng h.house).state = .interval) : (s.startHeadBase h p).Meets c := by
  have struck := (m.strikeRequest h).writeMotor h true
  unfold State.startHeadBase
  dsimp only
  split
  · exact struck.setRunup h p _ (by simpa [State.inFire] using free) (by simpa using start)
  · rename_i keeps
    have dark : s.role h ≠ .showing := role.elim id fun resume shows => keeps ⟨resume, by simpa using shows⟩
    exact (struck.setRole h (r := .starting) nofun fun _ => .inl (by simpa using dark)).setRunup h p _ (by simpa [State.inFire, State.setRole] using free)
      (by simpa [State.setRole] using start)

theorem startIncoming (keeper : Keeper J) (m : s.Meets c) (h : Head) (free : c.fires → s.inFire h.house = false)
    (role : s.role h ≠ .showing) : (Machine.startIncoming J h s).Meets c := by
  have base := m.startHeadBase h .incoming free (.inl role) nofun
  unfold Machine.startIncoming
  dsimp only
  split
  · exact base.incomingReady keeper h
  · exact base

/-- The SHOWING head's picture comes back (R130): before the steps of R119. -/
theorem resumeShown (m : s.Meets c) (h : Head) (runs : (s.eng h.house).runup ≠ none) (role : s.role h = .showing) :
    (let s1 := ((s.runupIdle h.house).showPicture h).withdrawClaim h.house
     s1.setEng h.house { s1.eng h.house with state := .running }).Meets c := by
  have free := m.free_of_runup runs
  have shown := ((m.runupIdle h.house).showPicture h free fun _ => role).withdrawClaim h.house
  have none : ((((s.runupIdle h.house).showPicture h).withdrawClaim h.house).eng h.house).runup = none := by
    simp [State.withdrawClaim_eq, State.showPicture, State.runupIdle]
  refine shown.setEng (fun r some => .inl some) (fun claimed inFire => ?_) fun _ kept =>
    kept.setEng (fun _ _ _ => .inl rfl) (fun r some => by rw [none] at some; cases some) kept.pending
  rw [State.inFire, State.withdrawClaim_eq, State.setRequests_fireOf] at inFire
  exact absurd (free claimed) (ne_false_of_eq_true inFire)

theorem resumeReady (keeper : Keeper J) (m : s.Meets c) (h : Head) (runs : (s.eng h.house).runup ≠ none) (role : s.role h = .showing) :
    (Machine.resumeReady J h s).Meets c := by
  let s1 := ((s.runupIdle h.house).showPicture h).withdrawClaim h.house
  let s2 := J h (s1.setEng h.house { s1.eng h.house with state := .running })
  have free := m.free_of_runup runs
  let c' : Claims := { c with free := fun k => c.free k ∨ (k = h.house ∧ c.fires) }
  have m' : s.Meets c' := { m with free := fun k claimed => claimed.elim (m.free k) fun x => x.1 ▸ free x.2 }
  have judged : s2.Meets c' := keeper c' h _ (m'.resumeShown h runs role)
  have judgedFree : c.fires → s2.inFire h.house = false := fun claimed => judged.free _ (.inr ⟨rfl, claimed⟩)
  have weaker : s2.Meets c := { judged with free := fun k claimed => judged.free k (.inl claimed) }
  unfold Machine.resumeReady
  dsimp only
  split
  · rename_i starts
    simp only [Bool.and_eq_true, beq_iff_eq] at starts
    refine weaker.startIncoming keeper _ ?_ ?_
    · rw [State.Local.incoming_house]; exact judgedFree
    · rw [starts.2]; nofun
  · exact weaker

theorem resumeSwap (keeper : Keeper J) (m : s.Meets c) (h : Head) (runs : (s.eng h.house).runup ≠ none) :
    (Machine.resumeSwap J h s).Meets c := by
  have free := m.free_of_runup runs
  have running : (s.setEng h.house { s.eng h.house with runup := none, state := .running }).Meets c :=
    m.setEng nofun (fun claimed inFire => by rw [free claimed] at inFire; cases inFire) fun _ kept =>
      kept.setEng (fun _ _ _ => .inl rfl) nofun kept.pending
  exact running.swapRunning keeper h (by simp)

theorem readyAgain (m : s.Meets c) (h : Head) (running : (s.eng h.house).state = .running) (role : s.role h = .showing) :
    (s.readyAgain h).Meets c :=
  (m.showPicture h (m.free_of_running running) fun _ => role).withdrawClaim _

theorem enterRunning (keeper : Keeper J) (m : s.Meets c) (h : Head) (free : c.fires → s.inFire h.house = false)
    (dark : c.shows → ∀ x, x.house = h.house → s.role x ≠ .showing) : (Machine.enterRunning J h s).Meets c :=
  keeper c h _ (m.runShown h free dark)

theorem headReady (keeper : Keeper J) (m : s.Meets c) (h : Head) : (Machine.headReady J h s).Meets c := by
  unfold Machine.headReady
  dsimp only
  split
  · rename_i r own
    obtain ⟨runs, -⟩ := Option.filter_eq_some_iff.mp own
    have some : (s.eng h.house).runup ≠ none := by rw [runs]; nofun
    split
    · rename_i start
      refine (m.runupIdle h.house).enterRunning keeper h (m.free_of_runup some) fun claimed x e shows => ?_
      have state := (m.shows claimed _).states x e shows
      have kind := (m.shows claimed _).runup r runs start
      rcases state with a | a <;> rcases kind with b | b <;> rw [a] at b <;> cases b
    · exact m.incomingReady keeper h
    · exact m.resumeReady keeper h some ‹_›
    · exact m.resumeSwap keeper h some
    · exact m
  · split
    · exact m.readyAgain h ‹_› ‹_›
    · split
      · exact m.swapRunning keeper h ‹_›
      · exact m
    · exact m

theorem startHead (keeper : Keeper J) (m : s.Meets c) (h : Head) (p : Purpose) (free : c.fires → s.inFire h.house = false)
    (role : s.role h ≠ .showing ∨ p = .resume)
    (start : p = .start → (s.eng h.house).state = .armed ∨ (s.eng h.house).state = .interval) : (Machine.startHead J h p s).Meets c := by
  have base := m.startHeadBase h p free role start
  unfold Machine.startHead
  dsimp only
  split
  · exact base.headReady keeper h
  · exact base

/-! ### The marks and the steps of R119 -/

theorem takeMotor (keeper : Keeper J) (m : s.Meets c) (k : House) (free : c.fires → s.inFire k = false) :
    (Machine.takeMotor J k s).Meets c := by
  have marked : (s.setEng k { s.eng k with motorTaken := true }).Meets c := m.setMarks rfl rfl id
  unfold Machine.takeMotor
  dsimp only
  split
  · rename_i role
    refine marked.startIncoming keeper _ ?_ (by rw [role]; nofun)
    rw [State.Local.incoming_house]
    exact free
  · exact marked.raise _ _ _ fun k => by cases k <;> decide
  · exact marked.raise _ _ _ fun k => by cases k <;> decide
  · exact marked

theorem takeChange (keeper : Keeper J) (m : s.Meets c) (k : House) (free : c.fires → s.inFire k = false)
    (running : c.shows → (s.eng k).state = .running) : (Machine.takeChange J k s).Meets c := by
  have marked : (s.setEng k { s.eng k with changeTaken := true }).Meets c := m.setMarks rfl rfl fun _ _ => rfl
  unfold Machine.takeChange
  dsimp only
  split
  · refine marked.swap keeper _ ?_ ?_
    · rw [State.Local.incoming_house]; exact free
    · rw [State.Local.incoming_house, State.setEng_eng_same]; exact running
  · have pending := marked.setMarks (k := k) (e := { (s.setEng k { s.eng k with changeTaken := true }).eng k with changePending := true })
      rfl rfl fun _ _ => by rw [State.setEng_eng_same]
    exact pending.raise _ _ _ fun k => by cases k <;> decide

theorem strikeStep (m : s.Meets c) (h : Head) : (Machine.strikeStep h s).Meets c := by
  have marked : (s.setEng h.house { s.eng h.house with strikeDone := true }).Meets c := m.setMarks rfl rfl id
  unfold Machine.strikeStep
  dsimp only
  split
  · split
    · exact marked.strikeRequest _
    · exact marked.raise _ _ _ fun k => by cases k <;> decide
    · exact marked.raise _ _ _ fun k => by cases k <;> decide
    · exact marked
  · exact m

theorem motorStep (keeper : Keeper J) (m : s.Meets c) (judged : s.judged h = true) : (Machine.motorStep J h s).Meets c := by
  have missed := m.raise .cueMissed (.head h) (some .motor) fun k => by cases k <;> decide
  unfold Machine.motorStep
  dsimp only
  split
  · exact missed.takeMotor keeper _ (missed.free_of_running (by simpa using (State.judged_iff.mp judged).1))
  · exact m

theorem changeStep (keeper : Keeper J) (m : s.Meets c) (judged : s.judged h = true) : (Machine.changeStep J h s).Meets c := by
  have missed := m.raise .cueMissed (.head h) (some .change) fun k => by cases k <;> decide
  have running : ((s.raise .cueMissed (.head h) (some .change)).eng h.house).state = .running := by
    simpa using (State.judged_iff.mp judged).1
  unfold Machine.changeStep
  dsimp only
  split
  · exact missed.takeChange keeper _ (missed.free_of_running running) fun _ => running
  · exact m

theorem judgeStep {f : State → State} (m : s.Meets c) (step : ∀ s : State, s.Meets c → s.judged h = true → (f s).Meets c) :
    (Machine.judgeStep h f s).Meets c := by
  unfold Machine.judgeStep
  split
  · exact step s m ‹_›
  · exact m

end State.Meets

theorem judgeWith_keeper {J : Judge} (keeper : Keeper J) : Keeper (judgeWith J) := fun _ h _ m =>
  (((m.judgeStep fun _ m _ => m.strikeStep h).judgeStep fun _ m judged => m.motorStep keeper judged).judgeStep fun _ m judged =>
    m.changeStep keeper judged).judgeStep fun _ m judged => m.lastStep judged

theorem judge_keeper : ∀ n, Keeper (judge n)
  | 0 => fun _ _ _ m => m
  | n + 1 => judgeWith_keeper (judge_keeper n)

theorem judgeFrames_keeper : Keeper judgeFrames := judge_keeper 4

end Sys2Proof.Machine
end

section
/-! SUPPORT. The effects of a halt (R128, R129) and of a house's entry to FIRE (R163), and the conditions they keep. -/

namespace Sys2Proof

theorem House.eq_head {k : House} {h : Head} (e : h.house = k) : h = k.head .a ∨ h = k.head .b := by
  subst e
  cases h <;> decide

theorem House.head_b_ne (k : House) : k.head .b ≠ k.head .a := by cases k <;> decide

end Sys2Proof

namespace Sys2Proof.Machine

variable {c : Claims} {s t : State} {k : House} {h : Head}

/-! ### Shutdowns, head by head -/

theorem State.overrideShutdown_lamp (s : State) (h x : Head) :
    (s.overrideShutdown h).lamp x = if x = h then (s.lamp h).darkAt s.ms else s.lamp x := by
  simp [State.overrideShutdown_eq, State.setLamp_lamp]

theorem State.overrideShutdown_mon (s : State) (h x : Head) :
    (s.overrideShutdown h).mon x = if x = h then { s.mon h with idleTimer := none } else s.mon x := by
  simp [State.overrideShutdown_eq, State.setMon_mon]

theorem State.overrideShutdown_value (s : State) (h : Head) (d : DriveId) :
    ((s.overrideShutdown h).entry d).value =
      if d = .douser h then .douser false
      else if d = .feed h then .feed 0
      else if d = .lamp h then .lamp false
      else (s.entry d).value := by
  simp [State.overrideShutdown_eq, State.writeDrive_value]

theorem State.normalShutdown_lamp (s : State) (h x : Head) :
    (s.normalShutdown h).lamp x = if x = h ∧ (s.lamp h).state ≠ .dark then (s.lamp h).darkAt s.ms else s.lamp x := by
  by_cases dark : (s.lamp h).state = .dark
  · simp [State.normalShutdown_dark dark, dark]
  · have a := State.normalShutdown_lampTo dark
    by_cases same : x = h
    · subst same; simp [a.lamp, dark]
    · simp [a.lamp_ne same, same]

theorem State.normalShutdown_mon (s : State) (h x : Head) :
    (s.normalShutdown h).mon x = if x = h ∧ (s.lamp h).state ≠ .dark then { s.mon h with idleTimer := none } else s.mon x := by
  by_cases dark : (s.lamp h).state = .dark
  · simp [State.normalShutdown_dark dark, dark]
  · have same : (s.shutEntries h).mon x = s.mon x := by
      unfold State.shutEntries
      dsimp only
      split <;> rfl
    rw [State.normalShutdown_lit dark, State.setMon_mon, State.setLamp_mon, same]
    simp [dark]

/-- A normal shutdown writes the three entries of its head alone, the douser and the lamp closed and off unless the lamp is DARK already. -/
theorem State.normalShutdown_value_ne (s : State) {h : Head} {d : DriveId} (douser : d ≠ .douser h) (lamp : d ≠ .lamp h)
    (feed : d ≠ .feed h) : ((s.normalShutdown h).entry d).value = (s.entry d).value := by
  by_cases dark : (s.lamp h).state = .dark
  · rw [State.normalShutdown_dark dark]
  · rw [State.normalShutdown_lit dark, State.setMon_entry, State.setLamp_entry, State.shutEntries]
    split <;> simp [State.writeDrive_value, douser, lamp, feed]

theorem State.normalShutdown_douser (s : State) (h x : Head) :
    ((s.normalShutdown h).entry (.douser x)).value =
      if x = h ∧ (s.lamp h).state ≠ .dark then .douser false else (s.entry (.douser x)).value := by
  by_cases dark : (s.lamp h).state = .dark
  · simp [State.normalShutdown_dark dark, dark]
  · rw [State.normalShutdown_lit dark, State.setMon_entry, State.setLamp_entry, State.shutEntries]
    split <;> by_cases same : x = h <;> simp [State.writeDrive_value, same, dark]

/-! ### A halt, part by part -/

/-- A head's STARTING role given up (R129). -/
def State.unstart (s : State) (h : Head) : State := if s.role h = .starting then s.setRole h .threaded else s

/-- A head's picture and motor stopped. -/
def State.stopHead (s : State) (h : Head) : State := (s.writeDrive (.douser h) (.douser false)).writeDrive (.motor h) (.motor false)

/-- The pictures, the motors and the sound of a house stopped. -/
def State.stopHouse (s : State) (k : House) : State :=
  ((s.stopHead (k.head .a)).stopHead (k.head .b)).writeDrive (.sound k) (.sound none)

/-- The lamps of a house shut down, by override or normally. -/
def State.shutHouse (s : State) (k : House) (fromFire : Bool) : State :=
  if fromFire then (s.overrideShutdown (k.head .a)).overrideShutdown (k.head .b)
  else (s.normalShutdown (k.head .a)).normalShutdown (k.head .b)

/-- The run-up of a house ended, its heads no longer STARTING. -/
def State.unstartHouse (s : State) (k : House) : State := ((s.runupIdle k).unstart (k.head .a)).unstart (k.head .b)

theorem State.halt_eq (s : State) (k : House) (fromFire : Bool) :
    s.halt k fromFire =
      (let s2 := ((s.stopHouse k).shutHouse k fromFire).unstartHouse k
       let s4 := if fromFire then s2 else s2.setClaim k
       s4.setEng k { s4.eng k with state := .halted }) := rfl

theorem State.unstart_slot (s : State) (h x : Head) :
    (s.unstart h).slot x = if x = h then { s.slot h with role := (s.role h).halted } else s.slot x := by
  unfold State.unstart State.role
  split
  · rename_i starting
    rw [State.setRole_slot, starting]
    rfl
  · rename_i other
    split
    · rename_i same
      have stays : ((s.slot h).role).halted = (s.slot h).role := by
        cases role : (s.slot h).role with
        | starting => exact absurd role other
        | _ => rfl
      rw [stays, same]
    · rfl

theorem State.unstart_frame (s : State) (h : Head) : { s.unstart h with monitors := s.monitors, slots := s.slots } = s := by
  unfold State.unstart
  split
  · exact s.assign_frame h _ _
  · rfl

theorem State.unstart_monitors (s : State) (h x : Head) : { (s.unstart h).mon x with idleTimer := (s.mon x).idleTimer } = s.mon x := by
  unfold State.unstart
  split
  · exact (State.ShowSide.assign s h _ _).monitors x
  · rfl

section
variable (s : State) (k : House) (fromFire : Bool)

theorem State.shutHouse_frame :
    { s.shutHouse k fromFire with monitors := s.monitors, lamps := s.lamps, drive := s.drive } = s := by
  cases fromFire
  · exact (congrArg (fun t : State => { t with monitors := s.monitors, lamps := s.lamps, drive := s.drive })
      ((s.normalShutdown (k.head .a)).normalShutdown_frame (k.head .b)) :).trans (s.normalShutdown_frame (k.head .a))
  · exact (congrArg (fun t : State => { t with monitors := s.monitors, lamps := s.lamps, drive := s.drive })
      ((s.overrideShutdown (k.head .a)).overrideShutdown_frame (k.head .b)) :).trans (s.overrideShutdown_frame (k.head .a))

theorem State.shutHouse_slot (x : Head) : (s.shutHouse k fromFire).slot x = s.slot x :=
  (congrArg (fun t => t.slot x) (s.shutHouse_frame k fromFire) :)
theorem State.shutHouse_role (x : Head) : (s.shutHouse k fromFire).role x = s.role x :=
  (congrArg (fun t => t.role x) (s.shutHouse_frame k fromFire) :)
theorem State.shutHouse_eng (k' : House) : (s.shutHouse k fromFire).eng k' = s.eng k' :=
  (congrArg (fun t => t.eng k') (s.shutHouse_frame k fromFire) :)
theorem State.shutHouse_light (k' : House) : (s.shutHouse k fromFire).light k' = s.light k' :=
  (congrArg (fun t => t.light k') (s.shutHouse_frame k fromFire) :)

theorem State.shutHouse_lamp {x : Head} (e : x.house = k) :
    (s.shutHouse k fromFire).lamp x =
      if fromFire = false ∧ (s.lamp x).state = .dark then s.lamp x else (s.lamp x).darkAt s.ms := by
  have ne := k.head_b_ne
  unfold State.shutHouse
  obtain rfl | rfl := House.eq_head e <;> cases fromFire <;>
    simp [State.normalShutdown_lamp, State.overrideShutdown_lamp, ne, ne.symm, ite_not]

/-- A shutdown by override leaves no idle timer running; of the rest of the monitors no shutdown moves anything. -/
theorem State.shutHouse_mon {x : Head} (e : x.house = k) :
    { (s.shutHouse k fromFire).mon x with idleTimer := (s.mon x).idleTimer } = s.mon x ∧
      (fromFire = true → ((s.shutHouse k fromFire).mon x).idleTimer = none) := by
  have ne := k.head_b_ne
  unfold State.shutHouse
  obtain rfl | rfl := House.eq_head e <;> cases fromFire <;>
    simp only [Bool.false_eq_true, if_false, if_true, State.normalShutdown_mon, State.overrideShutdown_mon, ne, ne.symm, false_and,
      false_implies, and_true] <;> (try split) <;> simp

theorem State.shutHouse_value {d : DriveId} (douser : ∀ x, d ≠ .douser x) (lamp : ∀ x, d ≠ .lamp x) (feed : ∀ x, d ≠ .feed x) :
    ((s.shutHouse k fromFire).entry d).value = (s.entry d).value := by
  unfold State.shutHouse
  cases fromFire
  · rw [if_neg Bool.false_ne_true, State.normalShutdown_value_ne _ (douser _) (lamp _) (feed _),
      State.normalShutdown_value_ne _ (douser _) (lamp _) (feed _)]
  · simp [State.overrideShutdown_value, douser, lamp, feed]

theorem State.shutHouse_douser {x : Head} (closed : (s.entry (.douser x)).value = .douser false) :
    ((s.shutHouse k fromFire).entry (.douser x)).value = .douser false := by
  unfold State.shutHouse
  cases fromFire <;> simp [State.normalShutdown_douser, State.overrideShutdown_value, closed]

theorem State.shutHouse_safe {x : Head} (e : x.house = k) : (s.shutHouse k true).LampEntriesSafe x := by
  unfold State.shutHouse State.LampEntriesSafe
  obtain rfl | rfl := House.eq_head e <;> simp [State.overrideShutdown_value]

/-! ### The roles and the run-up of a halt -/

theorem State.unstartHouse_frame :
    { s.unstartHouse k with monitors := s.monitors, slots := s.slots, engines := s.engines } = s :=
  ((congrArg (fun t : State => { t with monitors := s.monitors, slots := s.slots, engines := s.engines })
    (((s.runupIdle k).unstart (k.head .a)).unstart_frame (k.head .b)) :).trans
    (congrArg (fun t : State => { t with engines := s.engines }) ((s.runupIdle k).unstart_frame (k.head .a)) :))

theorem State.unstartHouse_slot {x : Head} (e : x.house = k) :
    (s.unstartHouse k).slot x = { s.slot x with role := (s.role x).halted } := by
  have ne := k.head_b_ne
  unfold State.unstartHouse State.role
  obtain rfl | rfl := House.eq_head e <;> simp [State.unstart_slot, State.role, State.runupIdle, ne, ne.symm]

theorem State.unstart_lamp (h x : Head) : (s.unstart h).lamp x = s.lamp x := (congrArg (fun t => t.lamp x) (s.unstart_frame h) :)

theorem State.unstart_eng (h : Head) : (s.unstart h).eng k = s.eng k := (congrArg (fun t => t.eng k) (s.unstart_frame h) :)

theorem State.unstartHouse_eng : (s.unstartHouse k).eng k = { s.eng k with runup := none } := by
  unfold State.unstartHouse
  rw [State.unstart_eng, State.unstart_eng, State.runupIdle, State.setEng_eng_same]

theorem State.unstartHouse_lamp (x : Head) : (s.unstartHouse k).lamp x = s.lamp x :=
  (congrArg (fun t => t.lamp x) (s.unstartHouse_frame k) :)
theorem State.unstartHouse_light (k' : House) : (s.unstartHouse k).light k' = s.light k' :=
  (congrArg (fun t => t.light k') (s.unstartHouse_frame k) :)
theorem State.unstartHouse_entry (d : DriveId) : (s.unstartHouse k).entry d = s.entry d :=
  (congrArg (fun t => t.entry d) (s.unstartHouse_frame k) :)

theorem State.unstartHouse_mon (x : Head) : { (s.unstartHouse k).mon x with idleTimer := (s.mon x).idleTimer } = s.mon x := by
  have a := (s.runupIdle k).unstart_monitors (k.head .a) x
  have b := ((s.runupIdle k).unstart (k.head .a)).unstart_monitors (k.head .b) x
  have same : (s.runupIdle k).mon x = s.mon x := rfl
  rw [same] at a
  unfold State.unstartHouse
  rw [← a, ← b]

/-- A head with its lamp out has no idle timer running through a change of its role. -/
theorem State.unstart_idle {h x : Head} (out : (s.lamp x).state ≠ .burning) (idle : (s.mon x).idleTimer = none) :
    ((s.unstart h).mon x).idleTimer = none := by
  unfold State.unstart
  split
  · rw [State.setRole, State.assign]
    by_cases same : x = h
    · subst same
      rw [State.rejudgeIdle_not_burning (by exact out)]
      simp
    · have other : ((s.setSlot h { role := .threaded, held := (s.slot h).held }).rejudgeIdle h).mon x = s.mon x := by
        unfold State.rejudgeIdle
        dsimp only
        repeat' split
        · rfl
        · exact State.setMon_mon_ne _ _ same
        · exact State.setMon_mon_ne _ _ same
      rw [other]
      exact idle
  · exact idle

end

/-! ### A halt (R129) -/

section
variable (s : State) (k : House) (fromFire : Bool)

/-- A halt but for the fault claim and the house state. -/
def State.haltBase : State := ((s.stopHouse k).shutHouse k fromFire).unstartHouse k

theorem State.halt_fromFire : s.halt k true = (s.haltBase k true).setEng k { (s.haltBase k true).eng k with state := .halted } := rfl

theorem State.halt_normal :
    s.halt k false =
      ((s.haltBase k false).setClaim k).setEng k { ((s.haltBase k false).setClaim k).eng k with state := .halted } := rfl

theorem State.haltBase_slot {x : Head} (e : x.house = k) :
    (s.haltBase k fromFire).slot x = { s.slot x with role := (s.role x).halted } := by
  rw [State.haltBase, State.unstartHouse_slot _ _ e, State.shutHouse_slot, State.shutHouse_role]
  rfl

theorem State.haltBase_eng : (s.haltBase k fromFire).eng k = { s.eng k with runup := none } := by
  rw [State.haltBase, State.unstartHouse_eng, State.shutHouse_eng]
  rfl

theorem State.haltBase_light : (s.haltBase k fromFire).light k = s.light k := by
  rw [State.haltBase, State.unstartHouse_light, State.shutHouse_light]
  rfl

theorem State.haltBase_fire : (s.haltBase k fromFire).fire = s.fire :=
  (congrArg State.fire (((s.stopHouse k).shutHouse k fromFire).unstartHouse_frame k) :).trans
    (congrArg State.fire ((s.stopHouse k).shutHouse_frame k fromFire) :)

theorem State.haltBase_notices : (s.haltBase k fromFire).notices = s.notices :=
  (congrArg State.notices (((s.stopHouse k).shutHouse k fromFire).unstartHouse_frame k) :).trans
    (congrArg State.notices ((s.stopHouse k).shutHouse_frame k fromFire) :)

theorem State.haltBase_lamp {x : Head} (e : x.house = k) :
    (s.haltBase k fromFire).lamp x =
      if fromFire = false ∧ (s.lamp x).state = .dark then s.lamp x else (s.lamp x).darkAt s.ms := by
  rw [State.haltBase, State.unstartHouse_lamp, State.shutHouse_lamp _ _ _ e]
  rfl

theorem State.haltBase_mon {x : Head} (e : x.house = k) :
    { (s.haltBase k fromFire).mon x with idleTimer := (s.mon x).idleTimer } = s.mon x := by
  have shut := ((s.stopHouse k).shutHouse_mon k fromFire e).1
  have unstarted := ((s.stopHouse k).shutHouse k fromFire).unstartHouse_mon k x
  have same : (s.stopHouse k).mon x = s.mon x := rfl
  rw [same] at shut
  rw [State.haltBase, ← shut, ← unstarted]

theorem State.haltBase_idle {x : Head} (e : x.house = k) : ((s.haltBase k true).mon x).idleTimer = none := by
  have out : (((s.stopHouse k).shutHouse k true).lamp x).state ≠ .burning := by rw [State.shutHouse_lamp _ _ _ e]; simp
  have idle := ((s.stopHouse k).shutHouse_mon k true e).2 rfl
  exact State.unstart_idle _ (by rw [State.unstart_lamp]; exact out)
    (State.unstart_idle _ out idle)

theorem State.haltBase_motor {x : Head} (e : x.house = k) : ((s.haltBase k fromFire).entry (.motor x)).value = .motor false := by
  rw [State.haltBase, State.unstartHouse_entry, State.shutHouse_value (d := .motor x) _ _ _ nofun nofun nofun]
  obtain rfl | rfl := House.eq_head e <;> simp [State.stopHouse, State.stopHead, State.writeDrive_value]

theorem State.haltBase_douser {x : Head} (e : x.house = k) : ((s.haltBase k fromFire).entry (.douser x)).value = .douser false := by
  rw [State.haltBase, State.unstartHouse_entry]
  apply State.shutHouse_douser
  obtain rfl | rfl := House.eq_head e <;> simp [State.stopHouse, State.stopHead, State.writeDrive_value]

theorem State.haltBase_sound : ((s.haltBase k fromFire).entry (.sound k)).value = .sound none := by
  rw [State.haltBase, State.unstartHouse_entry, State.shutHouse_value (d := .sound k) _ _ _ nofun nofun nofun]
  simp [State.stopHouse]

theorem State.haltBase_safe {x : Head} (e : x.house = k) : (s.haltBase k true).LampEntriesSafe x := by
  unfold State.LampEntriesSafe State.haltBase
  simp only [State.unstartHouse_entry]
  exact State.shutHouse_safe _ _ e

/-- The effects of a halt that does not come from fire (R128, R129). -/
theorem State.halt_houseHalted (calm : s.orders.restart ≠ .waiting) : s.HouseHalted (s.halt k false) k := by
  have l := State.Local.halt k s false
  rw [State.halt_normal] at l ⊢
  refine ⟨fun x e => ⟨?_, ?_, ?_, ?_⟩, fun x e => ?_, ?_, ?_, ?_, l.house, l.sameTables calm⟩
  · rw [State.setEng_entry, State.setClaim_entry_ne (d := .motor x) _ _ nofun]; exact s.haltBase_motor k false e
  · rw [State.setEng_entry, State.setClaim_entry_ne (d := .douser x) _ _ nofun]; exact s.haltBase_douser k false e
  · rw [State.setEng_slot, State.slot, State.setClaim_slots]; exact s.haltBase_slot k false e
  · rw [State.setEng_mon, State.mon, State.setClaim_monitors]; exact s.haltBase_mon k false e
  · rw [State.setEng_lamp, State.lamp, State.setClaim_lamps]
    exact (s.haltBase_lamp k false e).trans (by simp)
  · rw [State.setEng_entry, State.setClaim_entry_ne (d := .sound k) _ _ nofun]; exact s.haltBase_sound k false
  · rw [State.setEng_eng_same, State.setClaim_eng, s.haltBase_eng]
  · rw [State.setEng_light, State.setClaim_requests, s.haltBase_light]

end

/-! ### What a halt keeps -/

namespace State.Meets

theorem unstart (m : s.Meets c) (h : Head) : (s.unstart h).Meets c := by
  unfold State.unstart
  split
  · rename_i starting
    exact m.setRole h nofun fun _ => .inl (by rw [starting]; nofun)
  · exact m

theorem stopHouse (m : s.Meets c) (k : House) : (s.stopHouse k).Meets c :=
  ((((m.closeDouser _).writeMotor _ _).closeDouser _).writeMotor _ _).silence k

theorem shutHouse (m : s.Meets c) (k : House) (fromFire : Bool) : (s.shutHouse k fromFire).Meets c := by
  cases fromFire
  · exact (m.normalShutdown _).normalShutdown _
  · exact (m.overrideShutdown _).overrideShutdown _

theorem haltBase (m : s.Meets c) (k : House) (fromFire : Bool) : (s.haltBase k fromFire).Meets c :=
  ((((m.stopHouse k).shutHouse k fromFire).runupIdle k).unstart _).unstart _

theorem setHalted (m : s.Meets c) (none : (s.eng k).runup = none) : (s.setEng k { s.eng k with state := .halted }).Meets c :=
  m.setEng (fun _ some => .inl some) (fun _ _ _ none => ⟨rfl, none⟩) fun _ kept =>
    kept.setEng (fun _ _ _ => .inr rfl) (fun r some => by rw [none] at some; cases some) kept.pending

theorem halt (m : s.Meets c) (k : House) (fromFire : Bool) : (s.halt k fromFire).Meets c := by
  have base := m.haltBase k fromFire
  cases fromFire
  · exact (base.setClaim k).setHalted (by rw [State.setClaim_eng, s.haltBase_eng])
  · exact base.setHalted (by rw [s.haltBase_eng])

end State.Meets

/-! ### A house's entry to FIRE (R163) -/

/-- The entry to FIRE up to the lights: the unit's own part, the shutters, the lamps, the pictures and the engine. -/
def State.fireBase (s : State) (k : House) : State :=
  let s1 := s.setFire k { s.fireOf k with state := .fire, latch := true, port := false, gate := false }
  let s3 := ((s1.rejudgeHold (k.head .a)).rejudgeHold (k.head .b)).shutHouse k true
  let stop := fun (t : State) h => (t.writeDrive (.motor h) (.motor false)).writeDrive (.douser h) (.douser false)
  ((stop (stop s3 (k.head .a)) (k.head .b)).writeDrive (.sound k) (.sound none)).halt k true

theorem State.enterFire_eq (s : State) (k : House) (code : Code) :
    s.enterFire k code =
      ((s.fireBase k).placeLight k .fire { position := 255, fade := 0 }).raise (fireEvent k) (.house k) (some code) := rfl

theorem Lamp.darkAt_darkAt (l : Lamp) (ms ms' : Nat) : (l.darkAt ms).darkAt ms' = l.darkAt ms := by
  simp [Lamp.darkAt]

section
variable (s : State) (k : House)

/-- The unit's own part of an entry to FIRE, the shutters of both heads dropped. -/
def State.fireShut (s : State) (k : House) : State :=
  ((s.setFire k { s.fireOf k with state := .fire, latch := true, port := false, gate := false }).rejudgeHold (k.head .a)).rejudgeHold
    (k.head .b)

theorem State.fireShut_mon {x : Head} (e : x.house = k) : (s.fireShut k).mon x = { s.mon x with hold := false } := by
  have ne := k.head_b_ne
  unfold State.fireShut
  obtain rfl | rfl := House.eq_head e <;>
    simp [State.rejudgeHold_mon, State.holdCondition, ne, ne.symm]

/-- The pictures stopped after the lamps of an entry to FIRE. -/
def State.fireStop (s : State) (k : House) : State :=
  let stop := fun (t : State) h => (t.writeDrive (.motor h) (.motor false)).writeDrive (.douser h) (.douser false)
  (stop (stop s (k.head .a)) (k.head .b)).writeDrive (.sound k) (.sound none)

theorem State.fireStop_mon (x : Head) : (s.fireStop k).mon x = s.mon x := rfl
theorem State.fireStop_lamp (x : Head) : (s.fireStop k).lamp x = s.lamp x := rfl
theorem State.fireStop_slot (x : Head) : (s.fireStop k).slot x = s.slot x := rfl
theorem State.fireStop_role (x : Head) : (s.fireStop k).role x = s.role x := rfl
theorem State.fireStop_eng (k' : House) : (s.fireStop k).eng k' = s.eng k' := rfl
theorem State.fireStop_light (k' : House) : (s.fireStop k).light k' = s.light k' := rfl
theorem State.fireStop_fire : (s.fireStop k).fire = s.fire := rfl

theorem State.fireBase_eq : s.fireBase k = (((s.fireShut k).shutHouse k true).fireStop k).halt k true := rfl

theorem State.fireBase_fire :
    (s.fireBase k).fire =
      (s.setFire k { s.fireOf k with state := .fire, latch := true, port := false, gate := false }).fire := by
  rw [State.fireBase_eq, State.halt_fromFire]
  refine ((State.haltBase_fire _ k true).trans (State.fireStop_fire _ k)).trans
    ((congrArg State.fire ((s.fireShut k).shutHouse_frame k true) :).trans ?_)
  simp [State.fireShut]

theorem State.fireBase_slot {x : Head} (e : x.house = k) : (s.fireBase k).slot x = { s.slot x with role := (s.role x).halted } := by
  rw [State.fireBase_eq, State.halt_fromFire, State.setEng_slot, State.haltBase_slot _ _ _ e, State.fireStop_slot, State.fireStop_role,
    State.shutHouse_slot, State.shutHouse_role]
  simp [State.fireShut]

theorem State.fireBase_eng : (s.fireBase k).eng k = { s.eng k with state := .halted, runup := none } := by
  rw [State.fireBase_eq, State.halt_fromFire, State.setEng_eng_same, State.haltBase_eng, State.fireStop_eng, State.shutHouse_eng]
  simp [State.fireShut]

theorem State.fireBase_light : (s.fireBase k).light k = s.light k := by
  rw [State.fireBase_eq, State.halt_fromFire, State.setEng_light, State.haltBase_light, State.fireStop_light, State.shutHouse_light]
  simp [State.fireShut]

theorem State.fireBase_lamp {x : Head} (e : x.house = k) : (s.fireBase k).lamp x = (s.lamp x).darkAt s.ms := by
  have ms : (s.fireShut k).ms = s.ms := by simp [State.fireShut, State.ms]
  have lamp : (s.fireShut k).lamp x = s.lamp x := by simp [State.fireShut]
  rw [State.fireBase_eq, State.halt_fromFire, State.setEng_lamp, State.haltBase_lamp _ _ _ e, State.fireStop_lamp,
    State.shutHouse_lamp _ _ _ e, ms, lamp]
  simp [Lamp.darkAt_darkAt]

theorem State.fireBase_mon {x : Head} (e : x.house = k) :
    (s.fireBase k).mon x = { s.mon x with hold := false, idleTimer := none } := by
  have idle := (((s.fireShut k).shutHouse k true).fireStop k).haltBase_idle k e
  have halted := (((s.fireShut k).shutHouse k true).fireStop k).haltBase_mon k true e
  have shut := ((s.fireShut k).shutHouse_mon k true e).1
  rw [State.fireStop_mon] at halted
  rw [State.fireShut_mon s k e] at shut
  rw [State.fireBase_eq, State.halt_fromFire, State.setEng_mon]
  generalize ((((s.fireShut k).shutHouse k true).fireStop k).haltBase k true).mon x = n at idle halted ⊢
  have both : { n with idleTimer := (s.mon x).idleTimer } = { s.mon x with hold := false } := by rw [← shut, ← halted]
  rw [← idle]
  exact (congrArg (fun m : Monitor => { m with idleTimer := n.idleTimer }) both :)

theorem State.fireBase_safe {x : Head} (e : x.house = k) : (s.fireBase k).LampEntriesSafe x := by
  rw [State.fireBase_eq, State.halt_fromFire]
  exact State.haltBase_safe _ k e

theorem State.fireBase_motor {x : Head} (e : x.house = k) : ((s.fireBase k).entry (.motor x)).value = .motor false := by
  rw [State.fireBase_eq, State.halt_fromFire]
  exact State.haltBase_motor _ k true e

theorem State.fireBase_sound : ((s.fireBase k).entry (.sound k)).value = .sound none := by
  rw [State.fireBase_eq, State.halt_fromFire]
  exact State.haltBase_sound _ k true

/-- An entry to FIRE raises nothing before its own notice but SHUTTER, which a shutter that falls on a SHOWING head raises (R57, R163). -/
theorem State.fireBase_notices : (s.fireBase k).notices = (s.fireShut k).notices := by
  rw [State.fireBase_eq, State.halt_fromFire]
  exact (State.haltBase_notices _ k true).trans (congrArg State.notices ((s.fireShut k).shutHouse_frame k true) :)

/-- A hold line judged anew raises nothing but SHUTTER (R57). -/
theorem State.rejudgeHold_causes (h : Head) (e : Event) (other : e ≠ .shutter) :
    (s.rejudgeHold h).notices.isPending e = s.notices.isPending e ∧
      (s.rejudgeHold h).notices.causes.get e.num = s.notices.causes.get e.num := by
  rw [State.rejudgeHold_notices]
  split
  · exact ⟨by rw [NoticeUnit.raised_isPending, decide_eq_false other, Bool.or_false], NoticeUnit.raised_cause_ne _ _ _ _ other⟩
  · exact ⟨rfl, rfl⟩

/-- The shutter of a SHOWING head that falls is raised (R57). -/
theorem State.rejudgeHold_shutter (h : Head) :
    (s.rejudgeHold h).notices.isPending .shutter = true ↔
      s.notices.isPending .shutter = true ∨
        ((s.mon h).hold = true ∧ s.holdCondition h = false ∧ s.role h = .showing) := by
  rw [State.rejudgeHold_notices]
  split
  · simp [NoticeUnit.raised_isPending, *]
  · simp [*]

theorem State.fireShut_causes (e : Event) (other : e ≠ .shutter) :
    (s.fireShut k).notices.isPending e = s.notices.isPending e ∧
      (s.fireShut k).notices.causes.get e.num = s.notices.causes.get e.num := by
  obtain ⟨pending, cause⟩ := State.rejudgeHold_causes
    ((s.setFire k { s.fireOf k with state := .fire, latch := true, port := false, gate := false }).rejudgeHold (k.head .a))
    (k.head .b) e other
  obtain ⟨pending', cause'⟩ := State.rejudgeHold_causes
    (s.setFire k { s.fireOf k with state := .fire, latch := true, port := false, gate := false }) (k.head .a) e other
  exact ⟨pending.trans pending', cause.trans cause'⟩

theorem State.fireShut_shutter {x : Head} (e : x.house = k) (hold : (s.mon x).hold = true) (role : s.role x = .showing) :
    (s.fireShut k).notices.isPending .shutter = true := by
  have ne := k.head_b_ne
  unfold State.fireShut
  rw [State.rejudgeHold_shutter]
  obtain rfl | rfl := House.eq_head e
  · refine .inl ((State.rejudgeHold_shutter _ _).mpr (.inr ⟨hold, ?_, role⟩))
    simp [State.holdCondition]
  · refine .inr ⟨?_, ?_, ?_⟩
    · rw [State.rejudgeHold_mon, if_neg ne]; exact hold
    · simp [State.holdCondition]
    · rw [State.rejudgeHold_role]; exact role

end

/-! ### The lights and the notice of an entry to FIRE -/

/-- FIRE placed in a house that has none brings the lights up at once (R163). -/
theorem State.placeFire_light (s : State) (k : House) (none : (s.light k).requests.fire = none) :
    ((s.placeLight k .fire { position := 255, fade := 0 }).light k).position = 255 ∧
      ((s.placeLight k .fire { position := 255, fade := 0 }).light k).fade = Option.none := by
  have effective : ((s.light k).requests.place .fire { position := 255, fade := 0 }).effective = (.fire, { position := 255, fade := 0 }) :=
    Requests.effective_fire rfl
  have source : (s.light k).requests.effective.1 ≠ .fire := by
    unfold Requests.effective
    rw [none]
    dsimp only
    repeat' split
    all_goals nofun
  have changed : (s.light k).requests.changed ((s.light k).requests.place .fire { position := 255, fade := 0 }) = true :=
    Requests.changed_iff.mpr (.inl (by rw [effective]; exact source.symm))
  unfold State.placeLight
  by_cases there : ((s.light k).requests.place .fire { position := 255, fade := 0 }).effective.2.position = (s.light k).position
  · rw [State.setRequests_atTarget changed there, State.setLight_light_same]
    rw [effective] at there
    exact ⟨there.symm, rfl⟩
  · rw [State.setRequests_jumps changed there (by rw [effective]), State.lookupLight_light, State.setLight_light_same, effective]
    exact ⟨rfl, rfl⟩

section
variable (s : State) (k : House) (code : Code)

theorem State.enterFire_mon (x : Head) : (s.enterFire k code).mon x = (s.fireBase k).mon x := by
  rw [State.enterFire_eq, State.raise_mon, State.placeLight, State.setRequests_mon]
theorem State.enterFire_lamp (x : Head) : (s.enterFire k code).lamp x = (s.fireBase k).lamp x := by
  rw [State.enterFire_eq, State.raise_lamp, State.placeLight, State.setRequests_lamp]
theorem State.enterFire_slot (x : Head) : (s.enterFire k code).slot x = (s.fireBase k).slot x := by
  rw [State.enterFire_eq, State.raise_slot, State.placeLight, State.setRequests_slot]
theorem State.enterFire_eng (k' : House) : (s.enterFire k code).eng k' = (s.fireBase k).eng k' := by
  rw [State.enterFire_eq, State.raise_eng, State.placeLight, State.setRequests_eng]
theorem State.enterFire_fire : (s.enterFire k code).fire = (s.fireBase k).fire := by
  rw [State.enterFire_eq, State.raise_fire, State.placeLight, State.setRequests_fire]
theorem State.enterFire_entry {d : DriveId} (dim : d ≠ .dim k) : (s.enterFire k code).entry d = (s.fireBase k).entry d := by
  rw [State.enterFire_eq, State.raise_entry, State.placeLight, State.setRequests_entry_ne _ _ _ dim]
theorem State.enterFire_notices :
    (s.enterFire k code).notices = (s.fireShut k).notices.raised (fireEvent k) (.house k) (some code) := by
  rw [State.enterFire_eq, State.raise_notices, State.placeLight, State.setRequests_notices, State.fireBase_notices]

theorem State.enterFire_fireOf :
    (s.enterFire k code).fireOf k = { s.fireOf k with state := .fire, latch := true, port := false, gate := false } := by
  rw [State.fireOf, State.enterFire_fire, State.fireBase_fire]
  exact State.setFire_fireOf_same ..

theorem State.enterFire_requests :
    ((s.enterFire k code).light k).requests = { (s.light k).requests with fire := some { position := 255, fade := 0 } } := by
  rw [State.enterFire_eq, State.raise_light, State.placeLight, State.setRequests_requests, State.fireBase_light]
  rfl

theorem State.enterFire_light (none : (s.light k).requests.fire = none) :
    ((s.enterFire k code).light k).position = 255 ∧ ((s.enterFire k code).light k).fade = Option.none := by
  rw [State.enterFire_eq, State.raise_light]
  exact State.placeFire_light _ k (by rw [State.fireBase_light]; exact none)

/-- The effects of a house's entry to FIRE (R163). -/
theorem State.enterFire_fireEntered (calm : s.orders.restart ≠ .waiting) (none : (s.light k).requests.fire = none) :
    s.FireEntered (s.enterFire k code) k code where
  unit := s.enterFire_fireOf k code
  shutters x e := by rw [State.enterFire_mon, State.fireBase_mon _ _ e]
  lamps x e := by
    rw [State.enterFire_lamp, State.fireBase_lamp _ _ e]
    have safe := s.fireBase_safe k e
    unfold State.LampEntriesSafe at safe ⊢
    rw [State.enterFire_entry (d := .douser x) _ _ _ nofun, State.enterFire_entry (d := .lamp x) _ _ _ nofun,
      State.enterFire_entry (d := .feed x) _ _ _ nofun]
    exact ⟨rfl, safe⟩
  motors x e := by rw [State.enterFire_entry (d := .motor x) _ _ _ nofun]; exact s.fireBase_motor k e
  roles x e := by rw [State.enterFire_slot, State.fireBase_slot _ _ e]
  sound := by rw [State.enterFire_entry (d := .sound k) _ _ _ nofun]; exact s.fireBase_sound k
  engine := by rw [State.enterFire_eng, State.fireBase_eng]
  lights := ⟨(s.enterFire_light k code none).1, (s.enterFire_light k code none).2, s.enterFire_requests k code⟩
  notice := by
    rw [State.enterFire_notices]
    refine ⟨by simp [NoticeUnit.raised_isPending], ?_⟩
    rw [NoticeUnit.raised_cause_same, (s.fireShut_causes k (fireEvent k) (by cases k <;> nofun)).2]
  shutter x e hold role := by
    rw [State.enterFire_notices, NoticeUnit.raised_isPending, s.fireShut_shutter k e hold role, Bool.true_or]
  elsewhere := ⟨(State.Local.enterFire k s code).house, (State.Local.enterFire k s code).sameTables calm⟩

end

end Sys2Proof.Machine
end

section
/-! SUPPORT. The fire unit: what its operations keep of the conditions held at every moment. -/

namespace Sys2Proof.Machine

variable {c : Claims} {s t : State} {k : House} {h : Head}

/-! ### A detector list (R157, R158) -/

/-- A detector list keeps its form: 4 entries at most, one to a source (R157). -/
def DetectorsKept (l : List Detector) : Prop := l.length ≤ 4 ∧ (l.map Detector.source).Nodup

theorem DetectorsKept.sublist {l l' : List Detector} (kept : DetectorsKept l) (sub : l'.Sublist l) : DetectorsKept l' :=
  ⟨sub.length_le.trans kept.1, kept.2.sublist (sub.map _)⟩

/-- An entry of a new source joins a list with room. -/
theorem DetectorsKept.append {l : List Detector} {d : Detector} (kept : DetectorsKept l) (room : l.length < 4)
    (fresh : ∀ x ∈ l, x.source ≠ d.source) : DetectorsKept (l ++ [d]) := by
  refine ⟨by simpa using room, ?_⟩
  rw [List.map_append, List.map_singleton, List.nodup_append]
  refine ⟨kept.2, List.nodup_singleton _, fun x mem y single => ?_⟩
  obtain ⟨e, within, rfl⟩ := List.mem_map.mp mem
  rw [List.mem_singleton.mp single]
  exact fresh e within

section
variable {l : List Detector} {source : Byte} {zone : Zone} {x : Condition} {ms hold : Nat}

theorem enterReport_kept (kept : DetectorsKept l) : DetectorsKept (enterReport l source zone x ms hold) := by
  unfold enterReport
  dsimp only
  split
  · rename_i old found
    have shorter : (l.filter fun d => d.source != source).length < l.length :=
      List.length_filter_lt_length_iff_exists.mpr ⟨old, List.mem_of_find?_eq_some found, by simpa using List.find?_some found⟩
    refine (kept.sublist List.filter_sublist).append (by have := kept.1; omega) fun d mem => ?_
    simpa using (List.mem_filter.mp mem).2
  · rename_i fresh
    have others : ∀ d ∈ l, d.source ≠ source := fun d mem => by simpa using List.find?_eq_none.mp fresh d mem
    split
    · exact kept
    · split
      · exact kept.append ‹_› others
      · refine (kept.sublist (List.drop_sublist 1 l)).append (by have := kept.1; simp; omega) fun d mem => others d (List.mem_of_mem_drop mem)

/-- A report that is not one of fire brings no fire into the list. -/
theorem enterReport_no_fire (none : ∀ d ∈ l, d.condition ≠ .fire) (other : x ≠ .fire) :
    ∀ d ∈ enterReport l source zone x ms hold, d.condition ≠ .fire := by
  have last : ∀ {l' : List Detector} {e : Detector}, e.condition = x → (∀ d ∈ l', d.condition ≠ .fire) →
      ∀ d ∈ l' ++ [e], d.condition ≠ .fire := fun same none d mem => by
    obtain mem | mem := List.mem_append.mp mem
    · exact none d mem
    · rw [List.mem_singleton.mp mem, same]; exact other
  unfold enterReport
  dsimp only
  split
  · exact last rfl fun d mem => none d (List.mem_filter.mp mem).1
  · split
    · exact none
    · split
      · exact last rfl none
      · exact last rfl fun d mem => none d (List.mem_of_mem_drop mem)

end

/-! ### The other house -/

theorem State.Local.fireKept (l : State.Local k s t)
    (bit : t.notices.isPending (fireEvent (otherHouse k)) = s.notices.isPending (fireEvent (otherHouse k)))
    (kept : s.FireKept (otherHouse k)) : t.FireKept (otherHouse k) := by
  obtain ⟨-, eng, light, fire, values⟩ := l.house
  have inFire : t.inFire (otherHouse k) = s.inFire (otherHouse k) := by rw [State.inFire, State.inFire, fire]
  exact ⟨by rw [fire, inFire]; exact kept.latch, by rw [bit, inFire]; exact kept.bit,
    by rw [NoticeUnit.isMasked, l.mask]; exact kept.unmasked, by rw [light, inFire]; exact kept.request,
    by rw [light, inFire]; exact kept.lights, by rw [values (.sound (otherHouse k)) rfl, inFire]; exact kept.sound,
    by rw [eng, inFire]; exact kept.engine, by rw [fire]; exact kept.list, by rw [fire, inFire]; exact kept.fires⟩

theorem fireEvent_otherHouse_ne (k : House) : fireEvent (otherHouse k) ≠ fireEvent k := by cases k <;> decide

/-! ### The unit's own part changed -/

namespace State.Meets

/-- A house's part of the fire unit changed. -/
theorem setFire (m : s.Meets c) (k : House) {f : FireHouse}
    (port : c.lines → f.port = !decide (f.state = .fire) ∧ f.gate = !decide (f.state = .fire))
    (gate : f.gate = (s.fireOf k).gate ∨ ∀ h, h.house = k → c.ajar h)
    (lit : (f.state = .fire → (s.fireOf k).state = .fire) ∨ ∀ h, h.house = k → c.exempt h)
    (fires : c.fires → s.FireKept k → (s.setFire k f).FireKept k) (free : c.free k → f.state ≠ .fire) : (s.setFire k f).Meets c where
  lines claimed := by
    have live := m.lines claimed
    refine ⟨fun h out => ?_, live.arc, fun k' => ?_, fun k' => ?_, live.alert, live.bypass⟩
    · have shut := live.shut h out
      unfold State.holdCondition at shut ⊢
      rw [State.setFire_fireOf, State.setFire_mon]
      split
      · rename_i own
        rw [own] at shut
        obtain same | ajar := gate
        · rw [same]; exact shut
        · exact absurd (ajar h own) out
      · exact shut
    · have := live.port k'
      unfold State.inFire at this ⊢
      rw [State.setFire_fireOf]
      split
      · exact (port claimed).1
      · exact this
    · have := live.gate k'
      unfold State.inFire at this ⊢
      rw [State.setFire_fireOf]
      split
      · exact (port claimed).2
      · exact this
  lamps claimed := by
    have kept := m.lamps claimed
    refine ⟨kept.lamps, kept.feeds, fun h out isLit => ?_⟩
    obtain ⟨service, free⟩ := kept.lit h out isLit
    refine ⟨service, ?_⟩
    unfold State.inFire at free ⊢
    rw [State.setFire_fireOf]
    split
    · rename_i own
      obtain stays | ex := lit
      · rw [own] at free
        simpa using fun fire => of_decide_eq_false free (stays fire)
      · exact absurd (ex h own) out
    · exact free
  queues claimed := { m.queues claimed with }
  lights claimed k' := (m.lights claimed k').of_eq rfl rfl rfl
  runups := m.runups
  fires claimed k' := by
    obtain rfl | rfl := House.eq_or_other k k'
    · exact fires claimed (m.fires claimed _)
    · exact (State.Local.setFire s k f).fireKept rfl (m.fires claimed _)
  shows claimed k' := (m.shows claimed k').of_eq (fun _ _ => rfl) rfl (fun _ _ opened => opened) (.inl rfl)
  free k' claimed := by
    have := m.free k' claimed
    unfold State.inFire at this ⊢
    rw [State.setFire_fireOf]
    split
    · rename_i same; subst same; simpa using free claimed
    · exact this

/-- A notice unit changed with its ALERT line re-judged, nothing claimed of the FIRE bits. -/
theorem setNotices (m : s.Meets c) {n : NoticeUnit} (alert : c.lines → n.AlertTrue)
    (mask : c.fires → ∀ k, s.notices.isMasked (fireEvent k) = false → n.isMasked (fireEvent k) = false)
    (bits : c.fires → ∀ k, n.isPending (fireEvent k) = s.notices.isPending (fireEvent k)) : (s.setNotices n).Meets c where
  lines claimed := { m.lines claimed with alert := alert claimed }
  lamps claimed := { m.lamps claimed with }
  queues claimed := { m.queues claimed with }
  lights claimed k' := (m.lights claimed k').of_eq rfl rfl rfl
  runups := m.runups
  fires claimed k' := { m.fires claimed k' with
    bit := (bits claimed k').trans (m.fires claimed k').bit
    unmasked := mask claimed k' (m.fires claimed k').unmasked
    lights := (m.fires claimed k').lights
    request := (m.fires claimed k').request
    engine := (m.fires claimed k').engine }
  shows claimed k' := (m.shows claimed k').of_eq (fun _ _ => rfl) rfl (fun _ _ opened => opened) (.inl rfl)
  free := m.free

/-- A NOTICE queued moves the answer/notice FIFO alone. -/
theorem queueNotice (m : s.Meets c) (n : NoticeContents) : (s.queueNotice n).Meets c := by
  have frame := s.queueNotice_frame n
  have l := State.Local.queueNotice .one s n
  have steady : s.Steady (s.queueNotice n) :=
    { now := l.now, pending := l.pending, matcher := l.matcher, programme := l.programme, starter := l.starter
      fire := (congrArg State.fire frame :)
      loop := l.loop
      bounded := State.queueNotice_bounded n
      mask := l.mask
      bits := fun k => (congrArg (fun t => t.notices.isPending (fireEvent k)) frame :)
      alert := fun true => by rw [(congrArg State.notices frame :)]; exact true }
  have side : s.LampSide (s.queueNotice n) :=
    { steady := steady
      slots := (congrArg State.slots frame :)
      engines := (congrArg State.engines frame :)
      lights := (congrArg State.lights frame :)
      dousers := fun h => .inl (congrArg (fun t => (t.entry (.douser h)).value) frame :)
      sounds := fun k => (congrArg (fun t => (t.entry (.sound k)).value) frame :) }
  have mon : ∀ h, (s.queueNotice n).mon h = s.mon h := fun h => (congrArg (fun t => t.mon h) frame :)
  have lamp : ∀ h, (s.queueNotice n).lamp h = s.lamp h := fun h => (congrArg (fun t => t.lamp h) frame :)
  refine m.of_lampSide side (fun _ live x out => ?_) (fun _ live x => by rw [lamp]; exact live.arc x) fun _ kept =>
    ⟨fun x => by rw [lamp]; exact kept.lamps x, fun x => ?_, fun x out => by rw [lamp, mon, steady.inFire]; exact kept.lit x out⟩
  · rw [State.holdCondition, mon, steady.fireOf]; exact live.shut x out
  · have value : ((s.queueNotice n).entry (.feed x)).value = (s.entry (.feed x)).value := (congrArg (fun t => (t.entry (.feed x)).value) frame :)
    rw [lamp, value]
    exact kept.feeds x

/-- A raise of any event, nothing claimed of the FIRE bits. -/
theorem raiseFire (m : s.Meets c) (silent : ¬ c.fires) (e : Event) (cause : Cause) (code : Option Code) :
    (s.raise e cause code).Meets c := by
  have noted : (s.setNotices (s.notices.raised e cause code)).Meets c :=
    m.setNotices (fun _ => NoticeUnit.rejudge_alertTrue _) (fun claimed => absurd claimed silent) fun claimed => absurd claimed silent
  unfold State.raise
  dsimp only
  split
  · exact noted
  · exact noted.queueNotice _

theorem clearBit (m : s.Meets c) (silent : ¬ c.fires) (e : Event) : (s.clearBit e).Meets c :=
  m.setNotices (fun _ => NoticeUnit.rejudge_alertTrue _) (fun claimed => absurd claimed silent) fun claimed => absurd claimed silent

end State.Meets

/-! ### A house's entry to FIRE (R163) -/

/-- What a house out of FIRE needs for its fire condition to hold once it has entered FIRE. -/
structure State.FireReady (s : State) (k : House) : Prop where
  unmasked : s.notices.isMasked (fireEvent k) = false
  request : (s.light k).requests.fire = none
  list : DetectorsKept (s.fireOf k).detectors

theorem State.FireKept.ready (kept : s.FireKept k) (free : s.inFire k = false) : s.FireReady k :=
  ⟨kept.unmasked, by rw [kept.request, free]; rfl, kept.list⟩

theorem State.enterFire_inFire (s : State) (k : House) (code : Code) : (s.enterFire k code).inFire k = true := by
  simp [State.inFire, State.enterFire_fireOf]

theorem State.enterFire_fireKept {code : Code} (ready : s.FireReady k) : (s.enterFire k code).FireKept k := by
  have l := State.Local.enterFire k s code
  have inFire := s.enterFire_inFire k code
  refine ⟨?_, ?_, ?_, ?_, fun _ => s.enterFire_light k code ready.request, fun _ => ?_, fun _ => ?_, ?_, fun free => ?_⟩
  · rw [inFire, State.enterFire_fireOf]
  · rw [inFire, State.enterFire_notices, NoticeUnit.raised_isPending]
    simp
  · rw [NoticeUnit.isMasked, l.mask]; exact ready.unmasked
  · rw [inFire, State.enterFire_requests]; rfl
  · rw [State.enterFire_entry (d := .sound k) _ _ _ nofun]; exact s.fireBase_sound k
  · rw [State.enterFire_eng, State.fireBase_eng]; exact ⟨rfl, rfl⟩
  · rw [State.enterFire_fireOf]; exact ready.list
  · rw [inFire] at free; cases free

theorem State.enterFire_other_bit (s : State) (k : House) (code : Code) :
    (s.enterFire k code).notices.isPending (fireEvent (otherHouse k)) = s.notices.isPending (fireEvent (otherHouse k)) := by
  rw [State.enterFire_notices, NoticeUnit.raised_isPending, decide_eq_false (fireEvent_otherHouse_ne k), Bool.or_false]
  exact (s.fireShut_causes k _ (by cases k <;> nofun)).1

namespace State.Meets

theorem fireStop (m : s.Meets c) (k : House) : (s.fireStop k).Meets c :=
  ((((m.writeMotor _ _).closeDouser _).writeMotor _ _).closeDouser _).silence k

/-- A house enters FIRE: its fire condition holds from then on, whatever stood of it before. -/
theorem enterFire (m : s.Meets { c with fires := False }) (k : House) (code : Code) (fires : c.fires → s.FireReady k)
    (other : c.fires → s.FireKept (otherHouse k)) (nofree : ¬ c.free k) : (s.enterFire k code).Meets c := by
  have l := State.Local.enterFire k s code
  let c1 : Claims :=
    { c with ajar := fun x => (c.ajar x ∨ x = k.head .b) ∨ x = k.head .a, exempt := fun x => c.exempt x ∨ x.house = k, fires := False }
  have m1 : s.Meets c1 := m.weaken id (fun _ ajar => .inl (.inl ajar)) id (fun _ ex => .inl ex) id id id id id fun _ free => free
  have set : (s.setFire k { s.fireOf k with state := .fire, latch := true, port := false, gate := false }).Meets c1 :=
    m1.setFire k (fun _ => ⟨by simp, by simp⟩) (.inr fun x e => (House.eq_head e).elim .inr fun b => .inl (.inr b)) (.inr fun _ e => .inr e)
      False.elim fun free => absurd free nofree
  have shut : (s.fireShut k).Meets { c1 with ajar := c.ajar } := (set.settleHold (c := { c1 with ajar := fun x => c.ajar x ∨ x = k.head .b })).settleHold
  have base : (s.fireBase k).Meets { c1 with ajar := c.ajar } := ((shut.shutHouse k true).fireStop k).halt k true
  have done : (s.enterFire k code).Meets { c1 with ajar := c.ajar } :=
    State.Meets.raiseFire (State.Meets.setRequests base nofun) (fun no => no) _ _ _
  refine { done with lamps := fun claimed => ?_, fires := fun claimed k' => ?_ }
  · have kept := done.lamps claimed
    refine ⟨kept.lamps, kept.feeds, fun x out lit => ?_⟩
    by_cases own : x.house = k
    · rw [State.enterFire_lamp, State.fireBase_lamp _ _ own] at lit
      cases lit
    · exact kept.lit x (fun ex => ex.elim out own) lit
  · obtain rfl | rfl := House.eq_or_other k k'
    · exact State.enterFire_fireKept (fires claimed)
    · exact l.fireKept (s.enterFire_other_bit k code) (other claimed)

theorem dropHouse (m : s.Meets c) (k : House) (code : Code) (nofree : ¬ c.free k) : (s.dropHouse k code).Meets c := by
  unfold State.dropHouse
  split
  · exact m
  · rename_i out
    exact m.withoutFires.enterFire k code (fun claimed => (m.fires claimed k).ready (by simpa using out))
      (fun claimed => m.fires claimed _) nofree

end State.Meets

/-! ### Leaving FIRE (R166) -/

/-- A house out of FIRE again, its ALERT raised when a detector stands in PRE. -/
def State.fireLifted (s : State) (k : House) : State :=
  let pre := oldestPre (s.fireOf k).detectors
  let s1 := s.setFire k { s.fireOf k with latch := false, state := if pre.isSome then .alert else .clear, port := true, gate := true }
  match pre with
  | some d => s1.raise .alert (.zone d.zone) (some .pre)
  | none => s1

theorem State.leaveFire_eq (s : State) (k : House) :
    s.leaveFire k =
      ((((s.fireLifted k).rejudgeHold (k.head .a)).rejudgeHold (k.head .b)).withdrawLight k .fire).clearBit (fireEvent k) := rfl

section
variable (s : State) (k : House)

theorem State.fireLifted_frame :
    { s.fireLifted k with notices := s.notices, loop := s.loop, orders := s.orders } =
      s.setFire k
        { s.fireOf k with
          latch := false, state := if (oldestPre (s.fireOf k).detectors).isSome then .alert else .clear, port := true, gate := true } := by
  unfold State.fireLifted
  dsimp only
  split
  · exact congrArg (fun t : State => { t with notices := s.notices }) (State.raise_frame ..)
  · rfl

theorem State.fireLifted_mon (x : Head) : (s.fireLifted k).mon x = s.mon x := (congrArg (fun t => t.mon x) (s.fireLifted_frame k) :)
theorem State.fireLifted_slots : (s.fireLifted k).slots = s.slots := (congrArg State.slots (s.fireLifted_frame k) :)
theorem State.fireLifted_light (k' : House) : (s.fireLifted k).light k' = s.light k' :=
  (congrArg (fun t => t.light k') (s.fireLifted_frame k) :)
theorem State.fireLifted_fireOf :
    (s.fireLifted k).fireOf k =
      { s.fireOf k with
        latch := false, state := if (oldestPre (s.fireOf k).detectors).isSome then .alert else .clear, port := true, gate := true } :=
  ((congrArg (fun t => t.fireOf k) (s.fireLifted_frame k) :)).trans (State.setFire_fireOf_same ..)

theorem State.leaveFire_fireOf :
    (s.leaveFire k).fireOf k =
      { s.fireOf k with
        latch := false, state := if (oldestPre (s.fireOf k).detectors).isSome then .alert else .clear, port := true, gate := true } := by
  rw [State.leaveFire_eq]
  simp [State.clearBit, State.withdrawLight, State.fireLifted_fireOf]

theorem State.leaveFire_inFire : (s.leaveFire k).inFire k = false := by
  unfold State.inFire
  rw [State.leaveFire_fireOf]
  cases (oldestPre (s.fireOf k).detectors).isSome <;> rfl

theorem State.leaveFire_requests :
    ((s.leaveFire k).light k).requests = { (s.light k).requests with fire := none } := by
  rw [State.leaveFire_eq]
  simp [State.clearBit, State.withdrawLight, State.setRequests_requests, State.fireLifted_light, Requests.withdraw]

/-- The ALERT of a house that leaves FIRE with a detector in PRE is the one notice raised before the FIRE bit clears. -/
theorem State.fireLifted_notices :
    (s.fireLifted k).notices =
      match oldestPre (s.fireOf k).detectors with
      | some d => s.notices.raised .alert (.zone d.zone) (some .pre)
      | none => s.notices := by
  unfold State.fireLifted
  dsimp only
  split
  · exact State.raise_notices ..
  · rfl

theorem State.fireLifted_isPending {e : Event} (other : e ≠ .alert) :
    (s.fireLifted k).notices.isPending e = s.notices.isPending e := by
  rw [State.fireLifted_notices]
  split
  · rw [NoticeUnit.raised_isPending, decide_eq_false other, Bool.or_false]
  · rfl

theorem State.clearBit_isPending (e e' : Event) :
    (s.clearBit e).notices.isPending e' = (s.notices.isPending e' && decide (e' ≠ e)) := by
  have bit : (~~~e.bit).getLsbD e'.num = decide (e' ≠ e) := by
    rw [BitVec.getLsbD_not, e.bit_getLsbD e'.num.isLt, decide_eq_true e'.num.isLt, Bool.true_and, ← decide_not]
    exact decide_eq_decide.mpr (not_congr ⟨fun same => Event.num_injective (Fin.ext same), fun same => by rw [same]⟩)
  rw [← bit]
  exact BitVec.getLsbD_and

theorem State.leaveFire_isPending {e : Event} (shutter : e ≠ .shutter) :
    (s.leaveFire k).notices.isPending e = ((s.fireLifted k).notices.isPending e && decide (e ≠ fireEvent k)) := by
  rw [State.leaveFire_eq, State.clearBit_isPending, State.withdrawLight, State.setRequests_notices,
    (State.rejudgeHold_causes _ _ _ shutter).1,
    (State.rejudgeHold_causes _ _ _ shutter).1]

end

namespace State.Meets

/-- A house leaves FIRE: its fire condition holds again when no detector stands in FIRE (R165, R166). -/
theorem leaveFire (m : s.Meets c) (k : House) (quiet : ∀ d ∈ (s.fireOf k).detectors, d.condition ≠ .fire) : (s.leaveFire k).Meets c := by
  have l := State.Local.leaveFire k s
  have free := s.leaveFire_inFire k
  have out : (if (oldestPre (s.fireOf k).detectors).isSome then FireState.alert else .clear) ≠ .fire := by split <;> nofun
  let c1 : Claims := { c with ajar := fun x => (c.ajar x ∨ x = k.head .b) ∨ x = k.head .a, fires := False }
  have m1 : s.Meets c1 := m.weaken id (fun _ ajar => .inl (.inl ajar)) id (fun _ => id) id id id False.elim id fun _ => id
  have set := m1.setFire k (f := { s.fireOf k with latch := false, state := if (oldestPre (s.fireOf k).detectors).isSome then .alert else .clear, port := true, gate := true })
    (fun _ => ⟨by simp [out], by simp [out]⟩) (.inr fun x e => (House.eq_head e).elim .inr fun b => .inl (.inr b))
    (.inl fun fire => absurd fire out) False.elim fun _ => out
  have lifted : (s.fireLifted k).Meets c1 := by
    unfold State.fireLifted
    dsimp only
    split
    · exact set.raiseFire id _ _ _
    · exact set
  have shut : (((s.fireLifted k).rejudgeHold (k.head .a)).rejudgeHold (k.head .b)).Meets { c1 with ajar := c.ajar } :=
    (lifted.settleHold (c := { c1 with ajar := fun x => c.ajar x ∨ x = k.head .b })).settleHold
  have done : (s.leaveFire k).Meets { c with fires := False } := State.Meets.clearBit (State.Meets.setRequests shut nofun) id _
  refine done.withFires fun claimed k' => ?_
  have kept := m.fires claimed
  obtain rfl | rfl := House.eq_or_other k k'
  · exact
      { latch := by rw [free, State.leaveFire_fireOf]
        bit := by rw [free, State.leaveFire_isPending _ _ (by cases k' <;> nofun)]; simp
        unmasked := by rw [NoticeUnit.isMasked, l.mask]; exact (kept k').unmasked
        request := by rw [free, State.leaveFire_requests]; rfl
        lights := fun fire => by rw [free] at fire; cases fire
        sound := fun fire => by rw [free] at fire; cases fire
        engine := fun fire => by rw [free] at fire; cases fire
        list := by rw [State.leaveFire_fireOf]; exact (kept k').list
        fires := fun _ => by rw [State.leaveFire_fireOf]; exact quiet }
  · refine l.fireKept ?_ (kept _)
    rw [State.leaveFire_isPending _ _ (by cases k <;> nofun), State.fireLifted_isPending _ _ (by cases k <;> nofun),
      decide_eq_true (fireEvent_otherHouse_ne k), Bool.and_true]

/-- A house's part of the fire unit changed while the house stays in FIRE, or out of it. -/
theorem changeFire (m : s.Meets c) (k : House) {f : FireHouse} (port : f.port = (s.fireOf k).port) (gate : f.gate = (s.fireOf k).gate)
    (latch : f.latch = (s.fireOf k).latch) (state : decide (f.state = .fire) = decide ((s.fireOf k).state = .fire))
    (list : c.fires → DetectorsKept (s.fireOf k).detectors → DetectorsKept f.detectors)
    (quiet : c.fires → (s.fireOf k).state ≠ .fire → (∀ d ∈ (s.fireOf k).detectors, d.condition ≠ .fire) →
      ∀ d ∈ f.detectors, d.condition ≠ .fire) : (s.setFire k f).Meets c := by
  have inFire : (s.setFire k f).inFire k = s.inFire k := by
    unfold State.inFire
    rw [State.setFire_fireOf_same, state]
  refine m.setFire k (fun claimed => ?_) (.inl gate) (.inl fun fire => ?_) (fun claimed kept => ?_) fun claimed => ?_
  · rw [port, gate, state]
    exact ⟨(m.lines claimed).port k, (m.lines claimed).gate k⟩
  · simpa [fire] using state
  · exact
      { latch := by rw [inFire, State.setFire_fireOf_same, latch]; exact kept.latch
        bit := by rw [inFire]; exact kept.bit
        unmasked := kept.unmasked
        request := by rw [inFire]; exact kept.request
        lights := by rw [inFire]; exact kept.lights
        sound := by rw [inFire]; exact kept.sound
        engine := by rw [inFire]; exact kept.engine
        list := by rw [State.setFire_fireOf_same]; exact list claimed kept.list
        fires := fun free => by
          rw [inFire] at free
          rw [State.setFire_fireOf_same]
          exact quiet claimed (of_decide_eq_false free) (kept.fires free) }
  · have free := of_decide_eq_false (m.free k claimed)
    simpa [free] using state

variable (nofree : ∀ k, ¬ c.free k)

theorem judgeAlert (m : s.Meets c) (k : House) : (s.judgeAlert k).Meets c := by
  unfold State.judgeAlert
  dsimp only
  split
  · rename_i cond
    exact m.changeFire k rfl rfl rfl (by rw [cond.1]; rfl) (fun _ => id) fun _ _ => id
  · exact m

include nofree in
theorem linkLevel (m : s.Meets c) (k : House) (opened : Bool) : (s.linkLevel k opened).Meets c := by
  have set : (s.setFire k { s.fireOf k with linkOpen := opened }).Meets c := m.changeFire k rfl rfl rfl rfl (fun _ => id) fun _ _ => id
  unfold State.linkLevel
  dsimp only
  split
  · exact m
  · split
    · exact set.dropHouse k _ (nofree k)
    · exact set

theorem detectorExpiry (m : s.Meets c) (k : House) (source : Byte) : (s.detectorExpiry k source).Meets c := by
  unfold State.detectorExpiry
  dsimp only
  split
  · have set : (s.setFire k { s.fireOf k with detectors := (s.fireOf k).detectors.filter fun d => d.source != source }).Meets c :=
      m.changeFire k rfl rfl rfl rfl (fun _ kept => kept.sublist List.filter_sublist) fun _ _ quiet d mem =>
        quiet d (List.mem_filter.mp mem).1
    exact set.judgeAlert k
  · exact m

include nofree in
theorem fireDrop (m : s.Meets c) (k : House) : (s.fireDrop k).Meets c := m.dropHouse k _ (nofree k)

theorem fireReset (m : s.Meets c) (k : House) : (s.fireReset k).1.Meets c := by
  unfold State.fireReset
  dsimp only
  split
  · rename_i cond
    exact m.leaveFire k (by simpa using cond.2.2)
  · exact m

include nofree in
theorem judgeReport (m : s.Meets c) (k : House) (source : Byte) (zone : Zone) (x : Condition) (before : List Detector) :
    (s.judgeReport k source zone x before).Meets c := by
  have alert : (s.fireOf k).state = .clear → (s.setFire k { s.fireOf k with state := .alert }).Meets c := fun clear =>
    m.changeFire k rfl rfl rfl (by rw [clear]; rfl) (fun _ => id) fun _ _ => id
  have other : ∀ k, fireEvent k ≠ .alert := fun k => by cases k <;> nofun
  unfold State.judgeReport
  dsimp only
  split
  · exact m.dropHouse k _ (nofree k)
  · split
    · exact m.dropHouse k _ (nofree k)
    · split
      · exact (alert ‹_›).raise _ _ _ other
      · exact m
  · split
    · exact m
    · exact m.raise _ _ _ other
  · exact m

include nofree in
/-- A report of fire is entered and drops its house in one event, so that no list names a fire outside FIRE. -/
theorem houseReport (m : s.Meets c) (k : House) (source : Byte) (zone : Zone) (x : Condition) : (s.houseReport k source zone x).Meets c := by
  unfold State.houseReport
  dsimp only
  refine State.Meets.judgeAlert ?_ k
  by_cases alarm : x = .fire ∧ (s.fireOf k).state ≠ .fire
  · obtain ⟨rfl, out⟩ := alarm
    have free : s.inFire k = false := decide_eq_false out
    have set : (s.setFire k { s.fireOf k with
        detectors := enterReport (s.fireOf k).detectors source zone .fire s.ms s.fire.holdTime }).Meets { c with fires := False } :=
      m.withoutFires.changeFire k rfl rfl rfl rfl nofun nofun
    have drops := set.enterFire k .report (fun claimed => ?_) (fun claimed => ?_) (nofree k)
    · unfold State.judgeReport State.dropHouse
      dsimp only
      rw [if_neg (by simp [State.inFire, out])]
      exact drops
    · obtain ⟨unmasked, request, -⟩ := (m.fires claimed k).ready free
      exact ⟨unmasked, request, by rw [State.setFire_fireOf_same]; exact enterReport_kept (m.fires claimed k).list⟩
    · exact (State.Local.setFire s k _).fireKept rfl (m.fires claimed _)
  · have set : (s.setFire k { s.fireOf k with
        detectors := enterReport (s.fireOf k).detectors source zone x s.ms s.fire.holdTime }).Meets c :=
      m.changeFire k rfl rfl rfl rfl (fun _ => enterReport_kept) fun _ free quiet =>
        enterReport_no_fire quiet fun fire => alarm ⟨fire, free⟩
    exact set.judgeReport nofree k source zone x _

include nofree in
theorem detectorReport (m : s.Meets c) (source : Byte) (zone : Zone) (x : Condition) : (s.detectorReport source zone x).Meets c := by
  have one : (if zone.concerns .one then s.houseReport .one source zone x else s).Meets c := by
    split
    · exact m.houseReport nofree .one source zone x
    · exact m
  unfold State.detectorReport
  dsimp only
  split
  · exact one.houseReport nofree .two source zone x
  · exact one

end State.Meets

end Sys2Proof.Machine
end

section
/-! SUPPORT. The changeover engine's events and show functions: what they do where the frames are not judged again, and what they keep of
the conditions held at every moment. -/

namespace Sys2Proof.Machine

variable {c : Claims} {s t : State} {k : House} {h : Head}

/-! ### What readies a head -/

theorem State.setMon_idle (s : State) (h x : Head) (idle : Option Nat) :
    { (s.setMon h { s.mon h with idleTimer := idle }).mon x with idleTimer := (s.mon x).idleTimer } = s.mon x := by
  rw [State.setMon_mon]
  split
  · subst x; rfl
  · rfl

/-- A head's idle timer judged anew leaves the rest of every monitor. -/
theorem State.rejudgeIdle_mon (s : State) (h x : Head) :
    { (s.rejudgeIdle h).mon x with idleTimer := (s.mon x).idleTimer } = s.mon x := by
  unfold State.rejudgeIdle
  dsimp only
  split
  · split
    · rfl
    · exact s.setMon_idle h x _
  · exact s.setMon_idle h x _

theorem State.rejudgeIdle_motion (s : State) (h x : Head) : ((s.rejudgeIdle h).mon x).motion = (s.mon x).motion :=
  (congrArg Monitor.motion (s.rejudgeIdle_mon h x) :)

theorem State.assign_mon (s : State) (h x : Head) (r : Role) (i : Option Nat) :
    { (s.assign h r i).mon x with idleTimer := (s.mon x).idleTimer } = s.mon x := State.rejudgeIdle_mon _ h x

theorem State.setRole_mon (s : State) (h x : Head) (r : Role) :
    { (s.setRole h r).mon x with idleTimer := (s.mon x).idleTimer } = s.mon x := s.assign_mon h x r _

theorem State.ready_of_eq {x : Head} (mon : (t.mon x).motion = (s.mon x).motion)
    (lamp : (t.lamp x).state = .burning ↔ (s.lamp x).state = .burning) : t.ready x = s.ready x := by
  unfold State.ready
  rw [mon, decide_eq_decide, lamp]

/-- A strike request leaves the motion of every head, and lights none and puts none out. -/
theorem State.strikeRequest_ready (s : State) (h x : Head) : (s.strikeRequest h).ready x = s.ready x := by
  have unlit : s.strikeIgnored h = false → (s.lamp h).state ≠ .burning := fun heeded burning => by
    simp [State.strikeIgnored, burning] at heeded
  unfold State.strikeRequest
  dsimp only
  split
  · rfl
  · rename_i heeded
    have unlit := unlit (by simpa using heeded)
    split
    all_goals
      refine State.ready_of_eq ?_ ?_
      · simp [State.rejudgeIdle_motion]
      · by_cases same : x = h
        · subst same; simp [unlit]
        · simp [State.setLamp_lamp_ne _ _ same]

theorem State.startHeadBase_ready (s : State) (h x : Head) (p : Purpose) : (s.startHeadBase h p).ready x = s.ready x := by
  unfold State.startHeadBase
  dsimp only
  rw [← s.strikeRequest_ready h x]
  split
  · rfl
  · exact State.ready_of_eq (congrArg Monitor.motion (State.setRole_mon _ h x .starting) :) (by simp [State.setRole])

@[simp] theorem State.writeDrive_now (s : State) (d : DriveId) (v : DriveVal) : (s.writeDrive d v).now = s.now := rfl

/-- A head whose lamp has been asked to strike and whose motor runs, its role STARTING unless it keeps SHOWING (R109). -/
def State.begun (s : State) (h : Head) (p : Purpose) : State :=
  let t := (s.strikeRequest h).writeDrive (.motor h) (.motor true)
  if p = .resume ∧ s.role h = .showing then t else t.setRole h .starting

theorem State.begun_eng (s : State) (h : Head) (p : Purpose) (k : House) : (s.begun h p).eng k = s.eng k := by
  unfold State.begun
  dsimp only
  split <;> simp [State.setRole]

/-- The run-up of a head started now. -/
def State.runupOf (s : State) (h : Head) (p : Purpose) : Runup :=
  { head := h, purpose := p, deadline := s.ms + (s.eng h.house).runupLimit * 1000 }

theorem State.startHeadBase_eq (s : State) (h : Head) (p : Purpose) :
    s.startHeadBase h p = (s.begun h p).setEng h.house { s.eng h.house with runup := some (s.runupOf h p) } := by
  unfold State.startHeadBase State.begun State.runupOf
  simp only [State.writeDrive_role, State.strikeRequest_role]
  split <;> simp [State.setRole, State.ms]

theorem PerHouse.set_set {α : Type} (p : PerHouse α) (k : House) (x y : α) : (p.set k x).set k y = p.set k y := by cases k <;> rfl

theorem State.setEng_setEng (s : State) (k : House) (e e' : Engine) : (s.setEng k e).setEng k e' = s.setEng k e' := by
  simp [State.setEng, PerHouse.set_set]

/-- A head started for INCOMING while no change is pending is no more than started: one that is ready already ends its run-up (R109,
R110). -/
theorem startIncoming_eq {J : Judge} {inc : Head} (calm : (s.eng inc.house).changePending = false) :
    startIncoming J inc s = s.incomingStarted inc := by
  have ready : s.ready inc = decide ((s.mon inc).motion = .locked ∧ (s.lamp inc).state = .burning) := rfl
  have started : s.incomingStarted inc =
      (s.begun inc .incoming).setEng inc.house
        { s.eng inc.house with runup := if s.ready inc then none else some (s.runupOf inc .incoming) } := by
    rw [← s.begun_eng inc .incoming inc.house, ready]
    simp only [decide_eq_true_eq]
    rfl
  unfold startIncoming
  dsimp only
  rw [State.startHeadBase_ready, started, State.startHeadBase_eq]
  split
  · unfold incomingReady State.runupIdle
    simp [calm, State.setEng_setEng]
  · rfl

/-- A head started is one whose readiness is then judged as a move of its motion state (R109, R110). -/
theorem startHead_eq (s : State) (h : Head) (p : Purpose) : startHead judgeFrames h p s = s.headStarted h p := by
  have started : s.headStarted h p =
      if s.ready h then (s.startHeadBase h p).motionReport h else s.startHeadBase h p := by
    rw [State.startHeadBase_eq, ← s.begun_eng h p h.house]
    unfold State.ready
    simp only [decide_eq_true_eq]
    rfl
  rw [started]
  unfold startHead
  dsimp only
  rw [State.startHeadBase_ready]
  split
  · rename_i ready
    have base : (s.startHeadBase h p).ready h = true := (s.startHeadBase_ready h h p).trans ready
    have locked : ((s.startHeadBase h p).mon h).motion = .locked := (of_decide_eq_true base).1
    unfold State.motionReport
    rw [locked, if_pos base]
  · rfl

/-- The motor cue taken while no change is pending (R116). -/
theorem takeMotor_eq {J : Judge} (calm : (s.eng k).changePending = false) : takeMotor J k s = s.motorTaken (s.incoming k) := by
  have inc : (s.setEng k { s.eng k with motorTaken := true }).incoming k = s.incoming k := by
    simp [State.incoming, State.outgoing, State.curReel]
  have house : (s.incoming k).house = k := by
    simp [State.incoming, State.outgoing]
  unfold takeMotor State.motorTaken
  dsimp only
  rw [inc, house]
  cases role : s.role (s.incoming k) <;> simp [role, startIncoming_eq, house, calm]

/-- The motor cue taken while no change is pending moves no house state. -/
theorem State.motorTaken_state (s : State) (inc : Head) : ((s.motorTaken inc).eng inc.house).state = (s.eng inc.house).state := by
  unfold State.motorTaken State.incomingStarted
  dsimp only
  split
  · simp [State.setRole]
  · split <;> simp

/-- A ready head whose run-up is for INCOMING ends it (R110). -/
theorem headReady_incoming {J : Judge} {r : Runup} (run : (s.eng h.house).runup = some r) (own : r.head = h) (purpose : r.purpose = .incoming) :
    headReady J h s = incomingReady J h s := by
  unfold headReady
  simp [run, own, purpose, Option.filter]

/-- A head started for INCOMING is a head started (R109). -/
theorem startIncoming_headStarted (s : State) (h : Head) : startIncoming judgeFrames h s = s.headStarted h .incoming := by
  rw [← startHead_eq]
  unfold startIncoming startHead
  dsimp only
  split
  · refine (headReady_incoming (h := h) (r := s.runupOf h .incoming) ?_ rfl rfl).symm
    rw [State.startHeadBase_eq, State.setEng_eng_same]
  · rfl

/-! ### A head cleared by ARM (R106) -/

section
variable (s : State) (h : Head)

theorem State.clearHead_frame :
    { s.clearHead h with monitors := s.monitors, lamps := s.lamps, drive := s.drive, slots := s.slots } = s := by
  unfold State.clearHead
  split
  · rfl
  · exact (congrArg (fun t : State => { t with monitors := s.monitors, lamps := s.lamps, drive := s.drive, slots := s.slots })
      (State.assign_frame _ h .empty none) :).trans
      (congrArg (fun t : State => { t with monitors := s.monitors, lamps := s.lamps, drive := s.drive, slots := s.slots })
        (State.normalShutdown_frame _ h) :)

theorem State.clearHead_eng (k : House) : (s.clearHead h).eng k = s.eng k := (congrArg (fun t => t.eng k) (s.clearHead_frame h) :)
theorem State.clearHead_light (k : House) : (s.clearHead h).light k = s.light k := (congrArg (fun t => t.light k) (s.clearHead_frame h) :)
theorem State.clearHead_fireOf (k : House) : (s.clearHead h).fireOf k = s.fireOf k := (congrArg (fun t => t.fireOf k) (s.clearHead_frame h) :)
theorem State.clearHead_notices : (s.clearHead h).notices = s.notices := (congrArg State.notices (s.clearHead_frame h) :)
theorem State.clearHead_ms : (s.clearHead h).ms = s.ms := (congrArg State.ms (s.clearHead_frame h) :)

theorem State.clearHead_slot (x : Head) :
    (s.clearHead h).slot x = if x = h ∧ s.role h ≠ .empty then { role := .empty, held := none } else s.slot x := by
  unfold State.clearHead
  by_cases empty : s.role h = .empty
  · simp [empty]
  · simp [empty, State.assign_slot]

theorem State.clearHead_lamp (x : Head) :
    (s.clearHead h).lamp x =
      if x = h ∧ s.role h ≠ .empty ∧ (s.lamp h).state ≠ .dark then (s.lamp h).darkAt s.ms else s.lamp x := by
  unfold State.clearHead
  by_cases empty : s.role h = .empty
  · simp [empty]
  · simp [empty, State.normalShutdown_lamp]
    rfl

theorem State.clearHead_motor (x : Head) :
    ((s.clearHead h).entry (.motor x)).value =
      if x = h ∧ s.role h ≠ .empty then .motor false else (s.entry (.motor x)).value := by
  unfold State.clearHead
  by_cases empty : s.role h = .empty
  · simp [empty]
  · rw [if_neg empty, State.assign_entry, State.normalShutdown_value_ne (d := .motor x) _ nofun nofun nofun]
    simp [State.writeDrive_value, empty]

theorem State.clearHead_douser (x : Head) :
    ((s.clearHead h).entry (.douser x)).value =
      if x = h ∧ s.role h ≠ .empty then .douser false else (s.entry (.douser x)).value := by
  unfold State.clearHead
  by_cases empty : s.role h = .empty
  · simp [empty]
  · rw [if_neg empty, State.assign_entry, State.normalShutdown_douser]
    by_cases same : x = h
    · simp [same, empty]
    · simp [State.writeDrive_value, same]

end

/-- Both heads of a house cleared and its sound ended. -/
def State.clearHouse (s : State) (k : House) : State :=
  ((s.clearHead (k.head .a)).clearHead (k.head .b)).writeDrive (.sound k) (.sound none)

section
variable (s : State) (k : House)

theorem State.clearHouse_eng (k' : House) : (s.clearHouse k).eng k' = s.eng k' :=
  (State.clearHead_eng _ _ k').trans (State.clearHead_eng _ _ k')
theorem State.clearHouse_light (k' : House) : (s.clearHouse k).light k' = s.light k' :=
  (State.clearHead_light _ _ k').trans (State.clearHead_light _ _ k')
theorem State.clearHouse_fireOf (k' : House) : (s.clearHouse k).fireOf k' = s.fireOf k' :=
  (State.clearHead_fireOf _ _ k').trans (State.clearHead_fireOf _ _ k')
theorem State.clearHouse_notices : (s.clearHouse k).notices = s.notices :=
  (State.clearHead_notices _ _).trans (State.clearHead_notices _ _)

theorem State.clearHead_role_other {x h : Head} (ne : x ≠ h) : (s.clearHead h).role x = s.role x := by
  rw [State.role, State.clearHead_slot]
  simp [ne, State.role]

theorem State.clearHouse_slot {x : Head} (e : x.house = k) :
    (s.clearHouse k).slot x = if s.role x = .empty then s.slot x else { role := .empty, held := none } := by
  have ne := k.head_b_ne
  unfold State.clearHouse
  obtain rfl | rfl := House.eq_head e <;>
    simp [State.clearHead_slot, State.clearHead_role_other, ne, ne.symm]

theorem State.clearHouse_role {x : Head} (e : x.house = k) : (s.clearHouse k).role x = .empty := by
  rw [State.role, State.clearHouse_slot s k e]
  split
  · assumption
  · rfl

theorem State.clearHouse_douser {x : Head} (e : x.house = k) :
    ((s.clearHouse k).entry (.douser x)).value = if s.role x = .empty then (s.entry (.douser x)).value else .douser false := by
  have ne := k.head_b_ne
  unfold State.clearHouse
  rw [State.writeDrive_value, if_neg nofun]
  obtain rfl | rfl := House.eq_head e <;>
    simp [State.clearHead_douser, State.clearHead_role_other, ne, ne.symm]

end

theorem State.armAccepted_eq (s : State) (k : House) (i : Nat) :
    s.armAccepted k i =
      (let s2 := ((s.clearHouse k).setEng k ((s.clearHouse k).eng k).cleared).withdrawClaim k
      s2.setEng k { s2.eng k with cur := i, highest := (i : Int) - 1, state := .armed }) := rfl

theorem State.armAccepted_eng (s : State) (k : House) (i : Nat) :
    (s.armAccepted k i).eng k =
      { (s.eng k).cleared with faultClaim := false, cur := i, highest := (i : Int) - 1, state := .armed } := by
  rw [State.armAccepted_eq]
  simp [State.withdrawClaim_eq, State.clearHouse_eng]

theorem State.armAccepted_role (s : State) (k : House) (i : Nat) (x : Head) : (s.armAccepted k i).role x = (s.clearHouse k).role x := by
  rw [State.armAccepted_eq]
  simp [State.withdrawClaim_eq]

theorem State.armAccepted_entry (s : State) (k : House) (i : Nat) {d : DriveId} (dim : d ≠ .dim k) :
    (s.armAccepted k i).entry d = (s.clearHouse k).entry d := by
  rw [State.armAccepted_eq]
  simp [State.withdrawClaim_eq, State.setRequests_entry_ne _ _ _ dim]

theorem House.house_of_mem_heads {k : House} {h : Head} (mem : h ∈ k.heads) : h.house = k := by
  cases k <;> simp [House.heads] at mem <;> obtain rfl | rfl := mem <;> rfl

theorem State.showingHead_house (found : s.showingHead k = some h) : h.house = k :=
  House.house_of_mem_heads (List.mem_of_find?_eq_some found)

/-! ### What the engine's events keep -/

namespace State.Meets

theorem frameEvent (m : s.Meets c) (h : Head) : (s.frameEvent h).Meets c := by
  unfold State.frameEvent
  split
  · exact judgeFrames_keeper c h s m
  · exact m.tailJudge h
  · exact m

theorem strayCue (m : s.Meets c) (k : House) : (s.strayCue k).Meets c := m.setMarks rfl rfl id

theorem motorCue (m : s.Meets c) (h : Head) : (s.motorCue h).Meets c := by
  unfold State.motorCue
  split
  · rename_i order
    have judged : s.judged h = true := by
      unfold State.motorInOrder at order
      simp only [Bool.and_eq_true] at order
      exact order.1.1.1
    exact m.takeMotor judgeFrames_keeper _ (m.free_of_running (State.judged_iff.mp judged).1)
  · exact m.strayCue _

theorem changeCue (m : s.Meets c) (h : Head) : (s.changeCue h).Meets c := by
  unfold State.changeCue
  split
  · rename_i order
    have judged : s.judged h = true := by
      unfold State.changeInOrder at order
      simp only [Bool.and_eq_true] at order
      exact order.1.1.1
    have running := (State.judged_iff.mp judged).1
    exact m.takeChange judgeFrames_keeper _ (m.free_of_running running) fun _ => running
  · exact m.strayCue _

theorem motionReport (m : s.Meets c) (h : Head) : (s.motionReport h).Meets c := by
  unfold State.motionReport
  split
  · split
    · exact m.headReady judgeFrames_keeper h
    · exact m
  · split
    · exact (m.raise .pictureLost _ _ fun k => by cases k <;> nofun).setClaim _
    · exact m
  · split
    · exact m.halt _ _
    · split
      · rename_i tailing
        exact m.tailEnd h (by rw [tailing]; nofun)
      · exact m
  · exact m

theorem litReport (m : s.Meets c) (h : Head) : (s.litReport h).Meets c := by
  unfold State.litReport
  split
  · exact m.headReady judgeFrames_keeper h
  · exact m

theorem lightLost (m : s.Meets c) (h : Head) : (s.lightLost h).Meets c := by
  unfold State.lightLost
  split
  · exact ((m.closeDouser h).raise .pictureLost _ _ fun k => by cases k <;> nofun).setClaim _
  · exact m

theorem runupExpiry (m : s.Meets c) (k : House) : (s.runupExpiry k).Meets c := by
  unfold State.runupExpiry
  split
  · exact m
  · rename_i r _
    split
    · have ended : (((s.writeDrive (.motor r.head) (.motor false)).raise .runupFail (.head r.head) (some r.purpose.toCode)).runupIdle k).Meets c :=
        ((m.writeMotor _ _).raise .runupFail _ _ fun k => by cases k <;> nofun).runupIdle k
      dsimp only
      split
      · rename_i starting
        exact ended.setRole _ nofun fun _ => .inl (by rw [starting]; nofun)
      · exact ended
    · exact m

/-! ### What the show functions keep -/

theorem clearHead (m : s.Meets { c with shows := False }) (h : Head) : (s.clearHead h).Meets { c with shows := False } := by
  unfold State.clearHead
  split
  · exact m
  · exact (((m.writeMotor h false).closeDouser h).normalShutdown h).assignFree h .empty none

/-- A claim that a house is not in FIRE, where that is known. -/
theorem withFree (m : s.Meets c) (P : Prop) (free : P → s.inFire k = false) :
    s.Meets { c with free := fun k' => c.free k' ∨ (P ∧ k' = k) } where
  __ := m
  free k' claimed := by
    obtain claimed | ⟨p, rfl⟩ := claimed
    · exact m.free k' claimed
    · exact free p

theorem free_of_withFree {P : Prop} (m : s.Meets { c with free := fun k' => c.free k' ∨ (P ∧ k' = k) }) (p : P) : s.inFire k = false :=
  m.free k (.inr ⟨p, rfl⟩)

theorem withoutFree {P : Prop} (m : s.Meets { c with free := fun k' => c.free k' ∨ (P ∧ k' = k) }) : s.Meets c where
  __ := m
  free k' claimed := m.free k' (.inl claimed)

/-- An accepted ARM: both heads are EMPTY, so that the house shows nothing and sounds nothing. -/
theorem armAccepted (m : s.Meets c) (i : Nat) (free : s.inFire k = false) : (s.armAccepted k i).Meets c := by
  have heads : (s.clearHouse k).Meets { c with shows := False } := ((m.withoutShows.clearHead _).clearHead _).silence k
  have claimed := ((heads.cleared k).withdrawClaim k).withFree (k := k) True fun _ => by
    simpa [State.withdrawClaim_eq, State.inFire, State.clearHouse_fireOf] using free
  have armed : (s.armAccepted k i).Meets { c with shows := False } := by
    rw [State.armAccepted_eq]
    exact claimed.withoutFree.setEngFree (fun _ => claimed.free_of_withFree trivial) fun _ some => .inl some
  refine armed.restoreShows (.armAccepted k s i) m fun claimed => ?_
  have dark : ∀ x, x.house = k → (s.armAccepted k i).role x = .empty := fun x e =>
    (s.armAccepted_role k i x).trans (s.clearHouse_role k e)
  exact
    { one := fun x _ e _ shows => by rw [dark x e] at shows; cases shows
      dousers := fun x e opened => by
        rw [State.armAccepted_entry (d := .douser x) _ _ _ nofun, State.clearHouse_douser _ _ e] at opened
        split at opened
        · rename_i empty
          rw [(m.shows claimed k).dousers x e opened] at empty
          cases empty
        · cases opened
      sound := fun x named => by
        rw [State.armAccepted_entry (d := .sound k) _ _ _ nofun, State.clearHouse, State.writeDrive_value, if_pos rfl] at named
        cases named
      states := fun x e shows => by rw [dark x e] at shows; cases shows
      runup := fun r some => by rw [State.armAccepted_eng] at some; cases some
      pending := fun pending => by rw [State.armAccepted_eng] at pending; cases pending }

theorem arm (m : s.Meets c) (k : House) (start : Option Nat) : (s.arm k start).1.Meets c := by
  unfold State.arm
  dsimp only
  split
  · exact m
  · split
    · exact m
    · split
      · exact m
      · rename_i free
        split
        · exact m
        · split
          · exact m
          · exact m.armAccepted _ (by simpa using free)

theorem afterThread (m : s.Meets c) (h : Head) (role : s.role h ≠ .showing) : (s.afterThread h).Meets c := by
  unfold State.afterThread
  dsimp only
  split
  · rename_i late
    simp only [Bool.and_eq_true, beq_iff_eq] at late
    split
    · exact m.startIncoming judgeFrames_keeper h (m.free_of_running late.1.1) role
    · split
      · exact m.strikeRequest h
      · exact m
  · exact m

theorem threadAccepted (m : s.Meets c) (h : Head) (i : Nat) (role : s.role h ≠ .showing) : (s.threadAccepted h i).Meets c := by
  have checked := ((m.assign h (r := .threaded) (i := some i) nofun fun _ => .inl role).resetCounter h).carbonCheckThread h
    ((s.assign h .threaded (some i)).resetCounter h |>.programme.record i).last
  refine checked.afterThread h ?_
  have threaded : (((s.assign h .threaded (some i)).resetCounter h).carbonCheckThread h
      ((s.assign h .threaded (some i)).resetCounter h |>.programme.record i).last).role h = .threaded := by
    unfold State.carbonCheckThread
    dsimp only
    split <;> simp [State.resetCounter, State.assign_role]
  rw [threaded]
  nofun

theorem thread (m : s.Meets c) (h : Head) : (s.thread h).1.Meets c := by
  unfold State.thread
  dsimp only
  split
  · exact m
  · split
    · exact m
    · split
      · rename_i threaded
        exact m.threadAccepted h _ (by rw [threaded]; nofun)
      · rename_i empty
        split
        · exact m
        · split
          · exact m
          · have marked : (s.setEng h.house { s.eng h.house with highest := ((s.eng h.house).highest + 1).toNat }).Meets c :=
              m.setMarks rfl rfl id
            exact marked.threadAccepted h _ (by simp [empty])
      · exact m

/-- A head found THREADED with a record is a head of its house. -/
theorem threadedHolding_some {i : Nat} (found : s.threadedHolding k i = some h) : h.house = k ∧ s.role h = .threaded ∧ (s.slot h).held = some i := by
  unfold State.threadedHolding State.headHolding at found
  obtain ⟨first, threaded⟩ := Option.filter_eq_some_iff.mp found
  refine ⟨?_, by simpa using threaded, by simpa using List.find?_some first⟩
  exact House.house_of_mem_heads (List.mem_of_find?_eq_some first)

theorem startRests (m : s.Meets c) {i : Nat} (found : s.threadedHolding k i = some h)
    (state : (s.eng k).state = .armed ∨ (s.eng k).state = .interval) : (Machine.startHead judgeFrames h .start s).Meets c := by
  obtain ⟨rfl, threaded, -⟩ := threadedHolding_some found
  refine m.startHead judgeFrames_keeper h .start (fun claimed => ?_) (.inl (by rw [threaded]; nofun)) fun _ => state
  cases inFire : s.inFire h.house with
  | false => rfl
  | true =>
    rw [((m.fires claimed _).engine inFire).1] at state
    exact absurd state (by simp)

theorem start (m : s.Meets c) (k : House) : (s.start k).1.Meets c := by
  unfold State.start
  dsimp only
  split
  · rename_i armed
    split
    · exact m.startRests ‹_› (.inl armed)
    · exact m
  · rename_i interval
    split
    · exact m.startRests ‹_› (.inr interval)
    · exact m
  · rename_i running
    split
    · rename_i late
      simp only [Bool.and_eq_true, beq_iff_eq] at late
      have house : (s.incoming k).house = k := by simp [State.incoming, State.outgoing]
      exact m.startIncoming judgeFrames_keeper _ (by rw [house]; exact m.free_of_running running) (by rw [late.2]; nofun)
    · exact m
  · exact m

/-- A CHANGE whose motor cue is not yet taken takes it first: with no change pending, that leaves the house RUNNING (R117). -/
theorem change (m : s.Meets c) (k : House) : (s.change k).1.Meets c := by
  unfold State.change
  dsimp only
  split
  · rename_i accepted
    simp only [Bool.and_eq_true, beq_iff_eq, Bool.not_eq_true'] at accepted
    obtain ⟨⟨⟨running, -⟩, -⟩, untaken⟩ := accepted
    have free := m.free_of_running running
    split
    · exact m.takeChange judgeFrames_keeper k free fun _ => running
    · have motor := (m.withFree (k := k) c.fires free).takeMotor judgeFrames_keeper k free
      refine motor.withoutFree.takeChange judgeFrames_keeper k motor.free_of_withFree fun claimed => ?_
      have calm : (s.eng k).changePending = false := by
        cases pending : (s.eng k).changePending with
        | false => rfl
        | true => rw [(m.shows claimed k).pending pending] at untaken; cases untaken
      have house : (s.incoming k).house = k := by simp [State.incoming, State.outgoing]
      have state := s.motorTaken_state (s.incoming k)
      rw [house] at state
      rw [takeMotor_eq calm, state]
      exact running
  · exact m

theorem haltFunction (m : s.Meets c) (k : House) : (s.haltFunction k).1.Meets c := by
  unfold State.haltFunction
  dsimp only
  split
  · exact m.halt k false
  · exact m

theorem resume (m : s.Meets c) (k : House) : (s.resume k).1.Meets c := by
  unfold State.resume
  dsimp only
  split
  · exact m
  · rename_i open_
    have free : s.inFire k = false := by simp at open_; exact open_.2
    split
    · rename_i h found
      have house := State.showingHead_house found
      subst house
      exact m.startHead judgeFrames_keeper h .resume (fun _ => free) (.inr rfl) nofun
    · split
      · have house : (s.incoming k).house = k := by simp [State.incoming, State.outgoing]
        exact m.startHead judgeFrames_keeper _ .resume (fun _ => by rw [house]; exact free) (.inr rfl) nofun
      · exact m

end State.Meets

end Sys2Proof.Machine
end

section
/-! SUPPORT. The head monitors, the lamp regulators, the panel and the matcher: what their events keep of the conditions held at every
moment. -/

namespace Sys2Proof.Machine

variable {c : Claims} {s t : State} {k : House} {h : Head}

/-! ### The monitors (Chapter 3) -/

theorem Monitor.pulseRising_lines (m : Monitor) (now iv : Nat) :
    (m.pulseRising now iv).hold = m.hold ∧ (m.pulseRising now iv).inService = m.inService := by
  unfold Monitor.pulseRising
  dsimp only
  repeat' split
  all_goals exact ⟨rfl, rfl⟩

theorem Monitor.pulseLocked_lines (m : Monitor) (now iv : Nat) :
    (m.pulseLocked now iv).hold = m.hold ∧ (m.pulseLocked now iv).inService = m.inService := by
  unfold Monitor.pulseLocked
  dsimp only
  split <;> exact ⟨rfl, rfl⟩

theorem Monitor.judgePulse_lines (m : Monitor) (now iv : Nat) :
    (m.judgePulse now iv).hold = m.hold ∧ (m.judgePulse now iv).inService = m.inService := by
  unfold Monitor.judgePulse
  split
  · exact ⟨rfl, rfl⟩
  · exact m.pulseRising_lines now iv
  · exact m.pulseRising_lines now iv
  · exact m.pulseLocked_lines now iv

namespace State.Meets

theorem reportMotion {n : Monitor} (m : s.Meets c) (h : Head) (inService : n.inService = (s.mon h).inService) :
    ((s.setMon h n).reportMotion h).Meets c :=
  ((m.moveMon h (.inl inService.trans)).rejudgeIdle h).motionReport h

theorem acceptPulse (m : s.Meets c) (h : Head) : (s.acceptPulse h).Meets c := by
  have framed : ((s.setMon h ((s.mon h).accepted s.now)).frameEvent h).Meets c :=
    (m.setMon (h := h) (n := (s.mon h).accepted s.now) rfl rfl rfl).frameEvent h
  unfold State.acceptPulse
  dsimp only
  obtain ⟨hold, inService⟩ :=
    (((s.setMon h ((s.mon h).accepted s.now)).frameEvent h).mon h).judgePulse_lines s.now ((s.mon h).pulseInterval s.now)
  split
  · exact framed.setMon hold ‹_› inService
  · exact framed.reportMotion h inService

theorem pulse (m : s.Meets c) (h : Head) : (s.pulse h).Meets c := by
  unfold State.pulse
  dsimp only
  split
  · exact m
  · exact m.acceptPulse h

theorem slowExpiry (m : s.Meets c) (h : Head) : (s.slowExpiry h).Meets c := by
  unfold State.slowExpiry
  dsimp only
  split
  · exact m.reportMotion h rfl
  · exact m

theorem stopExpiry (m : s.Meets c) (h : Head) : (s.stopExpiry h).Meets c := by
  unfold State.stopExpiry
  dsimp only
  split
  · exact m.reportMotion h rfl
  · exact m

theorem idleExpiry (m : s.Meets c) (h : Head) : (s.idleExpiry h).Meets c := by
  unfold State.idleExpiry
  dsimp only
  split
  · exact (m.setMon (h := h) (n := { s.mon h with idleTimer := none }) rfl rfl rfl).normalShutdown h
  · exact m

/-- A head leaves service: its lamp may be lit out of service until the engine has been told and the lamp is put out (R58). -/
theorem leaveService (m : s.Meets c) (h : Head) : (s.leaveService h).Meets c := by
  have exempt : s.Meets { c with exempt := fun x => c.exempt x ∨ x = h } :=
    m.weaken id (fun _ => id) id (fun _ => .inl) id id id id id fun _ => id
  have moved := exempt.moveMon (n := { (s.mon h).stopped with inService := false, lastPulse := none, idleTimer := none }) h (.inr (.inr rfl))
  have out : (s.leaveService h).Meets { c with exempt := fun x => c.exempt x ∨ x = h } := by
    unfold State.leaveService
    dsimp only
    split
    · exact moved.overrideShutdown h
    · exact (moved.motionReport h).overrideShutdown h
  refine { out with lamps := fun claimed => { out.lamps claimed with lit := fun x outside lit => ?_ } }
  by_cases same : x = h
  · unfold State.leaveService at lit
    dsimp only at lit
    rw [State.overrideShutdown_lamp, if_pos same] at lit
    cases lit
  · exact (out.lamps claimed).lit x (fun ex => ex.elim outside same) lit

theorem enterService (m : s.Meets c) (h : Head) : (s.enterService h).Meets c :=
  (m.moveMon h (.inl fun _ => rfl)).rejudgeIdle h

theorem setService (m : s.Meets c) (h : Head) (v : Bool) : (s.setService h v).Meets c := by
  unfold State.setService
  split
  · exact m
  · split
    · exact m.enterService h
    · exact m.leaveService h

/-! ### The lamp regulators (Chapter 4) -/

theorem carbonEnd (m : s.Meets c) (h : Head) (b : Bool) : (s.carbonEnd h b).Meets c := by
  have failed : ((s.writeDrive (.douser h) (.douser false)).failLamp h (if b then { s.lamp h with rod := 0 } else s.lamp h)).Meets c := by
    refine (m.closeDouser h).failLamp h (fun kept => ?_) (fun kept => ?_) (fun kept => ?_) fun kept => ?_ <;> cases b
    · exact kept.base
    · exact kept.base
    · exact kept.acc
    · exact kept.acc
    · exact kept.rem
    · exact kept.rem
    · exact kept.rod
    · exact ⟨Nat.zero_le _, kept.rod.2⟩
  unfold State.carbonEnd
  dsimp only
  refine State.Meets.raise ?_ .carbonEnd _ _ fun k => by cases k <;> nofun
  split
  · exact failed.lightLost h
  · exact failed

theorem arcOut (m : s.Meets c) (h : Head) : (s.arcOut h).Meets c :=
  ((m.failLamp h (l := s.lamp h) (fun kept => kept.base) (fun kept => kept.acc) (fun kept => kept.rem) fun kept => kept.rod).lightLost h).raise
    .arcFail _ _ fun k => by cases k <;> nofun

theorem struck (m : s.Meets c) (h : Head) (v : Nat) (striking : (s.lamp h).state = .striking) : (s.struck h v).Meets c := by
  have lit : (s.setLamp h ((s.lamp h).lit s.ms)).Meets c := by
    refine m.lampTo (State.LampTo.setLamp s h _) (fun arc => ?_) (fun kept => ?_) (fun kept feed => ?_) fun _ => .inl ?_
    · rw [striking] at arc; exact arc
    · exact ⟨nofun, Nat.zero_le _, kept.base, by simp [Lamp.lit], by simp [Lamp.lit], kept.rod⟩
    · rw [State.setLamp_entry, feed, kept.idle (by rw [striking]; nofun)]; rfl
    · rw [striking]; rfl
  exact (((lit.runRegulator v (by simp [Lamp.lit])).rejudgeIdle h).litReport h).carbonCheckShow h

theorem setSampled (m : s.Meets c) (h : Head) (ms : Nat) (timer : Option Nat) (stale : Bool) :
    (s.setLamp h { (s.lamp h).account ms with staleTimer := timer, stale := stale }).Meets c :=
  m.setLamp rfl rfl rfl fun kept =>
    have account := kept.account ms
    ⟨account.idle, account.rate, account.base, account.acc, account.rem, account.rod⟩

theorem sampleStriking (m : s.Meets c) (h : Head) (x : Sample) (striking : (s.lamp h).state = .striking) : (s.sampleStriking h x).Meets c := by
  unfold State.sampleStriking
  split
  · exact m.carbonEnd h true
  · split
    · exact m.struck h _ striking
    · exact m

theorem sampleBurning (m : s.Meets c) (h : Head) (x : Sample) (burning : (s.lamp h).state = .burning) : (s.sampleBurning h x).Meets c := by
  have sampled : (s.setLamp h ((s.lamp h).sampled s.ms)).Meets c := m.setSampled h s.ms _ false
  unfold State.sampleBurning
  dsimp only
  split
  · exact sampled.carbonEnd h true
  · split
    · exact sampled.carbonEnd h false
    · split
      · exact sampled.arcOut h
      · exact (sampled.runRegulator _ (by simpa [Lamp.sampled, Lamp.account] using burning)).carbonCheckShow h

theorem lampSample (m : s.Meets c) (h : Head) (v i : Nat) (endSwitch : Bool) : (s.lampSample h v i endSwitch).Meets c := by
  have noted : ∀ x, (s.setLamp h { s.lamp h with sample := x }).Meets c := fun x =>
    m.setLamp rfl rfl rfl fun kept => ⟨kept.idle, kept.rate, kept.base, kept.acc, kept.rem, kept.rod⟩
  unfold State.lampSample
  dsimp only
  split
  · exact noted _
  · exact noted _
  · exact (noted _).sampleStriking h _ (by simpa)
  · exact (noted _).sampleBurning h _ (by simpa)

theorem strikeExpiry (m : s.Meets c) (h : Head) : (s.strikeExpiry h).Meets c := by
  unfold State.strikeExpiry
  dsimp only
  split
  · rename_i falls
    refine State.Meets.raise (m.lampTo (((State.LampTo.setLamp s h ((s.lamp h).putOut .failed)).writeLamp h _).rejudgeIdle h)
      (fun _ => rfl) (fun kept => .putOut _ kept.base kept.acc kept.rem kept.rod) (fun kept feed => ?_) nofun) .arcFail _ _
      fun k => by cases k <;> nofun
    rw [State.rejudgeIdle_entry, State.writeDrive_value, if_neg nofun, State.setLamp_entry, feed, kept.idle (by rw [falls.1]; nofun)]
    rfl
  · exact m

theorem staleExpiry (m : s.Meets c) (h : Head) : (s.staleExpiry h).Meets c := by
  have accounted := m.setSampled h s.ms (some (s.ms + Config.staleMs)) true
  unfold State.staleExpiry
  dsimp only
  split
  · split
    · exact accounted.carbonEnd h false
    · exact accounted
  · exact m

/-- An Fmax written: a burning lamp whose rate stands above it is failed or fed at the new Fmax within the event (R65, R82). -/
theorem writeFmax (m : s.Meets c) (h : Head) (f : Nat) : (s.writeFmax h f).Meets c := by
  unfold State.writeFmax
  dsimp only
  split
  · rename_i above
    let x := ({ s.lamp h with record := { (s.lamp h).record with fmax := f, base := min (s.lamp h).record.base f } } : Lamp).account s.ms
    have bounds : (s.lamp h).Bounded → x.rem < 60000 ∧ x.rod ≤ 65535 ∧ (s.lamp h).record.trimLength ≤ 65535 := fun kept =>
      ⟨(kept.account s.ms).rem, (kept.account s.ms).rod⟩
    split
    · rw [State.carbonEnd_eq s h (x := x) rfl false]
      unfold State.failedWith State.closeDouser
      dsimp only
      rw [if_pos rfl, if_pos above.1]
      exact ((((m.closeDouser h).failLamp h (l := x) (fun _ => min_le_right _ _) (fun kept => kept.acc) (fun kept => (bounds kept).1)
        fun kept => (bounds kept).2).lightLost h).raise .carbonEnd _ _ fun k => by cases k <;> nofun)
    · refine m.lampTo (((State.LampTo.setLamp s h x).setLamp_again { x with rate := f }).writeFeed _) (fun arc => arc)
        (fun kept => ⟨fun unlit => absurd above.1 unlit, le_refl _, min_le_right _ _, kept.acc, (bounds kept).1, (bounds kept).2⟩)
        (fun _ _ => ?_) fun lit => .inl lit
      rw [State.writeDrive_entry_same]
      rfl
  · rename_i within
    refine m.setLamp rfl rfl rfl fun kept => ⟨kept.idle, ?_, min_le_right _ _, kept.acc, kept.rem, kept.rod⟩
    by_cases burning : (s.lamp h).state = .burning
    · exact not_lt.mp fun above => within ⟨burning, above⟩
    · exact (kept.idle burning).trans_le (Nat.zero_le f)

end State.Meets

theorem tuned_le {lo hi : Nat} (le : lo ≤ hi) (v : Nat) : (tuned lo hi v).1 ≤ hi := by
  unfold tuned
  split
  · exact (‹_ ∧ _› : _ ∧ _).2
  · exact max_le le (min_le_left _ _)

/-- A lamp record with an item in its range stays within its bounds, but for Fmax (R65). -/
theorem LampRecord.withItem_bounds {r : LampRecord} {item v lo hi : Nat} (range : r.range item = some (lo, hi)) (other : item ≠ 5)
    (le : v ≤ hi) (base : r.base ≤ r.fmax) (trim : r.trimLength ≤ 65535) :
    (r.withItem item v).base ≤ r.fmax ∧ (r.withItem item v).fmax = r.fmax ∧ (r.withItem item v).trimLength ≤ 65535 := by
  unfold LampRecord.range at range
  split at range <;> cases range
  · exact ⟨base, rfl, trim⟩
  · exact ⟨le, rfl, trim⟩
  · exact ⟨base, rfl, trim⟩
  · exact ⟨base, rfl, trim⟩
  · exact absurd rfl other
  · exact ⟨base, rfl, trim⟩
  · exact ⟨base, rfl, le⟩
  · exact ⟨base, rfl, trim⟩
  · exact ⟨base, rfl, trim⟩

theorem LampRecord.range_le {r : LampRecord} {item lo hi : Nat} (range : r.range item = some (lo, hi)) : lo ≤ hi := by
  unfold LampRecord.range at range
  split at range <;> cases range <;> simp

namespace State.Meets

theorem judgeWriteLamp (m : s.Meets c) (head item : Byte) (value : Word) : (Machine.judgeWriteLamp head item value s).1.Meets c := by
  unfold Machine.judgeWriteLamp
  split
  · exact m
  · dsimp only
    split
    · exact m
    · rename_i h _ _ lo hi range
      split
      · exact m.writeFmax h _
      · rename_i other
        have le := tuned_le (LampRecord.range_le range) value.toNat
        refine m.setLamp rfl rfl rfl fun kept => ?_
        obtain ⟨base, fmax, trim⟩ := LampRecord.withItem_bounds range other le kept.base kept.rod.2
        exact ⟨kept.idle, fmax ▸ kept.rate, by dsimp only; rw [fmax]; exact base, kept.acc, kept.rem, kept.rod.1, trim⟩

theorem judgeTrim (m : s.Meets c) (head : Byte) (length : Option Word) : (Machine.judgeTrim head length s).1.Meets c := by
  unfold Machine.judgeTrim
  split
  · exact m
  · dsimp only
    split
    · exact m
    · exact m
    · refine m.setLamp rfl rfl rfl fun kept => ⟨kept.idle, kept.rate, kept.base, kept.acc, by simp, ?_, kept.rod.2⟩
      cases length with
      | none => exact kept.rod.2
      | some n => exact Nat.le_of_lt_succ n.isLt

end State.Meets

/-! ### The notice unit and the panel (Chapter 9) -/

theorem ackable_fire (k : House) : ackable[(fireEvent k).num.val] = false := by cases k <;> decide

namespace State.Meets

theorem acknowledge (m : s.Meets c) (marks : Word) : (s.acknowledge marks).Meets c :=
  m.setNotices (fun _ => NoticeUnit.rejudge_alertTrue _) (fun _ _ => id) fun _ k => by
    simp [NoticeUnit.isPending, NoticeUnit.rejudge, ackable_fire]

theorem endOfAlert (m : s.Meets c) : s.endOfAlert.Meets c :=
  m.setNotices (fun _ => by simp [NoticeUnit.AlertTrue, NoticeUnit.alertCondition]) (fun _ _ => id) fun _ _ => rfl

theorem setMask (m : s.Meets c) (marks : Word) : (s.setMask marks).Meets c :=
  m.setNotices (fun _ => NoticeUnit.rejudge_alertTrue _)
    (fun _ k _ => by simp [NoticeUnit.isMasked, NoticeUnit.rejudge, maskOf, ackable_fire]) fun _ _ => rfl

theorem quietExpiry (m : s.Meets c) : s.quietExpiry.Meets c := by
  unfold State.quietExpiry
  split
  · exact m.setNotices (fun _ => NoticeUnit.rejudge_alertTrue _) (fun _ _ => id) fun _ _ => rfl
  · exact m

theorem setQuiet (m : s.Meets c) (v : Nat) : (s.setNotices { s.notices with quietTime := v }).Meets c :=
  m.setNotices (fun claimed => (m.lines claimed).alert) (fun _ _ => id) fun _ _ => rfl

/-- Nothing is claimed of the panel, the matcher and the station map. -/
theorem setPanel (m : s.Meets c) (p : Panel) : ({ s with panel := p } : State).Meets c where
  lines claimed := { m.lines claimed with }
  lamps claimed := { m.lamps claimed with }
  queues claimed := { m.queues claimed with }
  lights claimed k' := (m.lights claimed k').of_eq rfl rfl rfl
  runups := m.runups
  fires claimed k' := { m.fires claimed k' with }
  shows claimed k' := (m.shows claimed k').of_eq (fun _ _ => rfl) rfl (fun _ _ opened => opened) (.inl rfl)
  free := m.free

theorem setMatcher (m : s.Meets c) (x : Matcher) : ({ s with matcher := x } : State).Meets c where
  lines claimed := { m.lines claimed with }
  lamps claimed := { m.lamps claimed with }
  queues claimed := { m.queues claimed with }
  lights claimed k' := (m.lights claimed k').of_eq rfl rfl rfl
  runups := m.runups
  fires claimed k' := { m.fires claimed k' with }
  shows claimed k' := (m.shows claimed k').of_eq (fun _ _ => rfl) rfl (fun _ _ opened => opened) (.inl rfl)
  free := m.free

theorem panelExpiry (m : s.Meets c) : s.panelExpiry.Meets c := by
  unfold State.panelExpiry
  split
  · exact (m.setPanel _).raise .panelLost _ _ fun k => by cases k <;> nofun
  · exact m

theorem lightsUp (m : s.Meets c) (k : House) : (s.lightsUp k).Meets c := m.placeLight nofun
theorem lightsDown (m : s.Meets c) (k : House) : (s.lightsDown k).Meets c := m.placeLight nofun
theorem lightsAuto (m : s.Meets c) (k : House) : (s.lightsAuto k).Meets c := m.withdrawLight nofun

theorem pressKeys {press : State → Nat → State} (m : s.Meets c) (keeps : ∀ (t : State) bit, t.Meets c → (press t bit).Meets c) (newly : Byte) :
    (Machine.pressKeys press newly s).Meets c := by
  unfold Machine.pressKeys
  generalize List.range 8 = bits
  induction bits generalizing s with
  | nil => exact m
  | cons bit bits ih =>
    refine ih ?_
    dsimp only
    split
    · exact keeps s bit m
    · exact m

theorem houseKey (m : s.Meets c) (k : House) (bit : Nat) : (s.houseKey k bit).Meets c := by
  unfold State.houseKey
  split
  · exact m.arm k none
  · exact m.start k
  · exact m.change k
  · exact m.haltFunction k
  · exact m.resume k
  · exact m.lightsUp k
  · exact m.lightsDown k
  · exact m.lightsAuto k
  · exact m

theorem headKey (m : s.Meets c) (bit : Nat) : (s.headKey bit).Meets c := by
  unfold State.headKey
  split
  · exact m.thread _
  · exact m.thread _
  · exact m.thread _
  · exact m.thread _
  · exact m.strikeRequest _
  · exact m.strikeRequest _
  · exact m.strikeRequest _
  · exact m.strikeRequest _
  · exact m

variable (nofree : ∀ k, ¬ c.free k)

include nofree in
theorem commonKey (m : s.Meets c) (bit : Nat) : (s.commonKey bit).Meets c := by
  unfold State.commonKey
  split
  · exact m.fireDrop nofree .one
  · exact m.fireDrop nofree .two
  · exact m.fireReset .one
  · exact m.fireReset .two
  · exact (m.acknowledge _).endOfAlert
  · exact m

include nofree in
theorem panelDelivery (m : s.Meets c) (x : KeyMap) : (s.panelDelivery x).Meets c := by
  have delivered := m.setPanel (s.panel.delivered x s.ms)
  unfold State.panelDelivery
  dsimp only
  split
  · exact delivered
  · exact (((delivered.pressKeys (fun _ bit m => m.houseKey .one bit) _).pressKeys (fun _ bit m => m.houseKey .two bit) _).pressKeys
      (fun _ bit m => m.headKey bit) _).pressKeys (fun _ bit m => m.commonKey nofree bit) _

/-! ### The matcher (Chapter 2) -/

include nofree in
theorem deliver (m : s.Meets c) (a : Action) (f : Frame) : (s.deliver a f).Meets c := by
  have malformed : s.malformed.Meets c := m.setMatcher _
  unfold State.deliver
  split
  · exact m
  · exact m
  · unfold State.deliverCue
    split
    · exact malformed
    · split
      · exact m.motorCue _
      · split
        · exact m.changeCue _
        · exact malformed
  · unfold State.deliverLamp
    split
    · dsimp only
      split
      · exact m.lampSample ..
      · exact malformed
    · exact malformed
  · unfold State.deliverSense
    split
    · exact malformed
    · split
      · exact m.detectorReport nofree ..
      · exact malformed
  · unfold State.deliverPanel
    split
    · exact m.panelDelivery nofree _
    · exact malformed

include nofree in
theorem matchFrame (m : s.Meets c) (f : Frame) : (s.matchFrame f).1.Meets c := by
  unfold State.matchFrame
  split
  · exact m
  · exact State.Meets.deliver nofree (m.setMatcher _) _ f

end State.Meets

end Sys2Proof.Machine
end

section
/-! SUPPORT. What the events and orders of one house leave outside it, and what a delivered telegram leaves of the tables. -/

namespace Sys2Proof.Machine

variable {s t u : State} {k : House} {h : Head}

/-! ### Events and functions of one house -/

namespace State.Local

theorem ite_ {p : Prop} [Decidable p] (a : State.Local k s t) (b : State.Local k s u) : State.Local k s (if p then t else u) := by
  split
  · exact a
  · exact b

theorem setMonAt (s : State) (h : Head) (m : Monitor) : State.Local h.house s (s.setMon h m) := setMon s m rfl
theorem setLampAt (s : State) (h : Head) (l : Lamp) : State.Local h.house s (s.setLamp h l) := setLamp s l rfl

theorem slowExpiry (s : State) (h : Head) : State.Local h.house s (s.slowExpiry h) :=
  ite_ ((setMonAt s h _).trans (reportMotion _ rfl)) (refl _ s)

theorem stopExpiry (s : State) (h : Head) : State.Local h.house s (s.stopExpiry h) :=
  ite_ ((setMonAt s h _).trans (reportMotion _ rfl)) (refl _ s)

theorem idleExpiry (s : State) (h : Head) : State.Local h.house s (s.idleExpiry h) :=
  ite_ ((setMonAt s h _).trans (normalShutdown _ rfl)) (refl _ s)

theorem enterService (s : State) (h : Head) : State.Local h.house s (s.enterService h) :=
  ((setMonAt s h _).trans (rejudgeHold _ rfl)).trans (rejudgeIdle _ rfl)

theorem setService (s : State) (h : Head) (v : Bool) : State.Local h.house s (s.setService h v) :=
  ite_ (refl _ s) (ite_ (enterService s h) (leaveService s rfl))

theorem runRegulator (s : State) (h : Head) (v : Nat) : State.Local h.house s (s.runRegulator h v) :=
  (setLampAt s h _).trans (writeDrive _ (d := .feed h) _ rfl)

theorem arcOut (s : State) (h : Head) : State.Local h.house s (s.arcOut h) :=
  ((failLamp s _ rfl).trans (lightLost _ rfl)).trans (raise ..)

theorem struck (s : State) (h : Head) (v : Nat) : State.Local h.house s (s.struck h v) :=
  ((((setLampAt s h _).trans (runRegulator _ h v)).trans (rejudgeIdle _ rfl)).trans (litReport _ rfl)).trans (carbonCheckShow _ rfl)

theorem lampSample (s : State) (h : Head) (v i : Nat) (e : Bool) : State.Local h.house s (s.lampSample h v i e) := by
  have striking : ∀ t x, State.Local h.house t (t.sampleStriking h x) := fun t x =>
    ite_ (carbonEnd t true rfl) (ite_ (struck t h _) (refl _ t))
  have burning : ∀ t x, State.Local h.house t (t.sampleBurning h x) := fun t x =>
    ite_ ((setLampAt t h _).trans (carbonEnd _ true rfl)) <| ite_ ((setLampAt t h _).trans (carbonEnd _ false rfl)) <|
      ite_ ((setLampAt t h _).trans (arcOut _ h)) (((setLampAt t h _).trans (runRegulator _ h _)).trans (carbonCheckShow _ rfl))
  unfold State.lampSample
  dsimp only
  split
  · exact setLampAt s h _
  · exact setLampAt s h _
  · exact (setLampAt s h _).trans (striking _ _)
  · exact (setLampAt s h _).trans (burning _ _)

theorem strikeExpiry (s : State) (h : Head) : State.Local h.house s (s.strikeExpiry h) :=
  ite_ ((((setLampAt s h _).trans (writeDrive _ (d := .lamp h) _ rfl)).trans (rejudgeIdle _ rfl)).trans (raise ..)) (refl _ s)

theorem staleExpiry (s : State) (h : Head) : State.Local h.house s (s.staleExpiry h) :=
  ite_ (ite_ ((setLampAt s h _).trans (carbonEnd _ false rfl)) (setLampAt s h _)) (refl _ s)

theorem writeFmax (s : State) (h : Head) (f : Nat) : State.Local h.house s (s.writeFmax h f) :=
  ite_ (ite_ ((setLampAt s h _).trans (carbonEnd _ false rfl))
    (((setLampAt s h _).trans (setLampAt _ h _)).trans (writeDrive _ (d := .feed h) _ rfl))) (setLampAt s h _)

theorem runupExpiry (own : ∀ r, (s.eng k).runup = some r → r.head.house = k) : State.Local k s (s.runupExpiry k) := by
  unfold State.runupExpiry
  split
  · exact refl k s
  · rename_i r runs
    have e := own r runs
    refine ite_ ?_ (refl k s)
    have ended := ((writeDrive s (d := .motor r.head) (.motor false) e).trans (raise k _ .runupFail (.head r.head) (some r.purpose.toCode))).trans
      (runupIdle k _)
    exact ite_ (ended.trans (setRole _ _ e)) ended

/-! ### The show functions -/

theorem arm (k : House) (s : State) (start : Option Nat) : State.Local k s (s.arm k start).1 := by
  unfold State.arm
  dsimp only
  split
  · exact refl k s
  · split
    · exact refl k s
    · split
      · exact refl k s
      · split
        · exact refl k s
        · split
          · exact refl k s
          · exact armAccepted k s _

theorem thread (s : State) (h : Head) : State.Local h.house s (s.thread h).1 := by
  unfold State.thread
  dsimp only
  split
  · exact refl _ s
  · split
    · exact refl _ s
    · split
      · exact threadAccepted s _ rfl
      · split
        · exact refl _ s
        · split
          · exact refl _ s
          · exact (setEng s _ _).trans (threadAccepted _ _ rfl)
      · exact refl _ s

theorem startRests {i : Nat} (found : s.threadedHolding k i = some h) (p : Purpose) :
    State.Local k s (Machine.startHead Machine.judgeFrames h p s) :=
  startHead judgeFrames s p (State.Meets.threadedHolding_some found).1

theorem start (k : House) (s : State) : State.Local k s (s.start k).1 := by
  unfold State.start
  dsimp only
  split
  · split
    · exact startRests ‹_› _
    · exact refl k s
  · split
    · exact startRests ‹_› _
    · exact refl k s
  · split
    · exact startIncoming judgeFrames s (incoming_house s k)
    · exact refl k s
  · exact refl k s

theorem change (k : House) (s : State) : State.Local k s (s.change k).1 := by
  unfold State.change
  dsimp only
  split
  · split
    · exact takeChange judgeFrames k s
    · exact (takeMotor judgeFrames k s).trans (takeChange judgeFrames k _)
  · exact refl k s

theorem haltFunction (k : House) (s : State) : State.Local k s (s.haltFunction k).1 := by
  unfold State.haltFunction
  dsimp only
  split
  · exact halt k s false
  · exact refl k s

theorem resume (k : House) (s : State) : State.Local k s (s.resume k).1 := by
  unfold State.resume
  dsimp only
  split
  · exact refl k s
  · split
    · rename_i found
      exact startHead judgeFrames s _ (State.showingHead_house found)
    · split
      · exact startHead judgeFrames s _ (incoming_house s k)
      · exact refl k s

/-! ### The lights, the link lines and the fire functions -/

theorem lightsUp (k : House) (s : State) : State.Local k s (s.lightsUp k) := placeLight k s _ _
theorem lightsDown (k : House) (s : State) : State.Local k s (s.lightsDown k) := placeLight k s _ _
theorem lightsAuto (k : House) (s : State) : State.Local k s (s.lightsAuto k) := withdrawLight k s _
theorem discardPartial (k : House) (s : State) : State.Local k s (s.discardPartial k) := setLight s k _

theorem linkLevel (k : House) (s : State) (opened : Bool) : State.Local k s (s.linkLevel k opened) :=
  ite_ (refl k s) (ite_ ((setFire s k _).trans (dropHouse k _ _)) (setFire s k _))

theorem detectorExpiry (k : House) (s : State) (source : Byte) : State.Local k s (s.detectorExpiry k source) :=
  ite_ ((setFire s k _).trans (judgeAlert k _)) (refl k s)

theorem fireReset (k : House) (s : State) : State.Local k s (s.fireReset k).1 := by
  unfold State.fireReset
  dsimp only
  split
  · exact leaveFire k s
  · exact refl k s

end State.Local

/-! ### What a delivered telegram leaves -/

/-- What the events that may serve both houses leave: moments, the queue of commands, the reaction table and its lock, the programme, and
the loop unit but for what a raise moves. -/
structure State.TablesKept (s t : State) : Prop where
  now : t.now = s.now
  pending : t.pending = s.pending
  starter : t.starter = s.starter
  table : t.matcher.table = s.matcher.table
  writeLock : t.matcher.writeLock = s.matcher.writeLock
  programme : t.programme = s.programme
  loop : t.loop.quieted = s.loop.quieted
  orders : s.orders.restart ≠ .waiting → t.orders = s.orders

theorem State.Local.tablesKept (l : State.Local k s t) : s.TablesKept t :=
  ⟨l.now, l.pending, l.starter, by rw [l.matcher], by rw [l.matcher], l.programme, l.loop, l.orders⟩

namespace State.TablesKept

theorem refl (s : State) : s.TablesKept s := ⟨rfl, rfl, rfl, rfl, rfl, rfl, rfl, fun _ => rfl⟩

theorem trans (a : s.TablesKept t) (b : t.TablesKept u) : s.TablesKept u :=
  ⟨b.now.trans a.now, b.pending.trans a.pending, b.starter.trans a.starter, b.table.trans a.table, b.writeLock.trans a.writeLock,
    b.programme.trans a.programme, b.loop.trans a.loop,
    fun calm => (b.orders (by rw [a.orders calm]; exact calm)).trans (a.orders calm)⟩

theorem setNotices (s : State) (n : NoticeUnit) : s.TablesKept (s.setNotices n) := ⟨rfl, rfl, rfl, rfl, rfl, rfl, rfl, fun _ => rfl⟩

theorem malformed (s : State) : s.TablesKept s.malformed := ⟨rfl, rfl, rfl, rfl, rfl, rfl, rfl, fun _ => rfl⟩

theorem countMatch (s : State) (i : Fin 32) : s.TablesKept (s.countMatch i) := ⟨rfl, rfl, rfl, rfl, rfl, rfl, rfl, fun _ => rfl⟩

theorem houseReport (k : House) (s : State) (source : Byte) (z : Zone) (x : Condition) : s.TablesKept (s.houseReport k source z x) :=
  (State.Local.houseReport k s source z x).tablesKept

theorem detectorReport (s : State) (source : Byte) (z : Zone) (x : Condition) : s.TablesKept (s.detectorReport source z x) := by
  unfold State.detectorReport
  dsimp only
  split
  · split
    · exact (houseReport ..).trans (houseReport ..)
    · exact houseReport ..
  · split
    · exact houseReport ..
    · exact refl s

theorem pressKeys {press : State → Nat → State} (keeps : ∀ t bit, State.TablesKept t (press t bit)) (newly : Byte) (s : State) :
    s.TablesKept (Machine.pressKeys press newly s) := by
  unfold Machine.pressKeys
  generalize List.range 8 = bits
  induction bits generalizing s with
  | nil => exact refl s
  | cons bit bits ih =>
    refine trans ?_ (ih _)
    dsimp only
    split
    · exact keeps s bit
    · exact refl s

theorem houseKey (k : House) (s : State) (bit : Nat) : s.TablesKept (s.houseKey k bit) := by
  unfold State.houseKey
  split
  · exact (State.Local.arm k s none).tablesKept
  · exact (State.Local.start k s).tablesKept
  · exact (State.Local.change k s).tablesKept
  · exact (State.Local.haltFunction k s).tablesKept
  · exact (State.Local.resume k s).tablesKept
  · exact (State.Local.lightsUp k s).tablesKept
  · exact (State.Local.lightsDown k s).tablesKept
  · exact (State.Local.lightsAuto k s).tablesKept
  · exact refl s

theorem headKey (s : State) (bit : Nat) : s.TablesKept (s.headKey bit) := by
  have strike : ∀ h, s.TablesKept (s.strikeRequest h) := fun h => (State.Local.strikeRequest s (h := h) rfl).tablesKept
  unfold State.headKey
  split
  · exact (State.Local.thread s _).tablesKept
  · exact (State.Local.thread s _).tablesKept
  · exact (State.Local.thread s _).tablesKept
  · exact (State.Local.thread s _).tablesKept
  · exact strike _
  · exact strike _
  · exact strike _
  · exact strike _
  · exact refl s

theorem commonKey (s : State) (bit : Nat) : s.TablesKept (s.commonKey bit) := by
  unfold State.commonKey
  split
  · exact (State.Local.dropHouse .one s _).tablesKept
  · exact (State.Local.dropHouse .two s _).tablesKept
  · exact (State.Local.fireReset .one s).tablesKept
  · exact (State.Local.fireReset .two s).tablesKept
  · exact (setNotices s _).trans (setNotices _ _)
  · exact refl s

theorem panelDelivery (s : State) (m : KeyMap) : s.TablesKept (s.panelDelivery m) := by
  have delivered : s.TablesKept { s with panel := s.panel.delivered m s.ms } := ⟨rfl, rfl, rfl, rfl, rfl, rfl, rfl, fun _ => rfl⟩
  unfold State.panelDelivery
  dsimp only
  split
  · exact delivered
  · exact (((delivered.trans (pressKeys (houseKey .one) _ _)).trans (pressKeys (houseKey .two) _ _)).trans (pressKeys headKey _ _)).trans
      (pressKeys commonKey _ _)

theorem deliver (s : State) (a : Action) (f : Frame) : s.TablesKept (s.deliver a f) := by
  unfold State.deliver
  split
  · exact refl s
  · exact refl s
  · unfold State.deliverCue
    split
    · exact malformed s
    · split
      · exact (State.Local.motorCue s _).tablesKept
      · split
        · exact (State.Local.changeCue s _).tablesKept
        · exact malformed s
  · unfold State.deliverLamp
    split
    · dsimp only
      split
      · exact (State.Local.lampSample s ..).tablesKept
      · exact malformed s
    · exact malformed s
  · unfold State.deliverSense
    split
    · exact malformed s
    · split
      · exact detectorReport s ..
      · exact malformed s
  · unfold State.deliverPanel
    split
    · exact panelDelivery s _
    · exact malformed s

theorem matchFrame (s : State) (f : Frame) : s.TablesKept (s.matchFrame f).1 := by
  unfold State.matchFrame
  split
  · exact refl s
  · exact (countMatch s _).trans (deliver _ _ f)

end State.TablesKept

end Sys2Proof.Machine
end

section
/-! SUPPORT. The loop unit, the orders and the end of an event: what they keep of the conditions held at every moment. -/

namespace Sys2Proof.Machine

variable {c : Claims} {s t : State} {k : House} {h : Head}

/-! ### The loop unit (Chapter 1) -/

namespace State.QueuesKept

/-- The bounds of the queues speak of the loop unit alone. -/
theorem of_eq (kept : s.QueuesKept) (repeats : t.loop.repeats = s.loop.repeats) (transit : t.loop.transit = s.loop.transit)
    (losses : t.loop.losses = s.loop.losses) (state : t.loop.state = s.loop.state) (bounded : s.loop.Bounded → t.loop.Bounded) :
    t.QueuesKept :=
  have fifo := bounded ⟨kept.fifo, kept.notices⟩
  ⟨repeats ▸ kept.repeats, transit ▸ kept.transit, fifo.1, fifo.2, losses ▸ kept.losses, by
    rw [state, transit, losses]; exact kept.search, by rw [state, repeats]; exact kept.held⟩

end State.QueuesKept

namespace State.Meets

/-- A change outside the heads and the houses: what is claimed of it is the bypass line and the bounds of the queues. -/
theorem ofRest (m : s.Meets c) (monitors : t.monitors = s.monitors) (lamps : t.lamps = s.lamps) (slots : t.slots = s.slots)
    (engines : t.engines = s.engines) (lights : t.lights = s.lights) (house : t.fire.house = s.fire.house)
    (notices : t.notices = s.notices) (values : ∀ d, (t.entry d).value = (s.entry d).value)
    (bypass : c.lines → s.loop.bypass = (s.loop.state != .held) → t.loop.bypass = (t.loop.state != .held))
    (queues : c.queues → s.QueuesKept → t.QueuesKept) : t.Meets c := by
  have mon : ∀ h, t.mon h = s.mon h := fun h => by rw [State.mon, monitors]; rfl
  have lamp : ∀ h, t.lamp h = s.lamp h := fun h => by rw [State.lamp, lamps]; rfl
  have role : ∀ h, t.role h = s.role h := fun h => by rw [State.role, State.slot, slots]; rfl
  have eng : ∀ k, t.eng k = s.eng k := fun k => by rw [State.eng, engines]; rfl
  have light : ∀ k, t.light k = s.light k := fun k => by rw [State.light, lights]; rfl
  have fireOf : ∀ k, t.fireOf k = s.fireOf k := fun k => by rw [State.fireOf, house]; rfl
  have inFire : ∀ k, t.inFire k = s.inFire k := fun k => by rw [State.inFire, fireOf]; rfl
  have condition : ∀ h, t.holdCondition h = s.holdCondition h := fun h => by rw [State.holdCondition, mon, fireOf]; rfl
  exact
    { lines := fun claimed =>
        { shut := fun h out => by rw [mon, condition]; exact (m.lines claimed).shut h out
          arc := fun h => by rw [lamp]; exact (m.lines claimed).arc h
          port := fun k => by rw [fireOf, inFire]; exact (m.lines claimed).port k
          gate := fun k => by rw [fireOf, inFire]; exact (m.lines claimed).gate k
          alert := by rw [notices]; exact (m.lines claimed).alert
          bypass := bypass claimed (m.lines claimed).bypass }
      lamps := fun claimed =>
        { lamps := fun h => by rw [lamp]; exact (m.lamps claimed).lamps h
          feeds := fun h => by rw [lamp, values]; exact (m.lamps claimed).feeds h
          lit := fun h => by rw [lamp, mon, inFire]; exact (m.lamps claimed).lit h }
      queues := fun claimed => queues claimed (m.queues claimed)
      lights := fun claimed k => (m.lights claimed k).of_eq (by rw [light]) (by rw [light]) (by rw [light])
      runups := fun claimed k => by rw [eng]; exact m.runups claimed k
      fires := fun claimed k =>
        { latch := by rw [fireOf, inFire]; exact (m.fires claimed k).latch
          bit := by rw [notices, inFire]; exact (m.fires claimed k).bit
          unmasked := by rw [notices]; exact (m.fires claimed k).unmasked
          request := by rw [light, inFire]; exact (m.fires claimed k).request
          lights := by rw [light, inFire]; exact (m.fires claimed k).lights
          sound := by rw [values, inFire]; exact (m.fires claimed k).sound
          engine := by rw [eng, inFire]; exact (m.fires claimed k).engine
          list := by rw [fireOf]; exact (m.fires claimed k).list
          fires := by rw [fireOf, inFire]; exact (m.fires claimed k).fires }
      shows := fun claimed k => (m.shows claimed k).of_eq (fun h _ => role h) (eng k) (fun h _ opened => by rwa [values] at opened)
        (.inl (values _))
      free := fun k claimed => (inFire k).trans (m.free k claimed) }

/-- A change of the loop unit, the order processor and the marks of sending. -/
theorem ofLoop (m : s.Meets c) (frame : { t with loop := s.loop, drive := s.drive, orders := s.orders } = s)
    (values : ∀ d, (t.entry d).value = (s.entry d).value)
    (bypass : c.lines → s.loop.bypass = (s.loop.state != .held) → t.loop.bypass = (t.loop.state != .held))
    (queues : c.queues → s.QueuesKept → t.QueuesKept) : t.Meets c :=
  m.ofRest (congrArg State.monitors frame :) (congrArg State.lamps frame :) (congrArg State.slots frame :)
    (congrArg State.engines frame :) (congrArg State.lights frame :) (congrArg (fun t => t.fire.house) frame :)
    (congrArg State.notices frame :) values bypass queues

/-- A change of tables and settings of which nothing is claimed. -/
theorem ofTables (m : s.Meets c) (monitors : t.monitors = s.monitors) (lamps : t.lamps = s.lamps) (slots : t.slots = s.slots)
    (engines : t.engines = s.engines) (lights : t.lights = s.lights) (house : t.fire.house = s.fire.house)
    (notices : t.notices = s.notices) (entries : t.drive.entries = s.drive.entries) (loop : t.loop = s.loop) : t.Meets c :=
  m.ofRest monitors lamps slots engines lights house notices (fun d => by rw [State.entry, entries]; rfl)
    (fun _ open_ => by rw [loop]; exact open_) fun _ kept =>
    ⟨by rw [loop]; exact kept.repeats, by rw [loop]; exact kept.transit, by rw [loop]; exact kept.fifo, by rw [loop]; exact kept.notices,
      by rw [loop]; exact kept.losses, by rw [loop]; exact kept.search, by rw [loop]; exact kept.held⟩

theorem setLoop (m : s.Meets c) {l : LoopUnit} (bypass : s.loop.bypass = (s.loop.state != .held) → l.bypass = (l.state != .held))
    (queues : c.queues → s.QueuesKept → (s.setLoop l).QueuesKept) : (s.setLoop l).Meets c :=
  m.ofLoop rfl (fun _ => rfl) (fun _ => bypass) queues

/-- A change of the loop unit's settings, timers and counters. -/
theorem tuneLoop (m : s.Meets c) {l : LoopUnit} (state : l.state = s.loop.state) (bypass : l.bypass = s.loop.bypass)
    (repeats : l.repeats = s.loop.repeats) (transit : l.transit = s.loop.transit) (losses : l.losses = s.loop.losses)
    (fifo : l.fifo = s.loop.fifo) : (s.setLoop l).Meets c :=
  m.setLoop (fun open_ => by rw [bypass, state]; exact open_) fun _ kept =>
    kept.of_eq repeats transit losses state fun bounded => by rw [LoopUnit.Bounded, State.setLoop_loop, fifo]; exact bounded

theorem setRestart (m : s.Meets c) (r : RestartWait) : (s.setRestart r).Meets c :=
  m.ofLoop rfl (fun _ => rfl) (fun _ => id) fun _ kept => { kept with }

theorem requestStart (m : s.Meets c) : s.requestStart.Meets c := by
  unfold State.requestStart
  split
  · exact m.setRestart _
  · exact m

theorem countLoop (m : s.Meets c) (f : LoopCounters → LoopCounters) : (s.countLoop f).Meets c := by
  unfold State.countLoop
  split
  · exact m
  · exact m.tuneLoop rfl rfl rfl rfl rfl rfl

end State.Meets

theorem State.makeRoom_quieted (s : State) : s.makeRoom.loop.quieted = s.loop.quieted := by
  unfold State.makeRoom State.requestStart State.countLoop
  dsimp only
  repeat' split
  all_goals rfl

theorem State.enqueue_quieted (s : State) (w : Waiting) : (s.enqueue w).loop.quieted = s.loop.quieted := s.makeRoom_quieted

/-- What the answer/notice FIFO and its counter leave of the loop unit. -/
theorem LoopUnit.quieted_fields {l l' : LoopUnit} (same : l.quieted = l'.quieted) :
    l.repeats = l'.repeats ∧ l.transit = l'.transit ∧ l.losses = l'.losses ∧ l.state = l'.state ∧ l.bypass = l'.bypass :=
  ⟨(congrArg LoopUnit.repeats same :), (congrArg LoopUnit.transit same :), (congrArg LoopUnit.losses same :),
    (congrArg LoopUnit.state same :), (congrArg LoopUnit.bypass same :)⟩

namespace State.Meets

/-- An ANSWER queued moves the FIFO, its drop counter and the restart wait. -/
theorem enqueueAnswer (m : s.Meets c) (dst : Byte) (p : List Byte) (named : Bool) : (s.enqueue (.answer dst p named)).Meets c := by
  obtain ⟨repeats, transit, losses, state, bypass⟩ := LoopUnit.quieted_fields (s.enqueue_quieted (.answer dst p named))
  refine m.ofLoop ?_ (fun d => ?_) (fun _ open_ => by rw [bypass, state]; exact open_) fun _ kept =>
    kept.of_eq repeats transit losses state fun bounded => State.enqueue_bounded bounded nofun
  · exact (congrArg (fun t : State => { t with drive := s.drive }) (s.enqueue_frame (.answer dst p named)) :)
  · rw [State.entry, State.enqueue_drive]; rfl

/-- The arbiter's one choice. -/
theorem arbitrate (m : s.Meets c) : s.arbitrate.Meets c := by
  obtain none | ⟨⟨held, -, -⟩, ⟨f, rest, repeats, starts⟩ | ⟨room, ⟨w, rest, fifo, starts⟩ | ⟨d, cls, since, -, starts⟩⟩⟩ := s.arbitrate_cases
  · rw [none]; exact m
  · rw [starts]
    refine m.setLoop id fun _ kept => { kept with repeats := ?_, held := fun out => absurd held out }
    have := kept.repeats
    rw [repeats] at this
    exact (Nat.le_succ _).trans this
  · rw [starts]
    refine m.ofLoop (congrArg (fun t : State => { t with drive := s.drive, orders := s.orders }) (s.startWaiting_frame w rest) :)
      (fun d => by rw [State.entry, State.startWaiting_drive]; rfl) (fun _ open_ => by cases w <;> exact open_) fun _ kept => ?_
    have length := kept.fifo
    have notices := kept.notices
    rw [fifo] at length notices
    have shorter := ((List.sublist_cons_self w rest).countP_le (p := Waiting.isNotice)).trans notices
    have search : s.loop.state ≠ .search := by rw [held]; nofun
    cases w <;> exact ⟨kept.repeats, by simpa [State.startWaiting, LoopUnit.originate] using room, (Nat.le_succ _).trans length, shorter, kept.losses,
      fun is => absurd is search, kept.held⟩
  · rw [starts]
    refine m.ofLoop rfl (fun d' => ?_) (fun _ => id) fun _ kept => ?_
    · rw [State.startDrive, State.setLoop_entry, State.setEntry_entry]
      split
      · rename_i same; rw [same]
      · rfl
    · have search : s.loop.state ≠ .search := by rw [held]; nofun
      exact ⟨kept.repeats, by simpa [State.startDrive, LoopUnit.originate] using room, kept.fifo, kept.notices, kept.losses,
        fun is => absurd is search, kept.held⟩

/-- A drive entry whose marks of sending or station change, its commanded value kept. -/
theorem setEntry (m : s.Meets c) (d : DriveId) {e : DriveEntry} (value : e.value = (s.entry d).value) : (s.setEntry d e).Meets c :=
  m.ofLoop rfl (fun d' => by rw [State.setEntry_entry]; split; (rename_i same; rw [same]; exact value); rfl) (fun _ => id) fun _ kept => { kept with }

theorem putBackNotice (m : s.Meets c) (n : NoticeContents) : (s.putBackNotice n).Meets c := by
  unfold State.putBackNotice
  split
  · exact m
  · rename_i none
    obtain ⟨repeats, transit, losses, state, bypass⟩ := LoopUnit.quieted_fields s.makeRoom_quieted
    have frame := s.enqueue_frame (.notice n)
    refine m.ofLoop (congrArg (fun t : State => { t with drive := s.drive }) frame :) (fun d => ?_)
      (fun _ open_ => by dsimp only; rw [State.setLoop_loop]; exact (bypass.trans open_).trans (by rw [state])) fun _ kept =>
      kept.of_eq repeats transit losses state fun bounded => ?_
    · exact congrArg (fun t : DriveTable => (t.entries.get (driveIndex d)).value) (s.enqueue_drive (.notice n))
    · have free : s.loop.fifo.countP Waiting.isNotice = 0 := List.countP_eq_zero.mpr fun w mem => by
        simp only [List.any_eq_true, not_exists, not_and] at none
        exact none w mem
      obtain ⟨room, notices⟩ := State.makeRoom_room bounded
      refine ⟨by simpa using Nat.lt_succ_of_le room, ?_⟩
      rw [State.setLoop_loop, List.countP_cons]
      have : s.makeRoom.loop.fifo.countP Waiting.isNotice = 0 := Nat.le_zero.mp (notices.trans_eq free)
      rw [this]
      exact le_of_eq (by rfl)

theorem abandon (m : s.Meets c) (x : Sending) : (s.abandon x).Meets c := by
  unfold State.abandon
  split
  · exact m
  · exact m
  · exact m.putBackNotice _
  · refine m.setEntry _ ?_
    unfold DriveEntry.abandoned
    split
    · rfl
    · split <;> rfl

/-- An entry to SEARCH empties the queues but the answer/notice FIFO, whatever stood in them (R12). -/
theorem enterSearchFrom (m : s.Meets { c with queues := False }) (bounded : c.queues → s.loop.Bounded) : s.enterSearch.Meets c := by
  have searching : (s.setLoop (s.loop.searching s.ms)).Meets c :=
    { m.setLoop (l := s.loop.searching s.ms) (fun _ => rfl) False.elim with
      queues := fun claimed => ⟨Nat.zero_le _, Nat.zero_le _, (bounded claimed).1, (bounded claimed).2, Nat.zero_le _, fun _ => ⟨rfl, rfl⟩, fun _ => rfl⟩ }
  unfold State.enterSearch
  dsimp only
  split
  · exact (searching.abandon _).requestStart
  · exact searching.requestStart

theorem withoutQueues (m : s.Meets c) : s.Meets { c with queues := False } := { m with queues := False.elim }

theorem enterSearch (m : s.Meets c) : s.enterSearch.Meets c :=
  m.withoutQueues.enterSearchFrom fun claimed => ⟨(m.queues claimed).fifo, (m.queues claimed).notices⟩

theorem dwellExpiry (m : s.Meets c) : s.dwellExpiry.Meets c := by
  unfold State.dwellExpiry
  dsimp only
  split
  · exact m.tuneLoop rfl rfl rfl rfl rfl rfl
  · exact m

theorem raiseLoop (m : s.Meets c) (code : Option Code) : (s.raise .loop .none code).Meets c :=
  m.raise .loop _ _ fun k => by cases k <;> nofun

theorem guardExpiry (m : s.Meets c) : s.guardExpiry.Meets c := by
  unfold State.guardExpiry
  split
  · exact m.enterSearch.raiseLoop _
  · exact m

end State.Meets

/-- The entries that a deadline leaves are the youngest of the list, and the losses stop at 3 (R20). -/
theorem expireTransit_bounds (ms : Nat) (l : List Transit) {losses : Nat} (le : losses ≤ 3) :
    (expireTransit ms l losses).1.length ≤ l.length ∧ (expireTransit ms l losses).2.1 ≤ 3 := by
  induction l generalizing losses with
  | nil => exact ⟨le_refl _, le⟩
  | cons t ts ih =>
    unfold expireTransit
    split
    · rename_i lost
      obtain ⟨shorter, stops⟩ := ih (Nat.succ_le_of_lt lost.1)
      exact ⟨shorter.trans (Nat.le_succ _), stops⟩
    · exact ⟨le_refl _, le⟩

namespace State.Meets

/-- The third loss enters SEARCH, where the list is empty and the count 0 (R20). -/
theorem returnExpiry (m : s.Meets c) : s.returnExpiry.Meets c := by
  unfold State.returnExpiry
  dsimp only
  set r := expireTransit s.ms s.loop.transit s.loop.losses with expired
  split
  · have lost : (s.setLoop { s.loop with transit := r.1, losses := r.2.1 }).Meets { c with queues := False } :=
      m.withoutQueues.setLoop id False.elim
    refine ((lost.countLoop _).enterSearchFrom fun claimed => ?_).raiseLoop _
    rw [LoopUnit.Bounded, State.countLoop_fifo]
    exact ⟨(m.queues claimed).fifo, (m.queues claimed).notices⟩
  · rename_i few
    refine (m.setLoop (l := { s.loop with transit := r.1, losses := r.2.1 }) id fun _ kept => ?_).countLoop _
    have le : s.loop.losses ≤ 3 := kept.losses.trans (by omega)
    obtain ⟨shorter, stops⟩ := expireTransit_bounds s.ms s.loop.transit le
    by_cases search : s.loop.state = .search
    · obtain ⟨empty, none⟩ := kept.search search
      have same : r = ([], 0, 0) := by rw [expired, empty, none]; rfl
      rw [same]
      exact ⟨kept.repeats, Nat.zero_le _, kept.fifo, kept.notices, Nat.zero_le _, fun _ => ⟨rfl, rfl⟩, kept.held⟩
    · exact ⟨kept.repeats, shorter.trans kept.transit, kept.fifo, kept.notices,
        Nat.le_of_lt_succ (not_le.mp fun three => few ⟨three, search⟩), fun is => absurd is search, kept.held⟩

theorem strip (m : s.Meets c) (f : Frame) : (s.strip f).Meets c := by
  unfold State.strip
  split
  · rename_i n _
    refine (m.setLoop (l := { s.loop with transit := s.loop.transit.drop (n + 1), losses := 0 }) id fun _ kept => { kept with
      transit := ?_, losses := Nat.zero_le _, search := fun is => ?_ }).countLoop _
    · rw [State.setLoop_loop, List.length_drop]; exact (Nat.sub_le _ _).trans kept.transit
    · exact ⟨by simp [(kept.search is).1], rfl⟩
  · exact (m.countLoop _).raiseLoop _

theorem joinRepeats (m : s.Meets c) (f : Frame) (held : s.loop.state = .held) : (s.joinRepeats f).Meets c := by
  unfold State.joinRepeats
  split
  · refine m.setLoop id fun _ kept => { kept with repeats := ?_, held := fun out => absurd held out }
    simpa using Nat.succ_le_of_lt ‹_›
  · exact m.countLoop _

variable (nofree : ∀ k, ¬ c.free k)

include nofree in
theorem route (m : s.Meets c) (f : Frame) (mayRepeat : Bool) {order : State → State} (keeps : ∀ t : State, t.Meets c → (order t).Meets c) :
    (s.route f mayRepeat order).Meets c := by
  have matched := m.matchFrame nofree f
  unfold State.route
  split
  · split
    · exact keeps s m
    · exact matched
  · dsimp only
    split
    · rename_i repeats
      simp only [Bool.and_eq_true, beq_iff_eq] at repeats
      refine matched.joinRepeats f ?_
      rw [(LoopUnit.quieted_fields (State.TablesKept.matchFrame s f).loop).2.2.2.1]
      exact repeats.1.2
    · exact matched

include nofree in
theorem arrive (m : s.Meets c) (f : Frame) (mayRepeat : Bool) {order : State → State} (keeps : ∀ t : State, t.Meets c → (order t).Meets c) :
    (s.arrive f mayRepeat order).Meets c := by
  have guarded : (s.setLoop { s.loop with guard := some (s.ms + s.loop.guardTime) }).Meets c := m.tuneLoop rfl rfl rfl rfl rfl rfl
  unfold State.arrive
  dsimp only
  split
  · exact guarded.strip f
  · exact guarded.route nofree f mayRepeat keeps

include nofree in
theorem goodTelegram (m : s.Meets c) (f : Frame) {order : State → State} (keeps : ∀ t : State, t.Meets c → (order t).Meets c) :
    (s.goodTelegram f order).Meets c := by
  unfold State.goodTelegram
  split
  · rename_i search
    refine State.Meets.arrive nofree (m.setLoop (fun _ => ?_) fun _ kept => ?_) f false keeps
    · unfold LoopUnit.lockedRate
      cases s.loop.latch <;> rfl
    · have empty : s.loop.repeats = [] := kept.held (by rw [search]; nofun)
      refine ⟨kept.repeats, kept.transit, kept.fifo, kept.notices, kept.losses, fun is => ?_, fun _ => empty⟩
      simp only [State.setLoop_loop, LoopUnit.lockedRate] at is
      cases latch : s.loop.latch <;> rw [latch] at is <;> cases is
  · exact m.arrive nofree f true keeps
  · exact m.arrive nofree f true keeps

theorem lengthError (m : s.Meets c) : s.lengthError.Meets c := by
  unfold State.lengthError
  split
  · exact m
  · exact (m.tuneLoop (l := { s.loop with rx := .ignoring }) rfl rfl rfl rfl rfl rfl).countLoop _

theorem lengthIdle (m : s.Meets c) : s.lengthIdle.Meets c := by
  unfold State.lengthIdle
  split
  · exact m.tuneLoop rfl rfl rfl rfl rfl rfl
  · exact m

theorem lineBreak (m : s.Meets c) (cause : BreakCause) : (s.lineBreak cause).Meets c := by
  unfold State.lineBreak
  split
  · exact m
  · exact (m.tuneLoop (l := { s.loop with rx := afterBreak cause }) rfl rfl rfl rfl rfl rfl).countLoop _

include nofree in
theorem receive (m : s.Meets c) (f : Frame) {order : State → State} (keeps : ∀ t : State, t.Meets c → (order t).Meets c) :
    (s.receive f order).Meets c := by
  have seeking : (s.setLoop { s.loop with rx := .seeking }).Meets c := m.tuneLoop rfl rfl rfl rfl rfl rfl
  unfold State.receive
  split
  · exact m
  · split
    · exact m.lengthError
    · dsimp only
      split
      · exact seeking.goodTelegram nofree f keeps
      · exact seeking.countLoop _

theorem moveToListen (m : s.Meets c) : s.moveToListen.Meets c :=
  (m.setLoop (l := { s.loop with state := .listen, bypass := true, repeats := [], leaveAwaiting := false }) (fun _ => rfl) fun _ kept =>
    ⟨Nat.zero_le _, kept.transit, kept.fifo, kept.notices, kept.losses, nofun, fun _ => rfl⟩).requestStart

theorem leaveRing (m : s.Meets c) : s.leaveRing.Meets c := by
  have latched : (s.setLoop { s.loop with latch := true }).Meets c := m.tuneLoop rfl rfl rfl rfl rfl rfl
  unfold State.leaveRing
  dsimp only
  split
  · split
    · exact latched.tuneLoop rfl rfl rfl rfl rfl rfl
    · exact latched.moveToListen
  · exact latched

theorem joinRing (m : s.Meets c) : s.joinRing.Meets c := by
  unfold State.joinRing
  dsimp only
  split
  · rename_i listen
    refine m.setLoop (fun _ => rfl) fun _ kept => { kept with search := nofun, held := fun out => absurd rfl out }
  · exact m.tuneLoop rfl rfl rfl rfl rfl rfl

theorem sendingDone (m : s.Meets c) (x : Sending) : (s.sendingDone x).Meets c := by
  unfold State.sendingDone
  split
  · exact m
  · exact m
  · split
    · exact m.requestStart
    · exact m
  · exact m.setEntry _ rfl

theorem lastByteSent (m : s.Meets c) : s.lastByteSent.Meets c := by
  have gap : (s.setLoop (s.loop.lastByte s.ms)).Meets c :=
    m.setLoop id fun _ kept => { kept with
      transit := by simpa [LoopUnit.lastByte] using kept.transit
      search := fun is => ⟨by simp [LoopUnit.lastByte, (kept.search is).1], (kept.search is).2⟩ }
  unfold State.lastByteSent
  dsimp only
  split
  · split
    · exact (gap.sendingDone _).moveToListen
    · exact gap.sendingDone _
  · exact m

theorem outFree (m : s.Meets c) : s.outFree.Meets c := by
  unfold State.outFree
  split
  · exact m.tuneLoop rfl rfl rfl rfl rfl rfl
  · exact m

theorem refresh (m : s.Meets c) (d : DriveId) : (s.refresh d).Meets c := by
  unfold State.refresh
  dsimp only
  split
  · exact m.setEntry d rfl
  · exact m

end State.Meets

end Sys2Proof.Machine
end

section
/-! SUPPORT. The orders and the effect of every command: what they leave of the tables, and what they keep of the conditions held at every
moment. -/

namespace Sys2Proof.Machine

variable {c : Claims} {s t u : State} {k : House} {h : Head}

/-! ### What the loop unit leaves -/

/-- Moments, the queue of commands, the lines of the start logic, the reaction table with its lock, and the programme are the same. -/
structure State.Beside (s t : State) : Prop where
  now : t.now = s.now
  pending : t.pending = s.pending
  starter : t.starter = s.starter
  table : t.matcher.table = s.matcher.table
  writeLock : t.matcher.writeLock = s.matcher.writeLock
  programme : t.programme = s.programme

theorem State.TablesKept.beside (a : s.TablesKept t) : s.Beside t := ⟨a.now, a.pending, a.starter, a.table, a.writeLock, a.programme⟩

theorem State.Local.beside (a : State.Local k s t) : s.Beside t := a.tablesKept.beside

namespace State.Beside

theorem refl (s : State) : s.Beside s := ⟨rfl, rfl, rfl, rfl, rfl, rfl⟩

theorem trans (a : s.Beside t) (b : t.Beside u) : s.Beside u :=
  ⟨b.now.trans a.now, b.pending.trans a.pending, b.starter.trans a.starter, b.table.trans a.table, b.writeLock.trans a.writeLock,
    b.programme.trans a.programme⟩

theorem ite_ {p : Prop} [Decidable p] (a : s.Beside t) (b : s.Beside u) : s.Beside (if p then t else u) := by
  split
  · exact a
  · exact b

theorem setLoop (s : State) (l : LoopUnit) : s.Beside (s.setLoop l) := ⟨rfl, rfl, rfl, rfl, rfl, rfl⟩
theorem setEntry (s : State) (d : DriveId) (e : DriveEntry) : s.Beside (s.setEntry d e) := ⟨rfl, rfl, rfl, rfl, rfl, rfl⟩
theorem setRestart (s : State) (r : RestartWait) : s.Beside (s.setRestart r) := ⟨rfl, rfl, rfl, rfl, rfl, rfl⟩
theorem setNotices (s : State) (n : NoticeUnit) : s.Beside (s.setNotices n) := ⟨rfl, rfl, rfl, rfl, rfl, rfl⟩
theorem countLoop (s : State) (f : LoopCounters → LoopCounters) : s.Beside (s.countLoop f) := ite_ (refl s) (setLoop s _)
theorem requestStart (s : State) : s.Beside s.requestStart := ite_ (setRestart s _) (refl s)
theorem enqueue (s : State) (w : Waiting) : s.Beside (s.enqueue w) := (State.Local.enqueue .one s w).beside
theorem raise (s : State) (e : Event) (x : Cause) (code : Option Code) : s.Beside (s.raise e x code) := (State.Local.raise .one s e x code).beside

theorem abandon (s : State) (x : Sending) : s.Beside (s.abandon x) := by
  unfold State.abandon
  split
  · exact refl s
  · exact refl s
  · exact ite_ (refl s) (((State.Local.makeRoom .one s).beside).trans (setLoop _ _))
  · exact setEntry s _ _

theorem enterSearch (s : State) : s.Beside s.enterSearch := by
  have searching : s.Beside (s.setLoop (s.loop.searching s.ms)) := setLoop s _
  unfold State.enterSearch
  dsimp only
  split
  · exact (searching.trans (abandon _ _)).trans (requestStart _)
  · exact searching.trans (requestStart _)

theorem guardExpiry (s : State) : s.Beside s.guardExpiry := ite_ ((enterSearch s).trans (raise _ _ _ _)) (refl s)

theorem returnExpiry (s : State) : s.Beside s.returnExpiry :=
  have lost := (setLoop s _).trans (countLoop (s.setLoop _) _)
  ite_ ((lost.trans (enterSearch _)).trans (raise _ _ _ _)) lost

theorem strip (s : State) (f : Frame) : s.Beside (s.strip f) := by
  unfold State.strip
  split
  · exact (setLoop s _).trans (countLoop _ _)
  · exact (countLoop s _).trans (raise _ _ _ _)

theorem joinRepeats (s : State) (f : Frame) : s.Beside (s.joinRepeats f) := ite_ (setLoop s _) (countLoop s _)

theorem lengthError (s : State) : s.Beside s.lengthError := by
  unfold State.lengthError
  split
  · exact refl s
  · exact (setLoop s _).trans (countLoop _ _)

theorem lengthIdle (s : State) : s.Beside s.lengthIdle := by
  unfold State.lengthIdle
  split
  · exact setLoop s _
  · exact refl s

theorem lineBreak (s : State) (x : BreakCause) : s.Beside (s.lineBreak x) := by
  unfold State.lineBreak
  split
  · exact refl s
  · exact (setLoop s _).trans (countLoop _ _)

theorem moveToListen (s : State) : s.Beside s.moveToListen := (setLoop s _).trans (requestStart _)

theorem leaveRing (s : State) : s.Beside s.leaveRing := by
  have latched : s.Beside (s.setLoop { s.loop with latch := true }) := setLoop s _
  unfold State.leaveRing
  dsimp only
  split
  · split
    · exact latched.trans (setLoop _ _)
    · exact latched.trans (moveToListen _)
  · exact latched

theorem joinRing (s : State) : s.Beside s.joinRing := by
  unfold State.joinRing
  dsimp only
  split
  · exact setLoop s _
  · exact setLoop s _

theorem lastByteSent (s : State) : s.Beside s.lastByteSent := by
  have done : ∀ t x, State.Beside t (t.sendingDone x) := fun t x => by
    unfold State.sendingDone
    split
    · exact refl t
    · exact refl t
    · exact ite_ (requestStart t) (refl t)
    · exact setEntry t _ _
  unfold State.lastByteSent
  split
  · rename_i x _
    have sent := (setLoop s (s.loop.lastByte s.ms)).trans (done _ x)
    exact ite_ (sent.trans (moveToListen _)) sent
  · exact refl s

theorem outFree (s : State) : s.Beside s.outFree := by
  unfold State.outFree
  split
  · exact setLoop s _
  · exact refl s

theorem refresh (s : State) (d : DriveId) : s.Beside (s.refresh d) := ite_ (setEntry s _ _) (refl s)

theorem setPanel (s : State) (p : Panel) : s.Beside { s with panel := p } := ⟨rfl, rfl, rfl, rfl, rfl, rfl⟩

theorem panelExpiry (s : State) : s.Beside s.panelExpiry := ite_ ((setPanel s _).trans (raise _ _ _ _)) (refl s)

end State.Beside

/-! ### Reception -/

/-- A telegram received moves the loop unit and is delivered, or it is an order, made in the state as it stood but for the loop unit. -/
theorem State.receive_cases (s : State) (f : Frame) (order : State → State) :
    s.Beside (s.receive f order) ∨ ∃ l, s.receive f order = order (s.setLoop l) := by
  have matched : ∀ l, s.Beside ((s.setLoop l).matchFrame f).1 := fun l =>
    (State.Beside.setLoop s l).trans (State.TablesKept.matchFrame (s.setLoop l) f).beside
  have arrives : ∀ l b, s.Beside ((s.setLoop l).arrive f b order) ∨ ∃ l', (s.setLoop l).arrive f b order = order (s.setLoop l') := fun l b => by
    unfold State.arrive
    dsimp only
    split
    · exact .inl ((State.Beside.setLoop s l).trans ((State.Beside.setLoop _ _).trans (.strip _ f)))
    · unfold State.route
      split
      · split
        · exact .inr ⟨_, rfl⟩
        · exact .inl (matched _)
      · exact .inl (.ite_ ((matched _).trans (.joinRepeats _ f)) (matched _))
  unfold State.receive
  split
  · exact .inl (.refl s)
  · split
    · exact .inl (.lengthError s)
    · dsimp only
      split
      · unfold State.goodTelegram
        split
        · exact arrives _ _
        · exact arrives _ _
        · exact arrives _ _
      · exact .inl ((State.Beside.setLoop s _).trans (.countLoop _ _))

/-! ### The orders -/

/-- A READ changes nothing but the free values drawn and a partial triple (R150, R184). -/
theorem judgeRead_state (sec a b page : Byte) (s : State) :
    (judgeRead sec a b page s).1 = s ∨ (judgeRead sec a b page s).1 = { s with freeCount := s.freeCount + 1 } ∨
      ∃ k, (judgeRead sec a b page s).1 = s.discardPartial k := by
  unfold judgeRead
  split
  case h_2 =>
    unfold judgeReadMap
    dsimp only
    split
    · exact .inr (.inl rfl)
    · exact .inl rfl
  case h_6 =>
    unfold judgeReadCurve
    split
    · dsimp only
      split
      · exact .inr (.inr ⟨_, rfl⟩)
      · exact .inl rfl
    · exact .inl rfl
  all_goals exact .inl rfl

/-- All the counters set to 0, head by head and house by house (R189). -/
theorem State.clearCounters_eq (s : State) :
    s.clearCounters =
      (let t : State := { s.setLoop { s.loop with counters := LoopCounters.zero } with
        matcher := { s.matcher with counts := Table.replicate 32 0, malformed := 0 } }
      let clear := fun (t : State) (h : Head) => t.setMon h { t.mon h with overspeed := 0 }
      let still := fun (t : State) (k : House) => t.setEng k { t.eng k with stray := 0 }
      still (still (clear (clear (clear (clear t .h1) .h2) .h3) .h4) .one) .two) := rfl

/-! #### SHOW -/

/-- SHOW makes one of the functions of a house or a head, with the partial triple discarded after a light function. -/
theorem judgeShow_cases (fn target : Byte) (start : Option Byte) (s : State) {P : State → Prop} (same : P s)
    (arm : ∀ k i, P (s.arm k i).1) (starts : ∀ k, P (s.start k).1) (change : ∀ k, P (s.change k).1) (halt : ∀ k, P (s.haltFunction k).1)
    (resume : ∀ k, P (s.resume k).1) (up : ∀ k, P ((s.lightsUp k).discardPartial k)) (down : ∀ k, P ((s.lightsDown k).discardPartial k))
    (auto : ∀ k, P ((s.lightsAuto k).discardPartial k)) (thread : ∀ h, P (s.thread h).1) (strike : ∀ h, P (s.strikeRequest h))
    (drop : ∀ k, P (s.fireDrop k)) (reset : ∀ k, P (s.fireReset k).1) : P (judgeShow fn target start s).1 := by
  have house : ∀ run : House → State → State × Result, (∀ k, P (run k s).1) → P (houseShow target start run s).1 := fun run each => by
    unfold houseShow
    split
    · exact same
    · split
      · exact same
      · exact each _
  have head : ∀ run : Head → State → State × Result, (∀ h, P (run h s).1) → P (headShow target start run s).1 := fun run each => by
    unfold headShow
    split
    · exact same
    · split
      · exact same
      · exact each _
  unfold judgeShow
  split
  · unfold judgeArm
    split
    · exact same
    · exact arm _ _
  · exact house _ starts
  · exact house _ change
  · exact house _ halt
  · exact house _ resume
  · exact house _ up
  · exact house _ down
  · exact house _ auto
  · exact head _ thread
  · refine head _ fun h => ?_
    split
    · exact same
    · exact strike h
  · exact house _ drop
  · exact house _ reset
  · exact same

/-! #### SETUP -/

/-- SETUP changes one setting of the part, of a head, of an engine or of a light unit, or the service flag, or nothing. -/
theorem judgeSetup_cases (item index : Byte) (value : Word) (s : State) {P : State → Prop} (same : P s)
    (loop : ∀ l, l.state = s.loop.state → l.bypass = s.loop.bypass → l.repeats = s.loop.repeats → l.transit = s.loop.transit →
      l.losses = s.loop.losses → l.fifo = s.loop.fifo → P (s.setLoop l))
    (period : ∀ v, P { s with drive := { s.drive with refreshPeriod := v } }) (service : ∀ h v, P (s.setService h v))
    (mon : ∀ h m, m.hold = (s.mon h).hold → m.motion = (s.mon h).motion → m.inService = (s.mon h).inService → P (s.setMon h m))
    (eng : ∀ k e, e.state = (s.eng k).state → e.runup = (s.eng k).runup → e.changePending = (s.eng k).changePending →
      e.changeTaken = (s.eng k).changeTaken → e.highest = (s.eng k).highest → P (s.setEng k e))
    (light : ∀ k l, l.requests = (s.light k).requests → l.position = (s.light k).position → l.fade = (s.light k).fade →
      P ((s.setLight k l).discardPartial k))
    (hold : ∀ v, P { s with fire := { s.fire with holdTime := v } })
    (window : ∀ v, P { s with fire := { s.fire with confirmWindow := v } })
    (panel : ∀ v, P { s with panel := { s.panel with guardTime := v } })
    (quiet : ∀ v, P (s.setNotices { s.notices with quietTime := v })) : P (judgeSetup item index value s).1 := by
  have heads : ∀ lo hi put, (∀ v m, (put v m : Monitor).hold = m.hold ∧ (put v m).motion = m.motion ∧ (put v m).inService = m.inService) →
      P (setHeadValue lo hi index value put s).1 := fun lo hi put keeps => by
    unfold setHeadValue
    split
    · exact same
    · exact mon _ _ (keeps _ _).1 (keeps _ _).2.1 (keeps _ _).2.2
  have engines : ∀ lo hi put, (∀ v e, (put v e : Engine).state = e.state ∧ (put v e).runup = e.runup ∧ (put v e).changePending = e.changePending ∧
      (put v e).changeTaken = e.changeTaken ∧ (put v e).highest = e.highest) →
      P (setEngineValue lo hi index value put s).1 := fun lo hi put keeps => by
    unfold setEngineValue
    split
    · exact same
    · obtain ⟨state, runup, pending, taken, highest⟩ := keeps (tuned lo hi value.toNat).1 (s.eng ‹House›)
      exact eng _ _ state runup pending taken highest
  have lights : ∀ put, (∀ v l, (put v l : LightUnit).requests = l.requests ∧ (put v l).position = l.position ∧ (put v l).fade = l.fade) →
      P (setLightValue index value put s).1 := fun put keeps => by
    unfold setLightValue
    split
    · exact same
    · exact light _ _ (keeps _ _).1 (keeps _ _).2.1 (keeps _ _).2.2
  unfold judgeSetup
  split
  · exact loop _ rfl rfl rfl rfl rfl rfl
  · exact loop _ rfl rfl rfl rfl rfl rfl
  · exact period _
  · unfold judgeSetupConsole
    split
    · exact loop _ rfl rfl rfl rfl rfl rfl
    · exact same
  · unfold judgeSetupService
    split
    · exact same
    · split
      · exact same
      · exact service _ _
  · exact heads _ _ _ fun _ _ => ⟨rfl, rfl, rfl⟩
  · exact heads _ _ _ fun _ _ => ⟨rfl, rfl, rfl⟩
  · exact heads _ _ _ fun _ _ => ⟨rfl, rfl, rfl⟩
  · exact engines _ _ _ fun _ _ => ⟨rfl, rfl, rfl, rfl, rfl⟩
  · exact engines _ _ _ fun _ _ => ⟨rfl, rfl, rfl, rfl, rfl⟩
  · exact engines _ _ _ fun _ _ => ⟨rfl, rfl, rfl, rfl, rfl⟩
  · exact lights _ fun _ _ => ⟨rfl, rfl, rfl⟩
  · exact lights _ fun _ _ => ⟨rfl, rfl, rfl⟩
  · exact lights _ fun _ _ => ⟨rfl, rfl, rfl⟩
  · exact lights _ fun _ _ => ⟨rfl, rfl, rfl⟩
  · exact lights _ fun _ _ => ⟨rfl, rfl, rfl⟩
  · unfold judgeSetupHold
    split
    · exact same
    · exact hold _
  · unfold judgeSetupWindow
    split
    · exact same
    · exact window _
  · exact panel _
  · exact quiet _
  · exact same

end Sys2Proof.Machine
end

section
/-! SUPPORT. What every order and every command's effect keeps of the conditions held at every moment and leaves of the tables. -/

namespace Sys2Proof.Machine

variable {c : Claims} {s t : State} {k : House} {h : Head}

namespace State.Meets

variable (nofree : ∀ k, ¬ c.free k)

theorem discardPartial (m : s.Meets c) (k : House) : (s.discardPartial k).Meets c := m.setLight rfl rfl rfl

theorem judgeRead (m : s.Meets c) (sec a b page : Byte) : (Machine.judgeRead sec a b page s).1.Meets c := by
  obtain same | drawn | ⟨k, discarded⟩ := judgeRead_state sec a b page s
  · rw [same]; exact m
  · rw [drawn]; exact m.ofTables rfl rfl rfl rfl rfl rfl rfl rfl rfl
  · rw [discarded]; exact m.discardPartial k

include nofree in
theorem judgeShow (m : s.Meets c) (fn target : Byte) (start : Option Byte) : (Machine.judgeShow fn target start s).1.Meets c :=
  judgeShow_cases fn target start s m (fun k i => m.arm k i) (fun k => m.start k) (fun k => m.change k) (fun k => m.haltFunction k)
    (fun k => m.resume k) (fun k => (m.lightsUp k).discardPartial k) (fun k => (m.lightsDown k).discardPartial k)
    (fun k => (m.lightsAuto k).discardPartial k) (fun h => m.thread h) (fun h => m.strikeRequest h) (fun k => m.fireDrop nofree k)
    fun k => m.fireReset k

theorem judgeSetup (m : s.Meets c) (item index : Byte) (value : Word) : (Machine.judgeSetup item index value s).1.Meets c :=
  judgeSetup_cases item index value s m (fun _ => m.tuneLoop) (fun _ => m.ofTables rfl rfl rfl rfl rfl rfl rfl rfl rfl)
    (fun h v => m.setService h v) (fun _ _ => m.setMon)
    (fun _ _ state runup pending taken _ => m.setMarks state runup fun calm => by rw [pending, taken]; exact calm)
    (fun k _ requests position fade => (m.setLight requests position fade).discardPartial k)
    (fun _ => m.ofTables rfl rfl rfl rfl rfl rfl rfl rfl rfl) (fun _ => m.ofTables rfl rfl rfl rfl rfl rfl rfl rfl rfl)
    (fun _ => m.setPanel _) fun v => m.setQuiet v

theorem clearCounters (m : s.Meets c) : s.clearCounters.Meets c := by
  have clear : ∀ {t : State} h, t.Meets c → (t.setMon h { t.mon h with overspeed := 0 }).Meets c := fun h m => m.setMon rfl rfl rfl
  have still : ∀ {t : State} k, t.Meets c → (t.setEng k { t.eng k with stray := 0 }).Meets c := fun k m => m.setMarks rfl rfl id
  have loop : (s.setLoop { s.loop with counters := LoopCounters.zero }).Meets c := m.tuneLoop rfl rfl rfl rfl rfl rfl
  rw [State.clearCounters_eq]
  exact still .two (still .one (clear .h4 (clear .h3 (clear .h2 (clear .h1 (loop.setMatcher _))))))

theorem judgeCurveData (m : s.Meets c) (k : House) (bytes : List Byte) : (Machine.judgeCurveData k bytes s).1.Meets c := by
  unfold Machine.judgeCurveData
  split
  · dsimp only
    clear * - m
    induction bytes generalizing s with
    | nil => exact m
    | cons b bytes ih => exact ih (m.curveByte k b)
  · exact m

include nofree in
theorem judgeOrder (m : s.Meets c) (o : Order) : (Machine.judgeOrder o s).1.Meets c := by
  unfold Machine.judgeOrder
  split
  · exact m.judgeRead ..
  · unfold judgeWriteReact
    split
    · exact m
    · split
      · exact m
      · split
        · exact m
        · exact m.setMatcher _
  · unfold judgeWriteMap
    split
    · exact m
    · split
      · exact m.setEntry _ rfl
      · exact m
  · unfold judgeWriteReel
    split
    · exact m
    · dsimp only
      split
      · exact m
      · split
        · exact m.ofTables rfl rfl rfl rfl rfl rfl rfl rfl rfl
        · split
          · exact m.ofTables rfl rfl rfl rfl rfl rfl rfl rfl rfl
          · exact m
  · exact m.judgeWriteLamp ..
  · exact m.judgeSetup ..
  · unfold judgeCurvePoint
    split
    · exact m.setLight rfl rfl rfl
    · exact m
  · exact m.judgeCurveData ..
  · exact m.judgeTrim ..
  · unfold judgeSplit
    dsimp only
    split
    · exact m
    · split
      · exact m
      · split
        · exact m
        · split
          · exact m
          · exact m.ofTables rfl rfl rfl rfl rfl rfl rfl rfl rfl
  · unfold judgeAddress
    split
    · exact m
    · split
      · exact m
      · split
        · exact m
        · exact m.ofTables rfl rfl rfl rfl rfl rfl rfl rfl rfl
  · exact m.setMatcher _
  · exact m.judgeShow nofree ..
  · exact m.acknowledge _
  · exact m.endOfAlert
  · exact m.setMask _
  · exact m.leaveRing
  · exact m.joinRing
  · exact m.clearCounters
  · exact m
  · exact m

include nofree in
theorem takeOrder (m : s.Meets c) (src : Byte) (o : Order) : (Machine.takeOrder src o s).Meets c := by
  unfold Machine.takeOrder
  split
  · unfold takeRestart
    dsimp only
    split
    · split
      · exact (m.enqueueAnswer ..).setRestart _
      · exact (m.enqueueAnswer ..).setRestart _
    · exact m.enqueueAnswer ..
  · exact (m.judgeOrder nofree _).enqueueAnswer ..

theorem elapse (m : s.Meets c) (dt : Nat) : (s.elapse dt).Meets c := m.ofTables rfl rfl rfl rfl rfl rfl rfl rfl rfl

theorem withLines (m : s.Meets c) (i : Instr) : (s.withLines i).Meets c := by
  cases i <;> exact m.ofTables rfl rfl rfl rfl rfl rfl rfl rfl rfl

end State.Meets

/-- The effect of every command: a reception, a timer of the loop unit, or an event of one head, one house, the panel or the notices. -/
theorem effect_cases {i : Instr} {dt : Nat} {f : State → State} (effect : commandEffect i = some (dt, f)) {P : (State → State) → Prop}
    (receive : ∀ (frame : State → Frame) src o, P fun t => t.receive (frame t) (takeOrder src o)) (lineBreak : ∀ x, P fun t => t.lineBreak x)
    (lengthError : P State.lengthError) (lengthIdle : P State.lengthIdle) (dwell : P State.dwellExpiry) (guard : P State.guardExpiry)
    (returns : P State.returnExpiry) (outFree : P State.outFree) (lastByte : P State.lastByteSent) (refresh : ∀ d, P fun t => t.refresh d)
    (pulse : ∀ h, P fun t => t.pulse h) (slow : ∀ h, P fun t => t.slowExpiry h) (stop : ∀ h, P fun t => t.stopExpiry h)
    (idle : ∀ h, P fun t => t.idleExpiry h) (strike : ∀ h, P fun t => t.strikeExpiry h) (stale : ∀ h, P fun t => t.staleExpiry h)
    (runup : ∀ k, P fun t => t.runupExpiry k) (fade : ∀ k, P fun t => t.fadeStep k) (link : ∀ k b, P fun t => t.linkLevel k b)
    (detector : ∀ k x, P fun t => t.detectorExpiry k x) (panel : P State.panelExpiry) (quiet : P State.quietExpiry) : P f := by
  cases i <;> cases effect
  case lineBreak => exact lineBreak _
  case lengthError => exact lengthError
  case lengthIdleEnd => exact lengthIdle
  case searchDwellExpiry => exact dwell
  case loopGuardExpiry => exact guard
  case returnDeadlineExpiry => exact returns
  case loopOutFree => exact outFree
  case lastByteSent => exact lastByte
  case refreshDue => exact refresh _
  case framePulse => exact pulse _
  case slowTimerExpiry => exact slow _
  case stopTimerExpiry => exact stop _
  case idleTimerExpiry => exact idle _
  case strikeTimerExpiry => exact strike _
  case staleTimerExpiry => exact stale _
  case runupDeadlineExpiry => exact runup _
  case fadeStep => exact fade _
  case linkChange => exact link _ _
  case detectorExpiry => exact detector _ _
  case panelGuardExpiry => exact panel
  case quietTimerExpiry => exact quiet
  case telegramComplete f => exact receive (fun _ => f) _ _
  case unknownOrder src payload => exact receive (fun t => t.orderFrame src payload) _ _
  all_goals exact receive (fun t => t.orderFrame _ (encodeOrder _)) _ _

namespace State.Meets

/-- The effect of every command keeps the conditions held at every moment. -/
theorem effect (nofree : ∀ k, ¬ c.free k) {i : Instr} {dt : Nat} {f : State → State} (effect : commandEffect i = some (dt, f)) (m : s.Meets c) :
    (f s).Meets c :=
  effect_cases effect (P := fun f => (f s).Meets c) (fun _ src o => m.receive nofree _ fun _ m => m.takeOrder nofree src o) (fun x => m.lineBreak x)
    m.lengthError m.lengthIdle m.dwellExpiry m.guardExpiry m.returnExpiry m.outFree m.lastByteSent (fun d => m.refresh d) (fun h => m.pulse h)
    (fun h => m.slowExpiry h) (fun h => m.stopExpiry h) (fun h => m.idleExpiry h) (fun h => m.strikeExpiry h) (fun h => m.staleExpiry h)
    (fun k => m.runupExpiry k) (fun k => m.fadeStep k) (fun k b => m.linkLevel nofree k b) (fun k x => m.detectorExpiry k x) m.panelExpiry
    m.quietExpiry

end State.Meets

/-! ### What the orders leave of the tables -/

namespace State.Beside

theorem discardPartial (k : House) (s : State) : s.Beside (s.discardPartial k) := (State.Local.discardPartial k s).beside

theorem judgeRead (sec a b page : Byte) (s : State) : s.Beside (Machine.judgeRead sec a b page s).1 := by
  obtain same | drawn | ⟨k, discarded⟩ := judgeRead_state sec a b page s
  · rw [same]; exact refl s
  · rw [drawn]; exact ⟨rfl, rfl, rfl, rfl, rfl, rfl⟩
  · rw [discarded]; exact discardPartial k s

theorem judgeShow (fn target : Byte) (start : Option Byte) (s : State) : s.Beside (Machine.judgeShow fn target start s).1 :=
  judgeShow_cases fn target start s (P := fun t => s.Beside t) (refl s) (fun k i => (State.Local.arm k s i).beside)
    (fun k => (State.Local.start k s).beside) (fun k => (State.Local.change k s).beside) (fun k => (State.Local.haltFunction k s).beside)
    (fun k => (State.Local.resume k s).beside) (fun k => (State.Local.lightsUp k s).beside.trans (discardPartial k _))
    (fun k => (State.Local.lightsDown k s).beside.trans (discardPartial k _))
    (fun k => (State.Local.lightsAuto k s).beside.trans (discardPartial k _)) (fun h => (State.Local.thread s h).beside)
    (fun h => (State.Local.strikeRequest s (h := h) rfl).beside) (fun k => (State.Local.dropHouse k s _).beside)
    fun k => (State.Local.fireReset k s).beside

theorem judgeSetup (item index : Byte) (value : Word) (s : State) : s.Beside (Machine.judgeSetup item index value s).1 :=
  judgeSetup_cases item index value s (P := fun t => s.Beside t) (refl s) (fun _ _ _ _ _ _ _ => setLoop s _)
    (fun _ => ⟨rfl, rfl, rfl, rfl, rfl, rfl⟩) (fun h v => (State.Local.setService s h v).beside)
    (fun h _ _ _ _ => (State.Local.setMonAt s h _).beside) (fun k _ _ _ _ _ _ => (State.Local.setEng s k _).beside)
    (fun k _ _ _ _ => (State.Local.setLight s k _).beside.trans (discardPartial k _)) (fun _ => ⟨rfl, rfl, rfl, rfl, rfl, rfl⟩)
    (fun _ => ⟨rfl, rfl, rfl, rfl, rfl, rfl⟩) (fun _ => setPanel s _) fun _ => setNotices s _

end State.Beside

theorem State.Local.judgeWriteLamp (head item : Byte) (value : Word) (s : State) :
    (Machine.judgeWriteLamp head item value s).1 = s ∨
      ∃ h, headOf head = some h ∧ State.Local h.house s (Machine.judgeWriteLamp head item value s).1 := by
  unfold Machine.judgeWriteLamp
  split
  · exact .inl rfl
  · rename_i h found
    dsimp only
    split
    · exact .inl rfl
    · split
      · exact .inr ⟨h, found, .writeFmax s h _⟩
      · exact .inr ⟨h, found, .setLampAt s h _⟩

theorem State.Local.judgeTrim (head : Byte) (length : Option Word) (s : State) :
    (Machine.judgeTrim head length s).1 = s ∨
      ∃ h, headOf head = some h ∧ State.Local h.house s (Machine.judgeTrim head length s).1 := by
  unfold Machine.judgeTrim
  split
  · exact .inl rfl
  · rename_i h found
    dsimp only
    split
    · exact .inl rfl
    · exact .inl rfl
    · exact .inr ⟨h, found, .setLampAt s h _⟩

theorem State.Local.judgeCurveData (k : House) (bytes : List Byte) (s : State) :
    State.Local k s (Machine.judgeCurveData k bytes s).1 := by
  unfold Machine.judgeCurveData
  split
  · dsimp only
    clear * -
    induction bytes generalizing s with
    | nil => exact .refl k s
    | cons b bytes ih => exact (State.Local.curveByte k s b).trans (ih _)
  · exact .refl k s

/-- The four orders that move the tables: WRITE REACT, LOCK, WRITE REEL and SPLIT. -/
def movesTables : Order → Bool
  | .writeReact _ => true
  | .lock => true
  | .writeReel _ => true
  | .splitPoint _ => true
  | _ => false

/-- Every other order leaves the tables. -/
theorem State.Beside.judgeOrder {o : Order} (other : movesTables o = false) (s : State) : s.Beside (Machine.judgeOrder o s).1 := by
  unfold Machine.judgeOrder
  split
  case h_1 => exact .judgeRead ..
  case h_2 => cases other
  case h_3 =>
    unfold judgeWriteMap
    split
    · exact .refl s
    · split
      · exact .setEntry s _ _
      · exact .refl s
  case h_4 => cases other
  case h_5 head item v =>
    obtain same | ⟨_, -, l⟩ := State.Local.judgeWriteLamp head item v s
    · rw [same]; exact .refl s
    · exact l.beside
  case h_6 => exact .judgeSetup ..
  case h_7 =>
    unfold judgeCurvePoint
    split
    · exact (State.Local.setLight s _ _).beside
    · exact .refl s
  case h_8 => exact (State.Local.judgeCurveData ..).beside
  case h_9 head n =>
    obtain same | ⟨_, -, l⟩ := State.Local.judgeTrim head n s
    · rw [same]; exact .refl s
    · exact l.beside
  case h_10 => cases other
  case h_11 =>
    unfold judgeAddress
    split
    · exact .refl s
    · split
      · exact .refl s
      · split
        · exact .refl s
        · exact ⟨rfl, rfl, rfl, rfl, rfl, rfl⟩
  case h_12 => cases other
  case h_13 => exact .judgeShow ..
  case h_14 => exact .setNotices s _
  case h_15 => exact .setNotices s _
  case h_16 => exact .setNotices s _
  case h_17 => exact .leaveRing s
  case h_18 => exact .joinRing s
  case h_19 => exact ⟨rfl, rfl, rfl, rfl, rfl, rfl⟩
  case h_20 => exact .refl s
  case h_21 => exact .refl s

theorem State.Beside.takeRestart (src : Byte) (s : State) : s.Beside (Machine.takeRestart src s) := by
  unfold Machine.takeRestart
  dsimp only
  split
  · split
    · exact (State.Beside.enqueue s _).trans (.setRestart _ _)
    · exact (State.Beside.enqueue s _).trans (.setRestart _ _)
  · exact .enqueue s _

/-- An order taken leaves what its judgement leaves. -/
theorem takeOrder_beside (src : Byte) (o : Order) (s : State) :
    s.Beside (takeOrder src o s) ∨ State.Beside (judgeOrder o s).1 (takeOrder src o s) := by
  unfold takeOrder
  split
  · exact .inl (.takeRestart src s)
  · exact .inr (.enqueue _ _)

theorem State.Beside.runupExpiry (k : House) (s : State) : s.Beside (s.runupExpiry k) := by
  unfold State.runupExpiry
  split
  · exact .refl s
  · rename_i r _
    refine .ite_ ?_ (.refl s)
    have ended := ((State.Local.writeDrive s (d := .motor r.head) (.motor false) rfl).trans (.raise _ _ _ _ _)).beside.trans
      (State.Local.runupIdle k ((s.writeDrive (.motor r.head) (.motor false)).raise .runupFail (.head r.head) (some r.purpose.toCode))).beside
    exact .ite_ (ended.trans (State.Local.setRole _ _ rfl).beside) ended

/-- The effect of every command leaves the tables, or takes an order that moves them in the state as it stood but for the loop unit. -/
theorem effect_tables {i : Instr} {dt : Nat} {f : State → State} (effect : commandEffect i = some (dt, f)) (s : State) :
    s.Beside (f s) ∨ ∃ l o, movesTables o = true ∧ State.Beside (judgeOrder o (s.setLoop l)).1 (f s) := by
  refine effect_cases effect (P := fun f => s.Beside (f s) ∨ ∃ l o, movesTables o = true ∧ State.Beside (judgeOrder o (s.setLoop l)).1 (f s))
    (fun frame src o => ?_) (fun x => .inl (.lineBreak s x)) (.inl (.lengthError s)) (.inl (.lengthIdle s)) (.inl ?_) (.inl (.guardExpiry s))
    (.inl (.returnExpiry s)) (.inl (.outFree s)) (.inl (.lastByteSent s)) (fun d => .inl (.refresh s d))
    (fun h => .inl (State.Local.pulse s h).beside) (fun h => .inl (State.Local.slowExpiry s h).beside)
    (fun h => .inl (State.Local.stopExpiry s h).beside) (fun h => .inl (State.Local.idleExpiry s h).beside)
    (fun h => .inl (State.Local.strikeExpiry s h).beside) (fun h => .inl (State.Local.staleExpiry s h).beside)
    (fun k => .inl (.runupExpiry k s)) (fun k => .inl (State.Local.fadeStep k s).beside)
    (fun k b => .inl (State.Local.linkLevel k s b).beside) (fun k x => .inl (State.Local.detectorExpiry k s x).beside)
    (.inl (.panelExpiry s)) (.inl ?_)
  · dsimp only
    obtain kept | ⟨l, taken⟩ := s.receive_cases (frame s) (takeOrder src o)
    · exact .inl kept
    · rw [taken]
      obtain direct | judged := takeOrder_beside src o (s.setLoop l)
      · exact .inl ((State.Beside.setLoop s l).trans direct)
      · cases moves : movesTables o with
        | true => exact .inr ⟨l, o, moves, judged⟩
        | false => exact .inl (((State.Beside.setLoop s l).trans (.judgeOrder moves _)).trans judged)
  · exact .ite_ (.setLoop s _) (.refl s)
  · exact .ite_ (.setNotices s _) (.refl s)

end Sys2Proof.Machine
end

section
/-! SUPPORT. What every command leaves: moments and the queue, the marked entries and the write lock, the records in use, the form of the
programme, and the house it does not concern. -/

namespace Sys2Proof.Machine

variable {s t u : State} {k : House} {h : Head}

/-! ### The start and the end of an event -/

theorem State.Local.foundClear (k : House) (s : State) : State.Local k s (s.foundClear k) :=
  ((State.Local.setFire s k _).trans (.rejudgeHold _ (House.head_house ..))).trans (.rejudgeHold _ (House.head_house ..))

theorem State.Local.evaluateFire (k : House) (s : State) : State.Local k s (s.evaluateFire k) :=
  .ite_ (.enterFire k s _) (.foundClear k s)

theorem State.startSequence_beside (s : State) (code : Code) : s.initOwners.makeSafe.Beside (s.startSequence code) :=
  ((State.Local.evaluateFire .one _).beside.trans (State.Local.evaluateFire .two _).beside).trans (.raise _ _ _ _)

/-- A warm start leaves moments, the queue of commands, the reaction table with its lock, and the programme. -/
structure State.StartLeaves (s t : State) : Prop where
  now : t.now = s.now
  pending : t.pending = s.pending
  table : t.matcher.table = s.matcher.table
  writeLock : t.matcher.writeLock = s.matcher.writeLock
  programme : t.programme = s.programme

theorem State.Beside.startLeaves (a : s.Beside t) : s.StartLeaves t := ⟨a.now, a.pending, a.table, a.writeLock, a.programme⟩

theorem State.StartLeaves.trans (a : s.StartLeaves t) (b : t.StartLeaves u) : s.StartLeaves u :=
  ⟨b.now.trans a.now, b.pending.trans a.pending, b.table.trans a.table, b.writeLock.trans a.writeLock, b.programme.trans a.programme⟩

theorem State.Beside.withSum (s : State) (w : Word) : s.Beside { s with checkSum := w } := ⟨rfl, rfl, rfl, rfl, rfl, rfl⟩

theorem State.Beside.sealFrom (s b : State) : s.Beside (s.sealFrom b) := .withSum s _

theorem State.Beside.arbitrate (s : State) : s.Beside s.arbitrate := by
  have frame := s.arbitrate_frame
  exact ⟨(congrArg State.now frame :), (congrArg State.pending frame :), (congrArg State.starter frame :),
    (congrArg (fun t => t.matcher.table) frame :), (congrArg (fun t => t.matcher.writeLock) frame :), (congrArg State.programme frame :)⟩

theorem State.warmStart_leaves (s : State) (code : Code) : s.StartLeaves (s.warmStart code) :=
  have initial : s.StartLeaves s.initOwners.makeSafe := ⟨rfl, rfl, rfl, rfl, rfl⟩
  (initial.trans (s.startSequence_beside code).startLeaves).trans (State.Beside.sealFrom _ s).startLeaves

theorem State.coldStart_leaves (s : State) : s.coldStart.now = s.now ∧ s.coldStart.pending = s.pending ∧ s.coldStart.programme = Programme.cold :=
  have leaves := s.defaulted.warmStart_leaves .cold
  ⟨leaves.now, leaves.pending, leaves.programme⟩

/-- A start on a store whose sum verifies, CLEAR not held, is warm (R194). -/
theorem State.startUp_warm (kept : s.StoreKept) (code : Code) : s.startUp false code = s.warmStart code := by
  unfold State.startUp
  rw [if_neg]
  simp [s.sumVerifies_iff.mpr kept]

theorem State.startUp_leaves (s : State) (clear : Bool) (code : Code) :
    (s.startUp clear code).now = s.now ∧ (s.startUp clear code).pending = s.pending ∧
      ((s.startUp clear code).programme = s.programme ∨ (s.startUp clear code).programme = Programme.cold) := by
  unfold State.startUp
  split
  · exact ⟨s.coldStart_leaves.1, s.coldStart_leaves.2.1, .inr s.coldStart_leaves.2.2⟩
  · exact ⟨(s.warmStart_leaves code).now, (s.warmStart_leaves code).pending, .inl (s.warmStart_leaves code).programme⟩

theorem State.beginStop_leaves (s : State) : s.StartLeaves s.beginStop := ⟨rfl, rfl, rfl, rfl, rfl⟩

theorem State.restartNow_leaves (kept : s.StoreKept) : s.StartLeaves s.restartNow := by
  unfold State.restartNow
  split
  · exact s.beginStop_leaves.trans (State.Beside.setRestart _ _).startLeaves
  · rw [State.startUp_warm (s := s.beginStop) (kept.of_eq rfl s.beginStop_retained)]
    exact s.beginStop_leaves.trans (s.beginStop.warmStart_leaves _)

theorem State.conclude_leaves {b : State} (kept : b.StoreKept) (s : State) : s.StartLeaves (s.conclude b) := by
  have sealed := (State.Beside.sealFrom s b).startLeaves
  unfold State.conclude
  dsimp only
  split
  · exact sealed.trans (State.restartNow_leaves (State.sealFrom_kept kept))
  · exact sealed.trans (State.Beside.arbitrate _).startLeaves

theorem State.endStop_leaves (kept : s.StoreKept) (clear : s.starter.clear = false) : s.StartLeaves s.endStop := by
  unfold State.endStop
  split
  · rw [clear, State.startUp_warm kept]
    exact s.warmStart_leaves _
  · exact ⟨rfl, rfl, rfl, rfl, rfl⟩

/-- Without a premise on the store, an event leaves moments and the queue, and the programme unless it is the delivered one. -/
theorem State.conclude_clock (s b : State) :
    (s.conclude b).now = s.now ∧ (s.conclude b).pending = s.pending ∧
      ((s.conclude b).programme = s.programme ∨ (s.conclude b).programme = Programme.cold) := by
  have sealed := State.Beside.sealFrom s b
  unfold State.conclude
  dsimp only
  split
  · unfold State.restartNow
    split
    · have leaves := sealed.startLeaves.trans ((s.sealFrom b).beginStop_leaves.trans (State.Beside.setRestart _ .clear).startLeaves)
      exact ⟨leaves.now, leaves.pending, .inl leaves.programme⟩
    · have leaves := sealed.startLeaves.trans (s.sealFrom b).beginStop_leaves
      obtain ⟨now, pending, programme⟩ := State.startUp_leaves (s.sealFrom b).beginStop false .order
      exact ⟨now.trans leaves.now, pending.trans leaves.pending, programme.imp_left (·.trans leaves.programme)⟩
  · have leaves := sealed.trans (State.Beside.arbitrate (s.sealFrom b))
    exact ⟨leaves.now, leaves.pending, .inl leaves.programme⟩

theorem State.endStop_clock (s : State) :
    s.endStop.now = s.now ∧ s.endStop.pending = s.pending ∧ (s.endStop.programme = s.programme ∨ s.endStop.programme = Programme.cold) := by
  unfold State.endStop
  split
  · exact s.startUp_leaves _ _
  · exact ⟨rfl, rfl, .inl rfl⟩

/-! ### Moments and the queue -/

/-- An order that moves the tables moves nothing else of the rest. -/
theorem judgeOrder_clock (o : Order) (s : State) : (judgeOrder o s).1.now = s.now ∧ (judgeOrder o s).1.pending = s.pending := by
  cases moves : movesTables o with
  | false => exact ⟨(State.Beside.judgeOrder moves s).now, (State.Beside.judgeOrder moves s).pending⟩
  | true =>
    cases o <;> cases moves
    · unfold judgeOrder judgeWriteReact
      dsimp only
      split
      · exact ⟨rfl, rfl⟩
      · split
        · exact ⟨rfl, rfl⟩
        · split <;> exact ⟨rfl, rfl⟩
    · unfold judgeOrder judgeWriteReel
      dsimp only
      split
      · exact ⟨rfl, rfl⟩
      · split
        · exact ⟨rfl, rfl⟩
        · split
          · exact ⟨rfl, rfl⟩
          · split <;> exact ⟨rfl, rfl⟩
    · unfold judgeOrder judgeSplit
      dsimp only
      split
      · exact ⟨rfl, rfl⟩
      · split
        · exact ⟨rfl, rfl⟩
        · split
          · exact ⟨rfl, rfl⟩
          · split <;> exact ⟨rfl, rfl⟩
    · exact ⟨rfl, rfl⟩

theorem effect_clock {i : Instr} {dt : Nat} {f : State → State} (effect : commandEffect i = some (dt, f)) (s : State) :
    (f s).now = s.now ∧ (f s).pending = s.pending := by
  obtain kept | ⟨l, o, -, judged⟩ := effect_tables effect s
  · exact ⟨kept.now, kept.pending⟩
  · obtain ⟨now, pending⟩ := judgeOrder_clock o (s.setLoop l)
    exact ⟨judged.now.trans now, judged.pending.trans pending⟩

theorem State.withLines_clock (s : State) (i : Instr) : (s.withLines i).now = s.now ∧ (s.withLines i).pending = s.pending := by
  cases i <;> exact ⟨rfl, rfl⟩

/-- Settles O2: every command is an event, a stop or the end of one, and of these only the time before it moves the moment. -/
theorem commandsAnswerNext : Obligations.CommandsAnswerNext := by
  intro c s
  have later : ∀ {n : Nat} (dt : Nat), n = s.now + dt → s.now ≤ n := fun dt e => e ▸ Nat.le_add_right _ _
  obtain ⟨dt, f, effect, run⟩ | ⟨dt, ⟨-, run⟩ | ⟨-, run⟩⟩ | ⟨dt, clear, ⟨-, run⟩ | ⟨-, run⟩⟩ := exec_cases c s
  · obtain ⟨now, pending⟩ := s.withLines_clock c
    rw [run]
    cases stopped : (s.withLines c).starter.stopped with
    | true => exact ⟨_, event_stopped _ _ _ stopped, pending, later dt (congrArg (· + dt) now)⟩
    | false =>
      obtain ⟨now', pending'⟩ := effect_clock effect ((s.withLines c).elapse dt)
      obtain ⟨now'', pending'', -⟩ := (f ((s.withLines c).elapse dt)).conclude_clock ((s.withLines c).elapse dt)
      exact ⟨_, event_awake _ _ _ stopped, (pending''.trans pending').trans pending,
        later dt ((now''.trans now').trans (congrArg (· + dt) now))⟩
  · refine ⟨_, run, ?_, later dt ?_⟩ <;> (unfold State.supplyFail; dsimp only; split <;> rfl)
  · refine ⟨_, run, ?_, later dt ?_⟩ <;> (unfold State.resetAssert; dsimp only; split <;> rfl)
  · exact ⟨_, run, (State.endStop_clock _).2.1, later dt (State.endStop_clock _).1⟩
  · exact ⟨_, run, (State.endStop_clock _).2.1, later dt (State.endStop_clock _).1⟩

end Sys2Proof.Machine
end

section
/-! SUPPORT. The tables under every command: the marked entries with the write lock, the records in use, and the form of the programme. -/

namespace Sys2Proof.Machine

variable {s t u : State} {k : House} {h : Head}

/-! ### What a command does to the tables -/

/-- The reaction table, its lock and the programme are the same. -/
structure State.SameStores (s t : State) : Prop where
  table : t.matcher.table = s.matcher.table
  writeLock : t.matcher.writeLock = s.matcher.writeLock
  programme : t.programme = s.programme

namespace State.SameStores

theorem trans (a : s.SameStores t) (b : t.SameStores u) : s.SameStores u :=
  ⟨b.table.trans a.table, b.writeLock.trans a.writeLock, b.programme.trans a.programme⟩

theorem withLines (s : State) (i : Instr) : s.SameStores (s.withLines i) := by
  cases i <;> exact ⟨rfl, rfl, rfl⟩

end State.SameStores

theorem State.StartLeaves.sameStores (a : s.StartLeaves t) : s.SameStores t := ⟨a.table, a.writeLock, a.programme⟩

theorem State.Beside.sameStores (a : s.Beside t) : s.SameStores t := ⟨a.table, a.writeLock, a.programme⟩

theorem State.withLines_engines (s : State) (i : Instr) : (s.withLines i).engines = s.engines := by
  cases i <;> rfl

/-- The tables stand as they stood, or as the judgement of an order that moves them leaves them, the engines being those found. -/
def State.TableStep (s t : State) : Prop :=
  s.SameStores t ∨
    ∃ u o, movesTables o = true ∧ s.SameStores u ∧ u.engines = s.engines ∧ State.SameStores (judgeOrder o u).1 t

theorem effect_tableStep {i : Instr} {dt n : Nat} {f : State → State} (effect : commandEffect i = some (dt, f)) (s : State) :
    s.TableStep (f ((s.withLines i).elapse n)) := by
  have found : s.SameStores ((s.withLines i).elapse n) := (State.SameStores.withLines s i).trans ⟨rfl, rfl, rfl⟩
  obtain beside | ⟨l, o, moves, judged⟩ := effect_tables effect ((s.withLines i).elapse n)
  · exact .inl (found.trans beside.sameStores)
  · exact .inr ⟨_, o, moves, found.trans (State.Beside.setLoop _ l).sameStores, s.withLines_engines i, judged.sameStores⟩

theorem State.TableStep.then (a : s.TableStep t) (b : t.SameStores u) : s.TableStep u :=
  a.imp (·.trans b) fun ⟨v, o, moves, found, engines, judged⟩ => ⟨v, o, moves, found, engines, judged.trans b⟩

theorem State.supplyReturn_leaves (kept : s.StoreKept) : s.StartLeaves (s.supplyReturn false) :=
  have lines : s.StartLeaves { s with starter := { s.starter with supply := true, clear := false } } := ⟨rfl, rfl, rfl, rfl, rfl⟩
  lines.trans (State.endStop_leaves (kept.of_eq rfl rfl) rfl)

theorem State.resetRelease_leaves (kept : s.StoreKept) : s.StartLeaves (s.resetRelease false) :=
  have lines : s.StartLeaves { s with starter := { s.starter with reset := false, clear := false } } := ⟨rfl, rfl, rfl, rfl, rfl⟩
  lines.trans (State.endStop_leaves (kept.of_eq rfl rfl) rfl)

/-- On a store whose sum verifies and short of a cold start, the tables move by orders alone. -/
theorem exec_tableStep {c : Instr} (kept : s.StoreKept) (supply : ∀ dt, c ≠ .supplyReturn dt true) (reset : ∀ dt, c ≠ .resetRelease dt true)
    (run : exec c s = .next t) : s.TableStep t := by
  obtain ⟨dt, f, effect, e⟩ | ⟨dt, ⟨-, e⟩ | ⟨-, e⟩⟩ | ⟨dt, clear, ⟨rfl, e⟩ | ⟨rfl, e⟩⟩ := exec_cases c s
  · obtain ⟨-, rfl⟩ | ⟨-, rfl⟩ := event_cases (e.symm.trans run)
    · exact .inl ((State.SameStores.withLines s c).trans ⟨rfl, rfl, rfl⟩)
    · exact (effect_tableStep effect s).then (State.conclude_leaves (b := (s.withLines c).elapse dt) (State.withLines_kept c kept) _).sameStores
  all_goals cases e.symm.trans run
  · refine .inl ?_
    unfold State.supplyFail
    dsimp only
    split <;> exact ⟨rfl, rfl, rfl⟩
  · refine .inl ?_
    unfold State.resetAssert
    dsimp only
    split <;> exact ⟨rfl, rfl, rfl⟩
  · obtain rfl : clear = false := Bool.eq_false_iff.mpr fun on => supply dt (on ▸ rfl)
    have elapsed : s.SameStores (s.elapse dt) := ⟨rfl, rfl, rfl⟩
    exact .inl (elapsed.trans (State.supplyReturn_leaves (s := s.elapse dt) (kept.of_eq rfl rfl)).sameStores)
  · obtain rfl : clear = false := Bool.eq_false_iff.mpr fun on => reset dt (on ▸ rfl)
    have elapsed : s.SameStores (s.elapse dt) := ⟨rfl, rfl, rfl⟩
    exact .inl (elapsed.trans (State.resetRelease_leaves (s := s.elapse dt) (kept.of_eq rfl rfl)).sameStores)

/-- Whatever the store holds, the programme moves by orders and by a cold start alone. -/
theorem exec_programme {c : Instr} (run : exec c s = .next t) :
    t.programme = s.programme ∨ t.programme = Programme.cold ∨
      ∃ u o, movesTables o = true ∧ u.programme = s.programme ∧ t.programme = (judgeOrder o u).1.programme := by
  obtain ⟨dt, f, effect, e⟩ | ⟨dt, ⟨-, e⟩ | ⟨-, e⟩⟩ | ⟨dt, clear, ⟨-, e⟩ | ⟨-, e⟩⟩ := exec_cases c s
  · obtain ⟨-, rfl⟩ | ⟨-, rfl⟩ := event_cases (e.symm.trans run)
    · exact .inl (State.SameStores.withLines s c).programme
    · obtain ⟨-, -, same | cold⟩ := State.conclude_clock (f ((s.withLines c).elapse dt)) ((s.withLines c).elapse dt)
      · obtain kept | ⟨u, o, moves, found, -, judged⟩ := effect_tableStep (n := dt) effect s
        · exact .inl (same.trans kept.programme)
        · exact .inr (.inr ⟨u, o, moves, found.programme, same.trans judged.programme⟩)
      · exact .inr (.inl cold)
  all_goals cases e.symm.trans run
  · refine .inl ?_
    unfold State.supplyFail
    dsimp only
    split <;> rfl
  · refine .inl ?_
    unfold State.resetAssert
    dsimp only
    split <;> rfl
  · exact (State.endStop_clock _).2.2.imp id .inl
  · exact (State.endStop_clock _).2.2.imp id .inl

/-! ### The four orders -/

/-- WRITE REACT replaces an entry that bears no lock mark, or changes nothing (R35). -/
theorem judgeWriteReact_cases (p : ReactParams) (s : State) :
    (judgeWriteReact p s).1 = s ∨ ∃ i e, (s.matcher.table.get i).lockMark = false ∧ (judgeWriteReact p s).1 =
      { s with matcher := { s.matcher with table := s.matcher.table.set i e, counts := s.matcher.counts.set i 0 } } := by
  unfold judgeWriteReact
  split
  · exact .inl rfl
  · rename_i i _
    split
    · exact .inl rfl
    · rename_i free
      split
      · exact .inl rfl
      · exact .inr ⟨i, _, Bool.eq_false_iff.mpr free, rfl⟩

/-- WRITE REEL empties a record that is not in use, replaces it by one that passes the checks, or changes nothing (R92 to R96). -/
theorem judgeWriteReel_cases (p : ReelParams) (s : State) :
    (judgeWriteReel p s).1 = s ∨ ∃ i : Fin 64, s.recordInUse i = false ∧ ∃ r, (judgeWriteReel p s).1 = s.setReel i r ∧
      (r = Reel.vacant ∨ (r.fieldsOk = true ∧ r.cuesOk = true ∧ s.programme.sideOk i r.side = true)) := by
  unfold judgeWriteReel
  split
  · exact .inl rfl
  · rename_i i _
    dsimp only
    split
    · exact .inl rfl
    · rename_i free
      split
      · exact .inr ⟨i, Bool.eq_false_iff.mpr free, _, rfl, .inl rfl⟩
      · split
        · rename_i passes
          simp only [Bool.and_eq_true] at passes
          exact .inr ⟨i, Bool.eq_false_iff.mpr free, _, rfl, .inr ⟨passes.1.1, passes.1.2, passes.2⟩⟩
        · exact .inl rfl

/-- SPLIT moves the split point within range, both boundaries being free of a side repeated, or changes nothing (R100). -/
theorem judgeSplit_cases (n : Byte) (s : State) :
    (judgeSplit n s).1 = s ∨ (1 ≤ n.toNat ∧ n.toNat ≤ 63 ∧
      (n.toNat = s.programme.split ∨ s.programme.sameSide (s.programme.split - 1) s.programme.split = false) ∧
      (judgeSplit n s).1 = { s with programme := { s.programme with split := n.toNat } }) := by
  unfold judgeSplit
  dsimp only
  split
  · exact .inl rfl
  · rename_i inside
    split
    · exact .inl rfl
    · split
      · exact .inl rfl
      · split
        · exact .inl rfl
        · rename_i apart
          refine .inr ⟨by omega, by omega, ?_, rfl⟩
          rw [Classical.not_and_iff_not_or_not, Classical.not_not, Bool.not_eq_true] at apart
          exact apart

/-! ### The marked entries and the records in use -/

/-- A marked entry under LOCK is as it was (R36). -/
theorem ReactEntry.locked_of_mark {e : ReactEntry} (mark : e.lockMark = true) : e.locked = e := by
  cases e
  cases mark
  rfl

theorem judgeOrder_keepsMarked {o : Order} (moves : movesTables o = true) (s : State) :
    (s.matcher.writeLock = true → (judgeOrder o s).1.matcher.writeLock = true) ∧
      ∀ i, (s.matcher.table.get i).lockMark = true → (judgeOrder o s).1.matcher.table.get i = s.matcher.table.get i := by
  cases o <;> cases moves
  case writeReact p =>
    show (_ → (judgeWriteReact p s).1.matcher.writeLock = true) ∧ ∀ i, _ → (judgeWriteReact p s).1.matcher.table.get i = _
    obtain same | ⟨j, e, free, written⟩ := judgeWriteReact_cases p s
    · rw [same]; exact ⟨id, fun _ _ => rfl⟩
    · rw [written]
      refine ⟨id, fun i mark => Table.get_set_ne _ _ ?_⟩
      rintro rfl
      rw [free] at mark
      cases mark
  case writeReel p =>
    show (_ → (judgeWriteReel p s).1.matcher.writeLock = true) ∧ ∀ i, _ → (judgeWriteReel p s).1.matcher.table.get i = _
    obtain same | ⟨j, -, r, written, -⟩ := judgeWriteReel_cases p s
    · rw [same]; exact ⟨id, fun _ _ => rfl⟩
    · rw [written]; exact ⟨id, fun _ _ => rfl⟩
  case splitPoint n =>
    show (_ → (judgeSplit n s).1.matcher.writeLock = true) ∧ ∀ i, _ → (judgeSplit n s).1.matcher.table.get i = _
    obtain same | ⟨-, -, -, moved⟩ := judgeSplit_cases n s
    · rw [same]; exact ⟨id, fun _ _ => rfl⟩
    · rw [moved]; exact ⟨id, fun _ _ => rfl⟩
  case lock =>
    exact ⟨fun _ => rfl, fun i mark => (Table.get_map ReactEntry.locked _ i).trans (ReactEntry.locked_of_mark mark)⟩

theorem judgeOrder_keepsInUse {o : Order} (moves : movesTables o = true) (s : State) (i : Fin 64) (inUse : s.recordInUse i.val = true) :
    (judgeOrder o s).1.programme.reels.get i = s.programme.reels.get i := by
  cases o <;> cases moves
  case writeReact p =>
    show (judgeWriteReact p s).1.programme.reels.get i = _
    obtain same | ⟨j, e, free, written⟩ := judgeWriteReact_cases p s
    · rw [same]
    · rw [written]
  case writeReel p =>
    show (judgeWriteReel p s).1.programme.reels.get i = _
    obtain same | ⟨j, free, r, written, -⟩ := judgeWriteReel_cases p s
    · rw [same]
    · rw [written]
      refine Table.get_set_ne _ _ ?_
      rintro rfl
      rw [free] at inUse
      cases inUse
  case splitPoint n =>
    show (judgeSplit n s).1.programme.reels.get i = _
    obtain same | ⟨-, -, -, moved⟩ := judgeSplit_cases n s
    · rw [same]
    · rw [moved]
  case lock => rfl

/-- The count of marked entries fits the one byte it is answered in (log entry 34). -/
theorem count8_lockCount (m : Matcher) : count8 m.lockCount = BitVec.ofNat 8 (m.table.cells.filter ReactEntry.lockMark).length := by
  have few : m.lockCount ≤ 32 := m.table.size ▸ List.countP_le_length
  rw [count8, min_eq_left (by omega), Matcher.lockCount, List.countP_eq_length_filter]

/-- Settles O14: the order's course, then the tables of every command: no order writes a marked entry and none takes the lock away. -/
theorem lockHoldsEntries : Obligations.LockHoldsEntries := by
  refine ⟨fun s dt src listens => ?_, fun c s t kept supply reset run => ?_⟩
  · refine judgedOrder_performs s dt src .lock _ _ .done _ listens (by simp [encodeOrder, Order.params]) ?_ listens.calm
    show judgeLock (s.heard dt) = _
    unfold judgeLock
    dsimp only
    rw [count8_lockCount]
    rfl
  · obtain same | ⟨u, o, moves, found, -, judged⟩ := exec_tableStep kept supply reset run
    · exact ⟨fun on => same.writeLock.trans on, fun i _ => by rw [same.table]⟩
    · obtain ⟨lock, marked⟩ := judgeOrder_keepsMarked moves u
      rw [found.writeLock] at lock
      rw [found.table] at marked
      exact ⟨fun on => judged.writeLock.trans (lock on), fun i mark => by rw [judged.table, marked i mark]⟩

/-- Settles O27: WRITE REEL refuses a record in use, and nothing else writes a record short of a cold start. -/
theorem recordInUseStays : Obligations.RecordInUseStays := by
  intro c s t i kept supply reset run inUse
  obtain same | ⟨u, o, moves, found, engines, judged⟩ := exec_tableStep kept supply reset run
  · rw [same.programme]
  · have used : u.recordInUse i.val = true := by
      unfold State.recordInUse State.eng
      rw [found.programme, engines]
      exact inUse
    rw [judged.programme, judgeOrder_keepsInUse moves u i used, found.programme]

/-! ### The form of the programme -/

/-- The form of a programme store (R90, R93 to R95). -/
structure Programme.Kept (p : Programme) : Prop where
  split : 1 ≤ p.split ∧ p.split ≤ 63
  records : ∀ i : Fin 64, (p.reels.get i).Kept
  sides : ∀ i : Nat, i + 1 < 64 → p.owner i = p.owner (i + 1) → p.sameSide i (i + 1) = false

theorem State.programmeKept_iff : s.ProgrammeKept ↔ s.programme.Kept :=
  ⟨fun ⟨split, records, sides⟩ => ⟨split, records, sides⟩, fun ⟨split, records, sides⟩ => ⟨split, records, sides⟩⟩

theorem Programme.Kept.cold : Programme.cold.Kept where
  split := by decide
  records i := .inl (by simp [Programme.cold])
  sides i inside _ := by
    have empty : ∀ j : Fin 64, Programme.cold.record j.val = Reel.vacant := fun j => by simp [Programme.cold]
    unfold Programme.sameSide
    rw [empty ⟨i, by omega⟩]
    rfl

/-- A record replaced, found at the indexes of the store (R96). -/
theorem Programme.record_set (p : Programme) (i : Fin 64) (r : Reel) (j : Nat) (inside : j < 64) :
    ({ p with reels := p.reels.set i r } : Programme).record j = if j = i.val then r else p.record j := by
  rw [Programme.record_fin _ ⟨j, inside⟩, Programme.record_fin p ⟨j, inside⟩]
  show (p.reels.set i r).get ⟨j, inside⟩ = _
  rw [Table.get_set]
  simp only [Fin.ext_iff]

/-- Within the store, two neighbours of one house lie in its region (R90). -/
theorem Programme.inRegion_owner (p : Programme) {i : Nat} (inside : i < 64) : p.inRegion (p.owner i) i = true := by
  unfold Programme.owner
  by_cases low : i < p.split
  · rw [if_pos low]
    exact decide_eq_true low
  · rw [if_neg low]
    exact decide_eq_true ⟨by omega, inside⟩

theorem Programme.Kept.setReel {p : Programme} (kept : p.Kept) (i : Fin 64) {r : Reel}
    (passes : r = Reel.vacant ∨ (r.fieldsOk = true ∧ r.cuesOk = true ∧ p.sideOk i r.side = true)) :
    ({ p with reels := p.reels.set i r } : Programme).Kept where
  split := kept.split
  records j := by
    show ((p.reels.set i r).get j).Kept
    rw [Table.get_set]
    split
    · exact passes.imp_right fun ⟨fields, cues, _⟩ => ⟨fields, cues⟩
    · exact kept.records j
  sides j inside one := by
    have here := p.inRegion_owner (i := j) (by omega)
    have next := p.inRegion_owner (i := j + 1) inside
    replace one : p.owner j = p.owner (j + 1) := one
    have old := kept.sides j inside one
    unfold Programme.sameSide at old ⊢
    rw [Programme.record_set _ _ _ _ (by omega), Programme.record_set _ _ _ _ inside]
    obtain rfl | ⟨-, -, side⟩ := passes
    · split
      · rfl
      · split
        · simp [Reel.vacant]
        · exact old
    · simp only [Programme.sideOk, Programme.neighbourHolds, Bool.and_eq_true, Bool.not_eq_true'] at side
      split
      · rename_i same
        subst same
        rw [if_neg (by omega)]
        have apart := side.2
        rw [one, next] at apart
        simp only [Bool.true_and] at apart
        rw [Bool.and_assoc, BEq.comm (a := r.side), apart, Bool.and_false]
      · split
        · rename_i same
          have apart := side.1
          rw [← same, ← one, Nat.add_sub_cancel, here] at apart
          simp only [Nat.le_add_left, decide_true, Bool.true_and] at apart
          rw [Bool.and_right_comm, apart, Bool.false_and]
        · exact old

theorem Programme.Kept.setSplit {p : Programme} (kept : p.Kept) {n : Nat} (low : 1 ≤ n) (high : n ≤ 63)
    (apart : n = p.split ∨ p.sameSide (p.split - 1) p.split = false) : ({ p with split := n } : Programme).Kept where
  split := ⟨low, high⟩
  records := kept.records
  sides i inside one := by
    show p.sameSide i (i + 1) = false
    obtain rfl | free := apart
    · exact kept.sides i inside one
    · by_cases boundary : i + 1 = p.split
      · rw [← boundary] at free
        exact free
      · refine kept.sides i inside ?_
        unfold Programme.owner
        congr 1
        exact propext (by omega)

theorem judgeOrder_programmeKept {o : Order} (moves : movesTables o = true) (kept : s.programme.Kept) :
    (judgeOrder o s).1.programme.Kept := by
  cases o <;> cases moves
  case writeReact p =>
    show (judgeWriteReact p s).1.programme.Kept
    obtain same | ⟨j, e, -, written⟩ := judgeWriteReact_cases p s
    · rw [same]; exact kept
    · rw [written]; exact kept
  case writeReel p =>
    show (judgeWriteReel p s).1.programme.Kept
    obtain same | ⟨i, -, r, written, passes⟩ := judgeWriteReel_cases p s
    · rw [same]; exact kept
    · rw [written]; exact kept.setReel i passes
  case splitPoint n =>
    show (judgeSplit n s).1.programme.Kept
    obtain same | ⟨low, high, apart, moved⟩ := judgeSplit_cases n s
    · rw [same]; exact kept
    · rw [moved]; exact kept.setSplit low high apart
  case lock => exact kept

/-- Settles O57: the programme moves by the two orders that check its form, and by a cold start, which delivers it empty. -/
theorem programmeStaysValid : Obligations.ProgrammeStaysValid := by
  intro s t kept next
  rw [State.programmeKept_iff] at kept ⊢
  obtain rfl | ⟨c, rest, -, run⟩ := step_cases next
  · exact kept
  · obtain same | cold | ⟨u, o, moves, found, judged⟩ := exec_programme run
    · rw [same]; exact kept
    · rw [cold]; exact .cold
    · rw [judged]
      exact judgeOrder_programmeKept moves (found ▸ kept)

end Sys2Proof.Machine
end

section
/-! SUPPORT. A command that concerns one house leaves the other: its effect on the house, the telegram that carries it, and the end of the
event. -/

namespace Sys2Proof.Machine

variable {s t u : State} {k : House} {h : Head}

/-! ### What leaves the other house -/

/-- The other house is the same, and no restart is called for that was not. -/
structure State.Apart (k : House) (s t : State) : Prop where
  house : s.SameHouse t (otherHouse k)
  calm : s.orders.restart = .clear → t.orders.restart = .clear

/-- An ORDER telegram to the part is taken (R9). -/
theorem State.route_order {f : Frame} {mayRepeat : Bool} {order : State → State} (toPart : f.dst = s.orders.own) (kind : f.kind = Config.kindOrder) :
    s.route f mayRepeat order = order s := by
  unfold State.route
  rw [if_pos toPart, if_pos kind]

namespace State.Apart

theorem trans (a : State.Apart k s t) (b : State.Apart k t u) : State.Apart k s u :=
  ⟨State.Local.sameHouse_trans a.house b.house, fun clear => b.calm (a.calm clear)⟩

theorem refl (k : House) (s : State) : State.Apart k s s := ⟨State.Local.sameHouse_refl s _, id⟩

theorem of_local (a : State.Local k s t) : State.Apart k s t where
  house := a.house
  calm clear := by
    rw [a.orders (by rw [clear]; nofun)]
    exact clear

theorem setLoop (k : House) (s : State) (l : LoopUnit) : State.Apart k s (s.setLoop l) :=
  ⟨⟨fun _ _ => ⟨rfl, rfl, rfl⟩, rfl, rfl, rfl, fun _ _ => rfl⟩, id⟩

theorem countLoop (k : House) (s : State) (f : LoopCounters → LoopCounters) : State.Apart k s (s.countLoop f) := by
  unfold State.countLoop
  split
  · exact refl k s
  · exact setLoop k s _

theorem strip (k : House) (s : State) (f : Frame) : State.Apart k s (s.strip f) := by
  unfold State.strip
  split
  · exact (setLoop k s _).trans (countLoop k _ _)
  · exact (countLoop k s _).trans (of_local (.raise k _ _ _ _))

theorem lengthError (k : House) (s : State) : State.Apart k s s.lengthError := by
  unfold State.lengthError
  split
  · exact refl k s
  · exact (setLoop k s _).trans (countLoop k _ _)

/-- An ORDER telegram to the part is dropped, stripped, or taken in the state as it stood but for the loop unit. -/
theorem receive (k : House) (s : State) (src : Byte) (payload : List Byte) {order : State → State}
    (taken : ∀ l, State.Apart k (s.setLoop l) (order (s.setLoop l))) :
    State.Apart k s (s.receive (s.orderFrame src payload) order) := by
  have arrives : ∀ l b, State.Apart k s ((s.setLoop l).arrive (s.orderFrame src payload) b order) := fun l b => by
    unfold State.arrive
    dsimp only
    split
    · exact (setLoop k s l).trans ((setLoop k _ _).trans (strip k _ _))
    · rw [State.route_order rfl rfl]
      exact (setLoop k s _).trans (taken _)
  unfold State.receive
  split
  · exact refl k s
  · split
    · exact lengthError k s
    · dsimp only
      split
      · unfold State.goodTelegram
        split
        · exact arrives _ _
        · exact arrives _ _
        · exact arrives _ _
      · exact (setLoop k s _).trans (countLoop k _ _)

theorem hearOrder (src : Byte) {o : Order} (answered : takeOrder src o = answerOrder src o.code (judgeOrder o)) (judged : ∀ t, State.Local k t (judgeOrder o t).1) (s : State) :
    State.Apart k s (s.hearOrder src o) :=
  receive k s src _ fun l => by
    rw [answered]
    exact (of_local (judged _)).trans (of_local (.enqueue k _ _))

/-- The arbiter's choice moves no value (R22). -/
theorem arbitrate (k : House) (s : State) : State.Apart k s s.arbitrate := by
  have frame := s.arbitrate_frame
  have values : ∀ d, (s.arbitrate.entry d).value = (s.entry d).value := fun d => by
    obtain none | ⟨-, ⟨_, _, -, starts⟩ | ⟨-, ⟨w, rest, -, starts⟩ | ⟨d', _, _, -, starts⟩⟩⟩ := s.arbitrate_cases
    · rw [none]
    · rw [starts]; rfl
    · rw [starts]; cases w <;> rfl
    · rw [starts]
      show (((s.setLoop _).setEntry d' _).entry d).value = _
      rw [State.setEntry_entry]
      split
      · rename_i same
        rw [same]
      · rfl
  have eng : s.arbitrate.engines = s.engines := (congrArg State.engines frame :)
  have lights : s.arbitrate.lights = s.lights := (congrArg State.lights frame :)
  have fire : s.arbitrate.fire = s.fire := (congrArg State.fire frame :)
  have mons : s.arbitrate.monitors = s.monitors := (congrArg State.monitors frame :)
  have lamps : s.arbitrate.lamps = s.lamps := (congrArg State.lamps frame :)
  have slots : s.arbitrate.slots = s.slots := (congrArg State.slots frame :)
  have orders : s.arbitrate.orders = s.orders := (congrArg State.orders frame :)
  refine ⟨⟨fun h _ => ⟨?_, ?_, ?_⟩, ?_, ?_, ?_, fun d _ => values d⟩, fun clear => by rw [orders]; exact clear⟩
  · exact congrArg (fun m => PerHead.get m h) mons
  · exact congrArg (fun m => PerHead.get m h) lamps
  · exact congrArg (fun m => PerHead.get m h) slots
  · exact congrArg (fun m => PerHouse.get m _) eng
  · exact congrArg (fun m => PerHouse.get m _) lights
  · exact congrArg (fun m => PerHouse.get m.house _) fire

theorem withSum (k : House) (s : State) (w : Word) : State.Apart k s { s with checkSum := w } :=
  ⟨⟨fun _ _ => ⟨rfl, rfl, rfl⟩, rfl, rfl, rfl, fun _ _ => rfl⟩, id⟩

theorem conclude (k : House) (b : State) (calm : s.orders.restart = .clear) : State.Apart k s (s.conclude b) := by
  have sealed : State.Apart k s (s.sealFrom b) := withSum k s _
  unfold State.conclude
  dsimp only
  rw [if_neg (by rw [sealed.calm calm]; nofun)]
  exact sealed.trans (arbitrate k _)

end State.Apart

/-! ### The orders of one house -/

theorem houseShow_local {target : Byte} (named : houseOf target = some k) (start : Option Byte) {run : House → State → State × Result}
    (each : ∀ s, State.Local k s (run k s).1) (s : State) : State.Local k s (houseShow target start run s).1 := by
  unfold houseShow
  split
  · exact .refl k s
  · rw [named]
    exact each s

theorem headShow_local {target : Byte} (named : headOf target = some h) (start : Option Byte) {run : Head → State → State × Result}
    (each : ∀ s, State.Local h.house s (run h s).1) (s : State) : State.Local h.house s (headShow target start run s).1 := by
  unfold headShow
  split
  · exact .refl _ s
  · rw [named]
    exact each s

theorem setHeadValue_local {index : Byte} (named : headOf index = some h) (lo hi : Nat) (value : Word) (put : Nat → Monitor → Monitor)
    (s : State) : State.Local h.house s (setHeadValue lo hi index value put s).1 := by
  unfold setHeadValue
  rw [named]
  exact .setMonAt s h _

theorem setEngineValue_local {index : Byte} (named : houseOf index = some k) (lo hi : Nat) (value : Word) (put : Nat → Engine → Engine)
    (s : State) : State.Local k s (setEngineValue lo hi index value put s).1 := by
  unfold setEngineValue
  rw [named]
  exact .setEng s k _

theorem setLightValue_local {index : Byte} (named : houseOf index = some k) (value : Word) (put : Nat → LightUnit → LightUnit)
    (s : State) : State.Local k s (setLightValue index value put s).1 := by
  unfold setLightValue
  rw [named]
  exact (State.Local.setLight s k _).trans (.discardPartial k _)

theorem judgeSetupService_local {index : Byte} (named : headOf index = some h) (value : Word) (s : State) :
    State.Local h.house s (judgeSetupService index value s).1 := by
  unfold judgeSetupService
  rw [named]
  dsimp only
  split
  · exact .refl _ s
  · exact .setService s h _

theorem judgeStrike_local {target : Byte} (named : headOf target = some h) (start : Option Byte) (s : State) :
    State.Local h.house s (judgeStrike target start s).1 :=
  headShow_local named start (fun t => by
    split
    · exact .refl _ t
    · exact .strikeRequest t rfl) s

theorem judgeArm_local {target : Byte} (named : houseOf target = some k) (start : Option Byte) (s : State) :
    State.Local k s (judgeArm target start s).1 := by
  unfold judgeArm
  rw [named]
  exact .arm k s _

theorem judgeCurvePoint_local {house : Byte} (named : houseOf house = some k) (entry : Byte) (s : State) :
    State.Local k s (judgeCurvePoint house entry s).1 := by
  unfold judgeCurvePoint
  rw [named]
  split
  · rename_i same _
    cases same
    exact .setLight s k _
  · exact .refl k s

theorem judgeWriteLamp_local {head : Byte} (named : headOf head = some h) (item : Byte) (value : Word) (s : State) :
    State.Local h.house s (judgeWriteLamp head item value s).1 := by
  obtain same | ⟨h', found, moved⟩ := State.Local.judgeWriteLamp head item value s
  · rw [same]; exact .refl _ s
  · cases named.symm.trans found
    exact moved

theorem judgeTrim_local {head : Byte} (named : headOf head = some h) (length : Option Word) (s : State) :
    State.Local h.house s (judgeTrim head length s).1 := by
  obtain same | ⟨h', found, moved⟩ := State.Local.judgeTrim head length s
  · rw [same]; exact .refl _ s
  · cases named.symm.trans found
    exact moved

/-! ### Every command of one house -/

/-- A head named is of the house the command concerns. -/
theorem head_of_concerns {b : Byte} (concerns : (headOf b).map Head.house = some k) : ∃ h, headOf b = some h ∧ h.house = k :=
  Option.map_eq_some_iff.mp concerns

theorem effect_apart {c : Instr} {dt : Nat} {f : State → State} (concerns : commandHouse c = some k)
    (effect : commandEffect c = some (dt, f)) (s : State) (own : s.RunupsKept) : State.Apart k s (f s) := by
  cases c with
  | framePulse dt h => cases concerns; cases effect; exact .of_local (.pulse s h)
  | slowTimerExpiry dt h => cases concerns; cases effect; exact .of_local (.slowExpiry s h)
  | stopTimerExpiry dt h => cases concerns; cases effect; exact .of_local (.stopExpiry s h)
  | idleTimerExpiry dt h => cases concerns; cases effect; exact .of_local (.idleExpiry s h)
  | strikeTimerExpiry dt h => cases concerns; cases effect; exact .of_local (.strikeExpiry s h)
  | staleTimerExpiry dt h => cases concerns; cases effect; exact .of_local (.staleExpiry s h)
  | runupDeadlineExpiry dt k => cases concerns; cases effect; exact .of_local (.runupExpiry (own k))
  | fadeStep dt k => cases concerns; cases effect; exact .of_local (.fadeStep k s)
  | linkChange dt k opened => cases concerns; cases effect; exact .of_local (.linkLevel k s opened)
  | detectorExpiry dt k source => cases concerns; cases effect; exact .of_local (.detectorExpiry k s source)
  | writeLamp dt src b item value =>
    obtain ⟨h, named, rfl⟩ := head_of_concerns concerns
    cases effect
    exact .hearOrder src rfl (judgeWriteLamp_local named item value) s
  | trim dt src b length =>
    obtain ⟨h, named, rfl⟩ := head_of_concerns concerns
    cases effect
    exact .hearOrder src rfl (judgeTrim_local named length) s
  | showThread dt src b start =>
    obtain ⟨h, named, rfl⟩ := head_of_concerns concerns
    cases effect
    exact .hearOrder src rfl (headShow_local named start fun t => .thread t h) s
  | showStrike dt src b start =>
    obtain ⟨h, named, rfl⟩ := head_of_concerns concerns
    cases effect
    exact .hearOrder src rfl (judgeStrike_local named start) s
  | setupServiceFlag dt src b value =>
    obtain ⟨h, named, rfl⟩ := head_of_concerns concerns
    cases effect
    exact .hearOrder src rfl (judgeSetupService_local named value) s
  | setupNominalRate dt src b value =>
    obtain ⟨h, named, rfl⟩ := head_of_concerns concerns
    cases effect
    exact .hearOrder src rfl (setHeadValue_local named _ _ value _) s
  | setupStopLimit dt src b value =>
    obtain ⟨h, named, rfl⟩ := head_of_concerns concerns
    cases effect
    exact .hearOrder src rfl (setHeadValue_local named _ _ value _) s
  | setupIdleLimit dt src b value =>
    obtain ⟨h, named, rfl⟩ := head_of_concerns concerns
    cases effect
    exact .hearOrder src rfl (setHeadValue_local named _ _ value _) s
  | showArm dt src b start => cases effect; exact .hearOrder src rfl (judgeArm_local concerns start) s
  | showStart dt src b start => cases effect; exact .hearOrder src rfl (houseShow_local concerns start fun t => .start k t) s
  | showHalt dt src b start => cases effect; exact .hearOrder src rfl (houseShow_local concerns start fun t => .haltFunction k t) s
  | showResume dt src b start => cases effect; exact .hearOrder src rfl (houseShow_local concerns start fun t => .resume k t) s
  | showChange dt src b start => cases effect; exact .hearOrder src rfl (houseShow_local concerns start fun t => .change k t) s
  | showLightsUp dt src b start => cases effect; exact .hearOrder src rfl (houseShow_local concerns start fun t => (State.Local.lightsUp k t).trans (.discardPartial k _)) s
  | showLightsDown dt src b start => cases effect; exact .hearOrder src rfl (houseShow_local concerns start fun t => (State.Local.lightsDown k t).trans (.discardPartial k _)) s
  | showLightsAuto dt src b start => cases effect; exact .hearOrder src rfl (houseShow_local concerns start fun t => (State.Local.lightsAuto k t).trans (.discardPartial k _)) s
  | showFireDrop dt src b start => cases effect; exact .hearOrder src rfl (houseShow_local concerns start fun t => .dropHouse k t _) s
  | showFireReset dt src b start => cases effect; exact .hearOrder src rfl (houseShow_local concerns start fun t => .fireReset k t) s
  | curvePoint dt src b entry => cases effect; exact .hearOrder src rfl (judgeCurvePoint_local concerns entry) s
  | setupRunupLimit dt src b value => cases effect; exact .hearOrder src rfl (setEngineValue_local concerns _ _ value _) s
  | setupStrikeLead dt src b value => cases effect; exact .hearOrder src rfl (setEngineValue_local concerns _ _ value _) s
  | setupRunout dt src b value => cases effect; exact .hearOrder src rfl (setEngineValue_local concerns _ _ value _) s
  | setupIdlePosition dt src b value => cases effect; exact .hearOrder src rfl (setLightValue_local concerns value _) s
  | setupFaultPosition dt src b value => cases effect; exact .hearOrder src rfl (setLightValue_local concerns value _) s
  | setupIntervalPosition dt src b value => cases effect; exact .hearOrder src rfl (setLightValue_local concerns value _) s
  | setupEndPosition dt src b value => cases effect; exact .hearOrder src rfl (setLightValue_local concerns value _) s
  | setupFastFadeTime dt src b value => cases effect; exact .hearOrder src rfl (setLightValue_local concerns value _) s
  | curveDataHouse1 dt src bytes => cases concerns; cases effect; exact .hearOrder src rfl (.judgeCurveData .one bytes) s
  | curveDataHouse2 dt src bytes => cases concerns; cases effect; exact .hearOrder src rfl (.judgeCurveData .two bytes) s
  | _ => cases concerns

/-- Settles O60: the lines, the command's effect and the end of the event leave the other house; with no restart called for the event ends
with the arbiter's choice. -/
theorem housesAreIndependent : Obligations.HousesAreIndependent := by
  intro c k s t concerns calm own run
  obtain ⟨dt, f, effect, e⟩ | ⟨dt, ⟨rfl, -⟩ | ⟨rfl, -⟩⟩ | ⟨dt, clear, ⟨rfl, -⟩ | ⟨rfl, -⟩⟩ := exec_cases c s
  · have lines : State.Apart k s (s.withLines c) := by
      cases c <;> exact ⟨⟨fun _ _ => ⟨rfl, rfl, rfl⟩, rfl, rfl, rfl, fun _ _ => rfl⟩, id⟩
    have kept : (s.withLines c).RunupsKept := by
      cases c <;> exact own
    have found := lines.trans (u := (s.withLines c).elapse dt) ⟨⟨fun _ _ => ⟨rfl, rfl, rfl⟩, rfl, rfl, rfl, fun _ _ => rfl⟩, id⟩
    obtain ⟨-, rfl⟩ | ⟨-, rfl⟩ := event_cases (e.symm.trans run)
    · exact found.house
    · have made := found.trans (effect_apart concerns effect _ kept)
      exact (made.trans (.conclude k _ (made.calm calm))).house
  all_goals cases concerns

end Sys2Proof.Machine
end

section
/-! SUPPORT. The start sequence (R195): the drive table it leaves, each house's evaluation, the notices it raises, and the state it ends in. -/

namespace Sys2Proof.Machine

variable {s t u : State} {k : House} {h : Head}

/-! ### Entries never sent (R44) -/

/-- Every entry waits under the class of its value since this moment, and none has been sent (R44). -/
def State.Fresh (s : State) : Prop :=
  ∀ d, (s.entry d).dirty = some { cls := (s.entry d).value.cls, since := s.ms } ∧ (s.entry d).lastValue = none ∧ (s.entry d).lastTime = none

/-- At one moment the drive table is moved by writes alone, and no telegram joins the loop unit's queues. -/
structure State.Rewritten (s t : State) : Prop where
  now : t.now = s.now
  loop : t.loop = s.loop
  fresh : s.Fresh → t.Fresh

namespace State.Rewritten

theorem trans (a : s.Rewritten t) (b : t.Rewritten u) : s.Rewritten u := ⟨b.now.trans a.now, b.loop.trans a.loop, b.fresh ∘ a.fresh⟩

theorem of_eq (now : t.now = s.now) (loop : t.loop = s.loop) (drive : t.drive = s.drive) : s.Rewritten t where
  now := now
  loop := loop
  fresh fresh d := by
    have ms : t.ms = s.ms := by rw [State.ms, now]; rfl
    have entry : t.entry d = s.entry d := by rw [State.entry, drive]; rfl
    rw [entry, ms]
    exact fresh d

theorem refl (s : State) : s.Rewritten s := of_eq rfl rfl rfl

theorem writeDrive (s : State) (d : DriveId) (v : DriveVal) : s.Rewritten (s.writeDrive d v) where
  now := rfl
  loop := rfl
  fresh fresh d' := by
    by_cases same : d' = d
    · subst same
      obtain ⟨dirty, value, time⟩ := fresh d'
      rw [State.writeDrive_entry_same]
      refine ⟨?_, value, time⟩
      rw [DriveEntry.written_dirty_of_not (by rw [dirty]; nofun), DriveEntry.mark, dirty]
      rfl
    · rw [State.writeDrive_entry_ne _ _ same]
      exact fresh d'

theorem rejudgeIdle (s : State) (h : Head) : s.Rewritten (s.rejudgeIdle h) :=
  have frame := s.rejudgeIdle_frame h
  of_eq (congrArg State.now frame :) (congrArg State.loop frame :) (congrArg State.drive frame :)

theorem assign (s : State) (h : Head) (r : Role) (i : Option Nat) : s.Rewritten (s.assign h r i) :=
  have frame := s.assign_frame h r i
  of_eq (congrArg State.now frame :) (congrArg State.loop frame :) (congrArg State.drive frame :)

theorem setEng (s : State) (k : House) (e : Engine) : s.Rewritten (s.setEng k e) := of_eq rfl rfl rfl

/-- A hold line that is released raises nothing (R57). -/
theorem rejudgeHold (s : State) (h : Head) (released : (s.mon h).hold = false) : s.Rewritten (s.rejudgeHold h) := by
  unfold State.rejudgeHold
  dsimp only
  rw [released, Bool.false_and, Bool.false_and, if_neg Bool.false_ne_true]
  exact of_eq rfl rfl rfl

theorem overrideShutdown (s : State) (h : Head) : s.Rewritten (s.overrideShutdown h) :=
  have dark : s.Rewritten (s.setLamp h (((s.lamp h).accountIfBurning s.ms).putOut .dark)) := of_eq rfl rfl rfl
  (((dark.trans (writeDrive _ _ _)).trans (writeDrive _ _ _)).trans (writeDrive _ _ _)).trans (rejudgeIdle _ _)

theorem shutHouse (s : State) (k : House) : s.Rewritten (s.shutHouse k true) := (overrideShutdown s _).trans (overrideShutdown _ _)

theorem unstart (s : State) (h : Head) : s.Rewritten (s.unstart h) := by
  unfold State.unstart
  split
  · exact assign s h _ _
  · exact refl s

theorem stopHead (s : State) (h : Head) : s.Rewritten (s.stopHead h) := (writeDrive s _ _).trans (writeDrive _ _ _)

theorem halt (s : State) (k : House) : s.Rewritten (s.halt k true) :=
  have stopped : s.Rewritten (s.stopHouse k) := ((stopHead s _).trans (stopHead _ _)).trans (writeDrive _ _ _)
  have based : s.Rewritten (s.haltBase k true) := ((stopped.trans (shutHouse _ k)).trans (setEng _ _ _)).trans ((unstart _ _).trans (unstart _ _))
  based.trans (setEng _ _ _)

theorem fireStop (s : State) (k : House) : s.Rewritten (s.fireStop k) :=
  (((writeDrive s _ _).trans (writeDrive _ _ _)).trans ((writeDrive _ _ _).trans (writeDrive _ _ _))).trans (writeDrive _ _ _)

theorem setFire (s : State) (k : House) (f : FireHouse) : s.Rewritten (s.setFire k f) := of_eq rfl rfl rfl

/-- Both hold lines of a house judged anew, both being released. -/
theorem rejudgeBoth (s : State) (k : House) (released : ∀ h, h.house = k → (s.mon h).hold = false) :
    s.Rewritten ((s.rejudgeHold (k.head .a)).rejudgeHold (k.head .b)) :=
  (rejudgeHold s _ (released _ (House.head_house ..))).trans <| rejudgeHold _ _ (by
    rw [State.rejudgeHold_mon, if_neg k.head_b_ne]
    exact released _ (House.head_house ..))

theorem fireBase (s : State) (k : House) (released : ∀ h, h.house = k → (s.mon h).hold = false) : s.Rewritten (s.fireBase k) :=
  (((setFire s k _).trans (rejudgeBoth _ k released)).trans (shutHouse _ k)).trans ((fireStop _ k).trans (halt _ k))

theorem lookupLight (s : State) (k : House) : s.Rewritten (s.lookupLight k) := by
  by_cases same : (s.light k).lookup (s.light k).position = (s.light k).lastTriple
  · rw [State.lookupLight_same same]; exact refl s
  · rw [State.lookupLight_differs same]
    have moved : s.Rewritten (s.setLight k { s.light k with lastTriple := (s.light k).lookup (s.light k).position }) := of_eq rfl rfl rfl
    exact moved.trans (writeDrive _ _ _)

theorem setRequests (s : State) (k : House) (r : Requests) : s.Rewritten (s.setRequests k r) := by
  have light : ∀ l, s.Rewritten (s.setLight k l) := fun l => of_eq rfl rfl rfl
  by_cases changed : (s.light k).requests.changed r = true
  · by_cases there : r.effective.2.position = (s.light k).position
    · rw [State.setRequests_atTarget changed there]; exact light _
    · by_cases atOnce : r.effective.2.fade = 0
      · rw [State.setRequests_jumps changed there atOnce]; exact (light _).trans (lookupLight _ k)
      · rw [State.setRequests_fades changed there atOnce]; exact light _
  · rw [State.setRequests_unchanged (Bool.eq_false_iff.mpr changed)]; exact light _

end State.Rewritten

/-! ### A raise on a FIFO that holds no answer (R21, R176) -/

/-- The answer/notice FIFO holds at most one telegram, a NOTICE. -/
def LoopUnit.Lone (l : LoopUnit) : Prop := l.fifo = [] ∨ ∃ c, l.fifo = [.notice c]

theorem State.queueNotice_lone (lone : s.loop.Lone) (c : NoticeContents) : s.queueNotice c = s.setLoop { s.loop with fifo := [.notice c] } := by
  unfold State.queueNotice
  obtain empty | ⟨c', one⟩ := lone
  · rw [empty, if_neg (by simp)]
    unfold State.enqueue State.makeRoom
    rw [empty, if_pos (by simp)]
    dsimp only
    rw [empty]
    rfl
  · rw [one, if_pos (by simp [Waiting.isNotice, Waiting.isAnswer])]
    rfl

/-- A raise leaves the one NOTICE, or the FIFO as it was. -/
theorem State.raise_loop_lone (lone : s.loop.Lone) (e : Event) (c : Cause) (code : Option Code) :
    (s.raise e c code).loop =
      if s.notices.isPending e || s.notices.isMasked e then s.loop
      else { s.loop with fifo := [.notice (s.notices.raisedContents e c code)] } := by
  cases known : s.notices.isPending e || s.notices.isMasked e with
  | true =>
    rw [State.raise_silent (by simpa [NoticeUnit.isPending, NoticeUnit.isMasked] using known)]
    rfl
  | false =>
    rw [Bool.or_eq_false_iff] at known
    rw [State.raise_notifies known.1 known.2, State.queueNotice_lone (s := s.setNotices (s.notices.raised e c code)) lone]
    rfl

/-! ### The owners' initial values (R195 step 3) -/

/-- A house at a start: its heads as initialized from the contents that `s` retains, everything commanded off, and its engine, light unit
and part of the fire unit as given. -/
structure State.HouseAt (s t : State) (k : House) (e : Engine) (l : LightUnit) (f : FireHouse) : Prop where
  mons : ∀ h, h.house = k → t.mon h = (s.mon h).initial
  lamps : ∀ h, h.house = k → t.lamp h = (s.lamp h).initial
  slots : ∀ h, h.house = k → t.slot h = Slot.vacant
  eng : t.eng k = e
  light : t.light k = l
  fire : t.fireOf k = f
  motors : ∀ h, h.house = k → (t.entry (.motor h)).value = .motor false
  safe : ∀ h, h.house = k → t.LampEntriesSafe h
  sound : (t.entry (.sound k)).value = .sound none
  dim : (t.entry (.dim k)).value = .dim l.lastTriple

/-- What holds of a house's heads, entries and units holds where the whole of the house is the same. -/
theorem State.HouseAt.of_same {eng : Engine} {light : LightUnit} {fire : FireHouse} (a : s.HouseAt t k eng light fire)
    (same : t.SameHouse u k) : s.HouseAt u k eng light fire := by
  obtain ⟨heads, sameEng, sameLight, sameFire, values⟩ := same
  exact
    { mons := fun h e => (heads h e).1.trans (a.mons h e)
      lamps := fun h e => (heads h e).2.1.trans (a.lamps h e)
      slots := fun h e => (heads h e).2.2.trans (a.slots h e)
      eng := sameEng.trans a.eng
      light := sameLight.trans a.light
      fire := sameFire.trans a.fire
      motors := fun h e => (values (.motor h) e).trans (a.motors h e)
      safe := fun h e =>
        have ⟨douser, lamp, feed⟩ := a.safe h e
        ⟨(values (.douser h) e).trans douser, (values (.lamp h) e).trans lamp, (values (.feed h) e).trans feed⟩
      sound := (values (.sound k) rfl).trans a.sound
      dim := (values (.dim k) rfl).trans a.dim }

/-- A house as the owners' initialization leaves it. -/
def State.HouseInitial (s t : State) (k : House) : Prop :=
  s.HouseAt t k ((s.eng k).initial (s.programme.first k)) (s.light k).initial ((s.fireOf k).initial (s.starter.link.get k))

/-- The engine of a house once evaluated: HALTED in FIRE, IDLE out of it (R133, R163). -/
def State.startedEng (s : State) (k : House) : Engine :=
  { (s.eng k).initial (s.programme.first k) with state := if s.foundInFire k then .halted else .idle }

/-- The light unit of a house once evaluated: at 255 in FIRE, at its idle position out of it (R151, R163). -/
def State.startedLight (s : State) (k : House) : LightUnit :=
  let position := if s.foundInFire k then 255 else (s.light k).idlePos
  { (s.light k).initial with
    position := position, lastTriple := (s.light k).lookup position
    requests :=
      { fire := if s.foundInFire k then some { position := 255, fade := 0 } else none
        fault := none, operator := none, shown := { position := (s.light k).idlePos, fade := 0 } } }

/-- A house's part of the fire unit once evaluated (R163, R169). -/
def State.startedFire (s : State) (k : House) : FireHouse :=
  { state := if s.foundInFire k then .fire else .clear
    latch := s.foundInFire k, detectors := [], linkOpen := s.starter.link.get k, port := !s.foundInFire k, gate := !s.foundInFire k }

/-- A house as the start leaves it (R163, R169). -/
def State.HouseStarted (s t : State) (k : House) : Prop := s.HouseAt t k (s.startedEng k) (s.startedLight k) (s.startedFire k)

/-! ### The owners and the drive table at a start -/

/-- The owners initialized and the drive table made safe (R195 steps 3 and 4). -/
def State.opened (s : State) : State := s.initOwners.makeSafe

theorem State.opened_entry (s : State) (d : DriveId) :
    s.opened.entry d = DriveEntry.safe (s.lights.map fun l => l.lookup l.idlePos) s.ms d (s.entry d).station (s.entry d).fn := by
  have at_ := driveIds_at d
  have inside : (driveIndex d).val < driveIds.length := (List.getElem?_eq_some_iff.mp at_).1
  have here : driveIds[(driveIndex d).val] = d := (List.getElem?_eq_some_iff.mp at_).2
  show (driveIds.map s.initOwners.safeEntry)[(driveIndex d).val]'(by rw [List.length_map]; exact inside) = _
  rw [List.getElem_map, here]
  rfl

theorem State.opened_fresh (s : State) : s.opened.Fresh := fun d => by
  rw [State.opened_entry]
  exact ⟨rfl, rfl, rfl⟩

theorem State.opened_initial (s : State) (k : House) : s.HouseInitial s.opened k where
  mons h _ := by cases h <;> rfl
  lamps h _ := by cases h <;> rfl
  slots h _ := by cases h <;> rfl
  eng := by cases k <;> rfl
  light := by cases k <;> rfl
  fire := by cases k <;> rfl
  motors h _ := by rw [State.opened_entry]; rfl
  safe h _ := by
    unfold State.LampEntriesSafe
    simp only [State.opened_entry]
    exact ⟨rfl, rfl, rfl⟩
  sound := by rw [State.opened_entry]; rfl
  dim := by rw [State.opened_entry]; cases k <;> rfl

/-! ### The evaluation of a house (R169) -/

/-- FIRE placed at once in a house without one: the unit at 255 with the triple looked up there, and DIM with it (R147, R163). -/
theorem State.placeFire_initial {l : LightUnit} (light : s.light k = l.initial)
    (dim : (s.entry (.dim k)).value = .dim l.initial.lastTriple) :
    let t := s.placeLight k .fire { position := 255, fade := 0 }
    t.light k =
        { l.initial with
          position := 255, lastTriple := l.lookup 255
          requests := { l.initial.requests with fire := some { position := 255, fade := 0 } } } ∧
      (t.entry (.dim k)).value = .dim (l.lookup 255) := by
  intro t
  have effective : (l.initial.requests.place .fire { position := 255, fade := 0 }).effective = (.fire, { position := 255, fade := 0 }) := rfl
  have changed : (s.light k).requests.changed ((s.light k).requests.place .fire { position := 255, fade := 0 }) = true := by
    rw [light]; rfl
  by_cases there : ((s.light k).requests.place .fire { position := 255, fade := 0 }).effective.2.position = (s.light k).position
  · have made : t = s.setLight k { s.light k with requests := (s.light k).requests.place .fire { position := 255, fade := 0 }, fade := none } :=
      State.setRequests_atTarget changed there
    rw [light, effective] at there
    replace there : l.idlePos = 255 := there.symm
    rw [made, State.setLight_light_same, light]
    refine ⟨?_, (State.setLight_entry ..).symm ▸ dim.trans ?_⟩
    · simp only [LightUnit.initial, there]; rfl
    · simp only [LightUnit.initial, there]
  · have made : t = (s.setLight k { s.light k with
        requests := (s.light k).requests.place .fire { position := 255, fade := 0 }, position := 255, fade := none }).lookupLight k :=
      State.setRequests_jumps changed there (by rw [light, effective])
    have looked : t.light k = _ := (congrArg (fun u => u.light k) made).trans State.lookupLight_light
    rw [State.setLight_light_same, light] at looked
    refine ⟨looked, ?_⟩
    rw [made]
    by_cases same : l.lookup 255 = l.lookup l.idlePos
    · rw [State.lookupLight_same (by rw [State.setLight_light_same, light]; exact same), State.setLight_entry, dim]
      exact congrArg DriveVal.dim same.symm
    · rw [State.lookupLight_differs (by rw [State.setLight_light_same, light]; exact same), State.writeDrive_entry_same,
        DriveEntry.written_value, State.setLight_light_same, light]
      rfl

theorem State.writeDrive_dim (s : State) {d : DriveId} (v : DriveVal) (k : House) (other : ∀ k, d ≠ .dim k) :
    (s.writeDrive d v).entry (.dim k) = s.entry (.dim k) := State.writeDrive_entry_ne s v (other k).symm

theorem State.overrideShutdown_dim (s : State) (h : Head) (k : House) : (s.overrideShutdown h).entry (.dim k) = s.entry (.dim k) := by
  unfold State.overrideShutdown
  rw [State.rejudgeIdle_entry]
  exact (State.writeDrive_dim (d := .douser h) _ _ _ nofun).trans <| (State.writeDrive_dim (d := .feed h) _ _ _ nofun).trans <|
    (State.writeDrive_dim (d := .lamp h) _ _ _ nofun)

theorem State.shutHouse_dim (s : State) (k k' : House) : (s.shutHouse k true).entry (.dim k') = s.entry (.dim k') :=
  (State.overrideShutdown_dim _ _ _).trans (State.overrideShutdown_dim _ _ _)

theorem State.writeBoth_dim (s : State) (h : Head) (k : House) (v w : Bool) :
    ((s.writeDrive (.motor h) (.motor v)).writeDrive (.douser h) (.douser w)).entry (.dim k) = s.entry (.dim k) :=
  (State.writeDrive_dim (d := .douser h) _ _ _ nofun).trans (State.writeDrive_dim (d := .motor h) _ _ _ nofun)

theorem State.fireStop_dim (s : State) (k k' : House) : (s.fireStop k).entry (.dim k') = s.entry (.dim k') :=
  (State.writeDrive_dim (d := .sound k) _ _ _ nofun).trans <| (State.writeBoth_dim ..).trans (State.writeBoth_dim ..)

theorem State.stopHouse_dim (s : State) (k k' : House) : (s.stopHouse k).entry (.dim k') = s.entry (.dim k') :=
  have head : ∀ t h, (State.stopHead t h).entry (.dim k') = t.entry (.dim k') := fun _ h =>
    (State.writeDrive_dim (d := .motor h) _ _ _ nofun).trans (State.writeDrive_dim (d := .douser h) _ _ _ nofun)
  (State.writeDrive_dim (d := .sound k) _ _ _ nofun).trans ((head _ _).trans (head _ _))

/-- An entry to FIRE leaves DIM to the lights. -/
theorem State.fireBase_dim (s : State) (k k' : House) : (s.fireBase k).entry (.dim k') = s.entry (.dim k') := by
  rw [State.fireBase_eq, State.halt_fromFire, State.setEng_entry, State.haltBase, State.unstartHouse_entry, State.shutHouse_dim,
    State.stopHouse_dim, State.fireStop_dim, State.shutHouse_dim]
  simp [State.fireShut]

theorem State.HouseInitial.enterFire (a : s.HouseInitial t k) (calm : t.orders.restart ≠ .waiting) (found : s.foundInFire k = true) :
    s.HouseStarted (t.enterFire k .start) k := by
  have none : (t.light k).requests.fire = none := by rw [a.light]; rfl
  have e := t.enterFire_fireEntered k .start calm none
  obtain ⟨light, dim⟩ := State.placeFire_initial (s := t.fireBase k) ((t.fireBase_light k).trans a.light) (l := s.light k)
    (by rw [State.fireBase_dim]; exact a.dim)
  exact
    { mons := fun h own => by rw [e.shutters h own, a.mons h own]; rfl
      lamps := fun h own => by rw [(e.lamps h own).1, a.lamps h own]; rfl
      slots := fun h own => by rw [e.roles h own, State.role, a.slots h own]; rfl
      eng := by rw [e.engine, a.eng, State.startedEng, found]; rfl
      light := by
        rw [State.enterFire_eq, State.raise_light, light, State.startedLight, found]
        rfl
      fire := by rw [e.unit, a.fire, State.startedFire, found]; rfl
      motors := e.motors
      safe := fun h own => (e.lamps h own).2
      sound := e.sound
      dim := by
        rw [State.enterFire_eq, State.raise_entry, dim, State.startedLight, found]
        rfl }

section
variable (s : State) (k : House)

theorem State.foundClear_lamp (h : Head) : (s.foundClear k).lamp h = s.lamp h := by simp [State.foundClear]
theorem State.foundClear_slot (h : Head) : (s.foundClear k).slot h = s.slot h := by simp [State.foundClear]
theorem State.foundClear_eng (k' : House) : (s.foundClear k).eng k' = s.eng k' := by simp [State.foundClear]
theorem State.foundClear_light (k' : House) : (s.foundClear k).light k' = s.light k' := by simp [State.foundClear]
theorem State.foundClear_entry (d : DriveId) : (s.foundClear k).entry d = s.entry d := by simp [State.foundClear]
theorem State.foundClear_fireOf : (s.foundClear k).fireOf k = { s.fireOf k with state := .clear, port := true, gate := true } := by
  simp [State.foundClear]

/-- A head that is not LOCKED has its hold line released. -/
theorem State.foundClear_mon {h : Head} (own : h.house = k) (still : (s.mon h).motion = .stopped) :
    (s.foundClear k).mon h = { s.mon h with hold := false } := by
  have ne := k.head_b_ne
  unfold State.foundClear
  obtain rfl | rfl := House.eq_head own <;> simp [State.rejudgeHold_mon, State.holdCondition, ne, ne.symm, still]

end

theorem State.HouseInitial.foundClear (a : s.HouseInitial t k) (found : s.foundInFire k = false) : s.HouseStarted (t.foundClear k) k := by
  have light : s.startedLight k = (s.light k).initial := by rw [State.startedLight, found]; rfl
  have latch : (s.fireOf k).latch = false := (Bool.or_eq_false_iff.mp found).1
  exact
    { mons := fun h own => by
        have still : (t.mon h).motion = .stopped := by rw [a.mons h own]; rfl
        rw [State.foundClear_mon t k own still, a.mons h own]
        rfl
      lamps := fun h own => (t.foundClear_lamp k h).trans (a.lamps h own)
      slots := fun h own => (t.foundClear_slot k h).trans (a.slots h own)
      eng := by rw [State.foundClear_eng, a.eng, State.startedEng, found]; rfl
      light := by rw [State.foundClear_light, a.light, light]
      fire := by
        rw [State.foundClear_fireOf, a.fire, State.startedFire, found]
        simp only [FireHouse.initial, latch]
        rfl
      motors := fun h own => (congrArg DriveEntry.value (t.foundClear_entry k _)).trans (a.motors h own)
      safe := fun h own => by
        unfold State.LampEntriesSafe
        simp only [State.foundClear_entry]
        exact a.safe h own
      sound := (congrArg DriveEntry.value (t.foundClear_entry k _)).trans a.sound
      dim := by rw [State.foundClear_entry, a.dim, light] }

/-- The evaluation of a house (R163, R169). -/
theorem State.HouseInitial.evaluateFire (a : s.HouseInitial t k) (calm : t.orders.restart ≠ .waiting) :
    s.HouseStarted (t.evaluateFire k) k := by
  have found : ((t.fireOf k).latch || (t.fireOf k).linkOpen) = s.foundInFire k := by rw [a.fire]; rfl
  unfold State.evaluateFire
  dsimp only
  rw [found]
  cases inFire : s.foundInFire k with
  | true => exact a.enterFire calm inFire
  | false => exact a.foundClear inFire

/-! ### The loop unit and the notices of an evaluation -/

/-- The notice unit of an evaluation (R169, R175). -/
def NoticeUnit.evaluated (n : NoticeUnit) (k : House) (inFire : Bool) : NoticeUnit :=
  if inFire then n.raised (fireEvent k) (.house k) (some .start) else n

/-- The answer/notice FIFO of an evaluation (R21, R175). -/
def NoticeUnit.evaluatedFifo (n : NoticeUnit) (k : House) (inFire : Bool) (fifo : List Waiting) : List Waiting :=
  if inFire ∧ n.isPending (fireEvent k) = false ∧ n.isMasked (fireEvent k) = false then
    [.notice (n.raisedContents (fireEvent k) (.house k) (some .start))]
  else fifo

theorem State.HouseInitial.released (a : s.HouseInitial t k) (h : Head) (own : h.house = k) : (t.mon h).hold = false := by
  rw [a.mons h own]; rfl

theorem State.rejudgeHold_quiet (released : (s.mon h).hold = false) : (s.rejudgeHold h).notices = s.notices := by
  rw [State.rejudgeHold_notices, if_neg (by rw [released]; nofun)]

theorem State.rejudgeBoth_quiet (released : ∀ h, h.house = k → (s.mon h).hold = false) :
    ((s.rejudgeHold (k.head .a)).rejudgeHold (k.head .b)).notices = s.notices :=
  (State.rejudgeHold_quiet (by
    rw [State.rejudgeHold_mon, if_neg k.head_b_ne]
    exact released _ (House.head_house ..))).trans (State.rejudgeHold_quiet (released _ (House.head_house ..)))

/-- What an evaluation leaves of the notices, the loop unit and the drive table. -/
theorem State.HouseInitial.evaluateFire_raises (a : s.HouseInitial t k) (lone : t.loop.Lone) :
    (t.evaluateFire k).notices = t.notices.evaluated k (s.foundInFire k) ∧
      (t.evaluateFire k).loop = { t.loop with fifo := t.notices.evaluatedFifo k (s.foundInFire k) t.loop.fifo } ∧
      (t.Fresh → (t.evaluateFire k).Fresh) := by
  have found : ((t.fireOf k).latch || (t.fireOf k).linkOpen) = s.foundInFire k := by rw [a.fire]; rfl
  unfold State.evaluateFire
  dsimp only
  rw [found]
  cases inFire : s.foundInFire k with
  | false =>
    have kept : t.Rewritten (t.foundClear k) := (State.Rewritten.setFire t k _).trans (.rejudgeBoth _ k a.released)
    exact ⟨State.rejudgeBoth_quiet (s := t.setFire k _) a.released, kept.loop, kept.fresh⟩
  | true =>
    have placed : t.Rewritten ((t.fireBase k).placeLight k .fire { position := 255, fade := 0 }) :=
      (State.Rewritten.fireBase t k a.released).trans (.setRequests _ k _)
    have notices : ((t.fireBase k).placeLight k .fire { position := 255, fade := 0 }).notices = t.notices := by
      rw [State.placeLight, State.setRequests_notices, State.fireBase_notices]
      exact State.rejudgeBoth_quiet (s := t.setFire k _) a.released
    rw [if_pos rfl, State.enterFire_eq]
    refine ⟨?_, ?_, fun fresh => ?_⟩
    · rw [State.raise_notices, notices]; rfl
    · rw [State.raise_loop_lone (by rw [placed.loop]; exact lone), placed.loop, notices]
      unfold NoticeUnit.evaluatedFifo
      cases t.notices.isPending (fireEvent k) <;> cases t.notices.isMasked (fireEvent k) <;> rfl
    · have raised : ((t.fireBase k).placeLight k .fire { position := 255, fade := 0 }).Fresh := placed.fresh fresh
      intro d
      rw [State.raise_entry, State.raise_ms]
      exact raised d

end Sys2Proof.Machine
end

section
/-! SUPPORT. The state a start leaves (R194, R195): the notices and the answer/notice FIFO, and the whole of it. -/

namespace Sys2Proof.Machine

variable {s t u : State} {k : House} {h : Head}

/-! ### What a start keeps around the houses -/

/-- Everything outside the houses is the same but what raises move: the notices and the answer/notice FIFO with its counter. -/
structure State.Around (s t : State) : Prop where
  now : t.now = s.now
  pending : t.pending = s.pending
  freeCount : t.freeCount = s.freeCount
  matcher : t.matcher = s.matcher
  programme : t.programme = s.programme
  panel : t.panel = s.panel
  starter : t.starter = s.starter
  holdTime : t.fire.holdTime = s.fire.holdTime
  confirmWindow : t.fire.confirmWindow = s.fire.confirmWindow
  refreshPeriod : t.drive.refreshPeriod = s.drive.refreshPeriod
  station : ∀ d, (t.entry d).station = (s.entry d).station
  fn : ∀ d, (t.entry d).fn = (s.entry d).fn
  orders : s.orders.restart = .clear → t.orders = s.orders

theorem State.Local.around (a : State.Local k s t) : s.Around t :=
  ⟨a.now, a.pending, a.freeCount, a.matcher, a.programme, a.panel, a.starter, a.holdTime, a.confirmWindow, a.refreshPeriod,
    fun d => (a.map d).1, fun d => (a.map d).2, fun calm => a.orders (by rw [calm]; nofun)⟩

theorem State.Around.trans (a : s.Around t) (b : t.Around u) : s.Around u :=
  ⟨b.now.trans a.now, b.pending.trans a.pending, b.freeCount.trans a.freeCount, b.matcher.trans a.matcher, b.programme.trans a.programme,
    b.panel.trans a.panel, b.starter.trans a.starter, b.holdTime.trans a.holdTime, b.confirmWindow.trans a.confirmWindow,
    b.refreshPeriod.trans a.refreshPeriod, fun d => (b.station d).trans (a.station d), fun d => (b.fn d).trans (a.fn d),
    fun calm => (b.orders (by rw [a.orders calm]; exact calm)).trans (a.orders calm)⟩

/-! ### The notices of a start (R181, R195) -/

/-- The settings of a notice unit are the same. -/
structure NoticeUnit.SameSettings (n m : NoticeUnit) : Prop where
  mask : m.mask = n.mask
  quietTime : m.quietTime = n.quietTime
  quietTimer : m.quietTimer = n.quietTimer

section
variable (n : NoticeUnit) (k : House) (b : Bool) (e : Event)

theorem NoticeUnit.evaluated_settings : n.SameSettings (n.evaluated k b) := by
  cases b <;> exact ⟨rfl, rfl, rfl⟩

theorem NoticeUnit.evaluated_isMasked : (n.evaluated k b).isMasked e = n.isMasked e := by
  rw [NoticeUnit.isMasked, (n.evaluated_settings k b).mask]; rfl

theorem NoticeUnit.evaluated_isPending :
    (n.evaluated k b).isPending e = (n.isPending e || (b && decide (e = fireEvent k))) := by
  cases b with
  | false => simp [NoticeUnit.evaluated]
  | true =>
    show (n.raised _ _ _).isPending e = _
    rw [NoticeUnit.raised_isPending, Bool.true_and]

theorem NoticeUnit.evaluated_cause_ne (ne : e ≠ fireEvent k) : (n.evaluated k b).causes.get e.num = n.causes.get e.num := by
  cases b with
  | false => rfl
  | true => exact NoticeUnit.raised_cause_ne _ _ _ _ ne

theorem NoticeUnit.evaluated_cause (first : n.causes.get (fireEvent k).num = CauseRecord.vacant) :
    (n.evaluated k true).causes.get (fireEvent k).num = { cause := .house k, code := some .start, count := 1 } := by
  refine (NoticeUnit.raised_cause_same ..).trans ?_
  rw [first]
  rfl

theorem NoticeUnit.evaluatedFifo_lone {l : LoopUnit} (lone : l.Lone) :
    ({ l with fifo := n.evaluatedFifo k b l.fifo } : LoopUnit).Lone := by
  unfold LoopUnit.Lone NoticeUnit.evaluatedFifo
  split
  · exact .inr ⟨_, rfl⟩
  · exact lone

end

/-- The notice unit of a start, the evaluations of House 1 and of House 2 made. -/
def NoticeUnit.started (n : NoticeUnit) (one two : Bool) : NoticeUnit := (n.initial.evaluated .one one).evaluated .two two

section
variable (n : NoticeUnit) (one two : Bool)

theorem NoticeUnit.initial_isPending (e : Event) : n.initial.isPending e = false := by
  simp [NoticeUnit.initial, NoticeUnit.isPending]

theorem NoticeUnit.initial_cause (e : Event) : n.initial.causes.get e.num = CauseRecord.vacant := by
  simp [NoticeUnit.initial]

theorem NoticeUnit.started_isPending (e : Event) :
    (n.started one two).isPending e = ((one && decide (e = .fire1)) || (two && decide (e = .fire2))) := by
  rw [NoticeUnit.started, NoticeUnit.evaluated_isPending, NoticeUnit.evaluated_isPending, NoticeUnit.initial_isPending, Bool.false_or]
  rfl

theorem NoticeUnit.started_isMasked (e : Event) : (n.started one two).isMasked e = n.isMasked e := by
  rw [NoticeUnit.started, NoticeUnit.evaluated_isMasked, NoticeUnit.evaluated_isMasked]
  rfl

theorem NoticeUnit.started_settings :
    (n.started one two).mask = n.mask ∧ (n.started one two).quietTime = n.quietTime ∧ (n.started one two).quietTimer = none :=
  have a := n.initial.evaluated_settings .one one
  have b := (n.initial.evaluated .one one).evaluated_settings .two two
  ⟨b.mask.trans a.mask, b.quietTime.trans a.quietTime, b.quietTimer.trans a.quietTimer⟩

theorem NoticeUnit.started_cause_other {e : Event} (first : e ≠ .fire1) (second : e ≠ .fire2) :
    (n.started one two).causes.get e.num = CauseRecord.vacant := by
  rw [NoticeUnit.started, NoticeUnit.evaluated_cause_ne _ _ _ _ second, NoticeUnit.evaluated_cause_ne _ _ _ _ first,
    NoticeUnit.initial_cause]

/-- The cause record of a house's fire event: the start's, or none (R169). -/
theorem NoticeUnit.started_cause_fire (k : House) :
    (n.started one two).causes.get (fireEvent k).num =
      if (match k with | .one => one | .two => two) then { cause := .house k, code := some .start, count := 1 } else CauseRecord.vacant := by
  have apart : fireEvent .one ≠ fireEvent .two := nofun
  cases k with
  | one =>
    rw [NoticeUnit.started, NoticeUnit.evaluated_cause_ne _ _ _ _ apart]
    cases one with
    | true => exact NoticeUnit.evaluated_cause _ _ (n.initial_cause _)
    | false => exact n.initial_cause _
  | two =>
    have first : (n.initial.evaluated .one one).causes.get (fireEvent .two).num = CauseRecord.vacant := by
      rw [NoticeUnit.evaluated_cause_ne _ _ _ _ apart.symm, NoticeUnit.initial_cause]
    cases two with
    | true => exact NoticeUnit.evaluated_cause _ _ first
    | false => exact first

/-- The contents of the NOTICE of a start's raise of a house's fire event. -/
theorem NoticeUnit.initial_contents_one :
    n.initial.raisedContents .fire1 (.house .one) (some .start) =
      { pending := 1, event := .fire1, cause := .house .one, code := some .start, count := 1 } := by
  have count : n.initial.causes.get Event.fire1.num = CauseRecord.vacant := n.initial_cause _
  have bits : (n.initial.raised .fire1 (.house .one) (some .start)).pending = 1 := show 0#16 ||| Event.fire1.bit = 1 by decide
  unfold NoticeUnit.raisedContents
  rw [count, bits]
  rfl

theorem NoticeUnit.initial_contents_two :
    (n.initial.evaluated .one one).raisedContents .fire2 (.house .two) (some .start) =
      { pending := if one then 3 else 2, event := .fire2, cause := .house .two, code := some .start, count := 1 } := by
  have count : (n.initial.evaluated .one one).causes.get Event.fire2.num = CauseRecord.vacant := by
    rw [NoticeUnit.evaluated_cause_ne _ _ _ _ (show Event.fire2 ≠ fireEvent .one by nofun), NoticeUnit.initial_cause]
  have bits : ((n.initial.evaluated .one one).raised .fire2 (.house .two) (some .start)).pending = if one then 3 else 2 := by
    cases one
    · show 0#16 ||| Event.fire2.bit = 2
      decide
    · show 0#16 ||| Event.fire1.bit ||| Event.fire2.bit = 3
      decide
  unfold NoticeUnit.raisedContents
  rw [count, bits]
  rfl

end

/-! ### The state a warm start leaves -/

/-- The answer/notice FIFO of a start, RESTARTED raised last (R21, R175, R195). -/
def NoticeUnit.startedFifo (n : NoticeUnit) (one two : Bool) (code : Code) : List Waiting :=
  if n.isMasked .restarted = false then [.notice ((n.started one two).raisedContents .restarted .none (some code))]
  else if two = true ∧ n.isMasked .fire2 = false then
    [.notice { pending := if one then 3 else 2, event := .fire2, cause := .house .two, code := some .start, count := 1 }]
  else if one = true ∧ n.isMasked .fire1 = false then
    [.notice { pending := 1, event := .fire1, cause := .house .one, code := some .start, count := 1 }]
  else []

theorem NoticeUnit.evaluatedFifo_both (n : NoticeUnit) (one two : Bool) :
    (n.initial.evaluated .one one).evaluatedFifo .two two (n.initial.evaluatedFifo .one one []) =
      if two = true ∧ n.isMasked .fire2 = false then
        [.notice { pending := if one then 3 else 2, event := .fire2, cause := .house .two, code := some .start, count := 1 }]
      else if one = true ∧ n.isMasked .fire1 = false then
        [.notice { pending := 1, event := .fire1, cause := .house .one, code := some .start, count := 1 }]
      else [] := by
  have idle : n.initial.isPending .fire1 = false := n.initial_isPending _
  have idle' : (n.initial.evaluated .one one).isPending .fire2 = false := by
    rw [NoticeUnit.evaluated_isPending, n.initial_isPending, Bool.false_or]
    exact Bool.and_eq_false_imp.mpr fun _ => rfl
  have masked : (n.initial.evaluated .one one).isMasked .fire2 = n.isMasked .fire2 := NoticeUnit.evaluated_isMasked ..
  have masked' : n.initial.isMasked .fire1 = n.isMasked .fire1 := rfl
  unfold NoticeUnit.evaluatedFifo
  simp only [fireEvent, idle, idle', masked, masked', true_and, NoticeUnit.initial_contents_one, NoticeUnit.initial_contents_two]

/-- The start sequence house by house and around the houses. -/
structure State.Sequenced (s t : State) (code : Code) : Prop where
  houses : ∀ k, s.HouseStarted t k
  around : s.opened.Around t
  fresh : t.Fresh
  notices : t.notices = (s.notices.started (s.foundInFire .one) (s.foundInFire .two)).raised .restarted .none (some code)
  loop : t.loop = { s.loop.initial s.ms with fifo := s.notices.startedFifo (s.foundInFire .one) (s.foundInFire .two) code }

/-- Both houses evaluated, before RESTARTED is raised. -/
def State.evaluated (s : State) : State := (s.opened.evaluateFire .one).evaluateFire .two

theorem State.startSequence_eq (s : State) (code : Code) : s.startSequence code = s.evaluated.raise .restarted .none (some code) := rfl

/-- The two evaluations house by house and around the houses. -/
structure State.Evaluated (s t : State) : Prop where
  houses : ∀ k, s.HouseStarted t k
  around : s.opened.Around t
  fresh : t.Fresh
  notices : t.notices = s.notices.started (s.foundInFire .one) (s.foundInFire .two)
  loop : t.loop = { s.loop.initial s.ms with
    fifo := (s.notices.initial.evaluated .one (s.foundInFire .one)).evaluatedFifo .two (s.foundInFire .two)
      (s.notices.initial.evaluatedFifo .one (s.foundInFire .one) []) }

theorem State.evaluated_evaluated (s : State) : s.Evaluated s.evaluated := by
  have one : State.Local .one s.opened (s.opened.evaluateFire .one) := .evaluateFire .one _
  have two : State.Local .two (s.opened.evaluateFire .one) s.evaluated := .evaluateFire .two _
  have calm : s.opened.orders.restart = .clear := rfl
  have calm' : (s.opened.evaluateFire .one).orders.restart = .clear := by rw [one.around.orders calm]; exact calm
  have started : s.HouseStarted (s.opened.evaluateFire .one) .one := (s.opened_initial .one).evaluateFire (by rw [calm]; nofun)
  have initial : s.HouseInitial (s.opened.evaluateFire .one) .two := (s.opened_initial .two).of_same one.house
  obtain ⟨notices, loop, fresh⟩ := (s.opened_initial .one).evaluateFire_raises (.inl rfl)
  obtain ⟨notices', loop', fresh'⟩ := initial.evaluateFire_raises (by rw [loop]; exact NoticeUnit.evaluatedFifo_lone _ _ _ (.inl rfl))
  refine ⟨fun k => ?_, one.around.trans two.around, fresh' (fresh s.opened_fresh), ?_, ?_⟩
  · cases k with
    | one => exact State.HouseAt.of_same started two.house
    | two => exact initial.evaluateFire (by rw [calm']; nofun)
  · rw [State.evaluated, notices', notices]; rfl
  · rw [State.evaluated, loop', loop, notices]; rfl

theorem State.startSequence_sequenced (s : State) (code : Code) : s.Sequenced (s.startSequence code) code := by
  obtain ⟨houses, around, fresh, notices, loop⟩ := s.evaluated_evaluated
  have raised : ∀ k, State.Local k s.evaluated (s.startSequence code) := fun k => .raise k _ _ _ _
  rw [NoticeUnit.evaluatedFifo_both] at loop
  have lone : s.evaluated.loop.Lone := by
    rw [loop]
    unfold LoopUnit.Lone
    dsimp only
    split
    · exact .inr ⟨_, rfl⟩
    · split
      · exact .inr ⟨_, rfl⟩
      · exact .inl rfl
  refine ⟨fun k => ?_, around.trans (raised .one).around, fun d => ?_, ?_, ?_⟩
  · cases k with
    | one => exact State.HouseAt.of_same (houses .one) (raised .two).house
    | two => exact State.HouseAt.of_same (houses .two) (raised .one).house
  · rw [State.startSequence_eq, State.raise_entry, State.raise_ms]
    exact fresh d
  · rw [State.startSequence_eq, State.raise_notices, notices]
  · have idle : (s.notices.started (s.foundInFire .one) (s.foundInFire .two)).isPending .restarted = false := by
      rw [NoticeUnit.started_isPending]
      simp
    rw [State.startSequence_eq, State.raise_loop_lone lone, notices, idle, NoticeUnit.started_isMasked, Bool.false_or, loop]
    unfold NoticeUnit.startedFifo
    cases s.notices.isMasked .restarted <;> rfl

/-- The notices of a start (R181, R195). -/
theorem State.Sequenced.isPending {code : Code} (a : s.Sequenced t code) (e : Event) :
    t.notices.isPending e = decide (e = .restarted ∨ (e = .fire1 ∧ s.foundInFire .one) ∨ (e = .fire2 ∧ s.foundInFire .two)) := by
  rw [a.notices, NoticeUnit.raised_isPending, NoticeUnit.started_isPending, Bool.eq_iff_iff]
  simp only [Bool.or_eq_true, Bool.and_eq_true, decide_eq_true_eq]
  tauto

theorem State.Sequenced.settings {code : Code} (a : s.Sequenced t code) :
    t.notices.mask = s.notices.mask ∧ t.notices.quietTime = s.notices.quietTime ∧ t.notices.quietTimer = none := by
  rw [a.notices]
  exact s.notices.started_settings _ _

theorem State.Sequenced.alert {code : Code} (a : s.Sequenced t code) :
    t.notices.alert = (t.notices.pending &&& ~~~t.notices.mask != 0) := by
  have rule : t.notices.alert = t.notices.alertCondition := by rw [a.notices]; exact NoticeUnit.rejudge_alertTrue _
  rw [rule, NoticeUnit.alertCondition, a.settings.2.2, Option.isNone_none, Bool.and_true]

theorem State.Sequenced.restarted_cause {code : Code} (a : s.Sequenced t code) :
    t.notices.causes.get Event.restarted.num = { cause := .none, code := some code, count := 1 } := by
  rw [a.notices, NoticeUnit.raised_cause_same, NoticeUnit.started_cause_other (e := .restarted) _ _ _ nofun nofun]
  rfl

theorem State.Sequenced.fire_cause {code : Code} (a : s.Sequenced t code) (found : s.foundInFire k = true) :
    t.notices.causes.get (fireEvent k).num = { cause := .house k, code := some .start, count := 1 } := by
  rw [a.notices, NoticeUnit.raised_cause_ne _ _ _ _ (by cases k <;> nofun), NoticeUnit.started_cause_fire]
  cases k with
  | one => exact if_pos found
  | two => exact if_pos found

theorem State.Sequenced.no_cause {code : Code} (a : s.Sequenced t code) {e : Event} (idle : t.notices.isPending e = false) :
    t.notices.causes.get e.num = { cause := .none, code := none, count := 0 } := by
  rw [a.isPending, decide_eq_false_iff_not, not_or, not_or] at idle
  obtain ⟨other, one, two⟩ := idle
  rw [a.notices, NoticeUnit.raised_cause_ne _ _ _ _ other]
  by_cases first : e = .fire1
  · subst first
    exact (NoticeUnit.started_cause_fire _ _ _ .one).trans (if_neg fun found => one ⟨rfl, found⟩)
  · by_cases second : e = .fire2
    · subst second
      exact (NoticeUnit.started_cause_fire _ _ _ .two).trans (if_neg fun found => two ⟨rfl, found⟩)
    · exact NoticeUnit.started_cause_other _ _ _ first second

theorem State.Sequenced.fifo {code : Code} (a : s.Sequenced t code) :
    t.loop.fifo =
      if s.notices.isMasked .restarted = false then
        [.notice { pending := t.notices.pending, event := .restarted, cause := .none, code := some code, count := 1 }]
      else if s.foundInFire .two = true ∧ s.notices.isMasked .fire2 = false then
        [.notice
          { pending := if s.foundInFire .one then 3 else 2, event := .fire2, cause := .house .two, code := some .start, count := 1 }]
      else if s.foundInFire .one = true ∧ s.notices.isMasked .fire1 = false then
        [.notice { pending := 1, event := .fire1, cause := .house .one, code := some .start, count := 1 }]
      else [] := by
  have contents : (s.notices.started (s.foundInFire .one) (s.foundInFire .two)).raisedContents .restarted .none (some code) =
      { pending := t.notices.pending, event := .restarted, cause := .none, code := some code, count := 1 } := by
    unfold NoticeUnit.raisedContents
    rw [NoticeUnit.started_cause_other (e := .restarted) _ _ _ nofun nofun, a.notices]
    rfl
  rw [a.loop]
  show s.notices.startedFifo _ _ code = _
  rw [NoticeUnit.startedFifo, contents]

/-- The start sequence, with whatever sum its end writes (R192, R194, R195). -/
theorem State.Sequenced.warmStarted {code : Code} (a : s.Sequenced t code) {w : Word} (kept : State.StoreKept { t with checkSum := w }) :
    s.WarmStarted { t with checkSum := w } code where
  starter := a.around.starter
  orders := a.around.orders rfl
  matcher := a.around.matcher
  programme := a.around.programme
  loop := by
    have ms : State.ms { t with checkSum := w } = s.ms := congrArg (· / 10) a.around.now
    rw [ms]
    exact congrArg (fun l : LoopUnit => { l with fifo := [] }) a.loop
  monitors h := (a.houses h.house).mons h rfl
  lamps h := (a.houses h.house).lamps h rfl
  slots h := (a.houses h.house).slots h rfl
  engines k := (a.houses k).eng.trans (by cases k <;> rfl)
  lights k := (a.houses k).light
  fire := ⟨a.around.holdTime, a.around.confirmWindow, fun k => (a.houses k).fire⟩
  drive := a.around.refreshPeriod
  entries d :=
    ⟨(a.around.station d).trans (by rw [State.opened_entry]; rfl), (a.around.fn d).trans (by rw [State.opened_entry]; rfl), (a.fresh d).1,
      (a.fresh d).2.1, (a.fresh d).2.2⟩
  values := ⟨fun h => ⟨(a.houses h.house).motors h rfl, (a.houses h.house).safe h rfl⟩,
    fun k => ⟨(a.houses k).sound, (a.houses k).dim.trans (congrArg (fun l : LightUnit => DriveVal.dim l.lastTriple) (a.houses k).light.symm)⟩⟩
  panel := a.around.panel
  notices := ⟨a.settings.1, a.settings.2.1, a.settings.2.2, a.alert, a.isPending⟩
  causes := ⟨a.restarted_cause, fun _ found => a.fire_cause found, fun _ idle => a.no_cause idle⟩
  fifo := a.fifo
  store := kept
  rest := ⟨a.around.pending, a.around.freeCount⟩

theorem State.warmStart_started {s : State} (kept : s.StoreKept) (code : Code) : s.WarmStarted (s.warmStart code) code :=
  (s.startSequence_sequenced code).warmStarted (State.sealFrom_kept kept)

end Sys2Proof.Machine
end

section
/-! SUPPORT. The conditions held at every moment, over every command: events, stops and starts. -/

namespace Sys2Proof.Machine

variable {c : Claims} {s t u : State} {k : House} {h : Head}

/-! ### The conditions between commands -/

/-- A state between commands: of the conditions held at every moment, those that a set of claims names. -/
structure State.Stands (c : Claims) (s : State) : Prop where
  lines : c.lines → s.LinesTrue
  lamps : c.lamps → s.LampsKept
  queues : c.queues → s.QueuesKept
  lights : c.lights → s.LightsKept
  runups : c.runups → s.RunupsKept
  fires : c.fires → s.FiresKept
  shows : c.shows → s.ShowsKept

/-- The same conditions with no head and no house set apart, as an event finds and leaves them. -/
def Claims.whole (c : Claims) : Claims := { c with ajar := fun _ => False, exempt := fun _ => False, free := fun _ => False }

theorem State.stands_iff (awake : s.starter.stopped = false) : s.Stands c ↔ s.Meets c.whole := by
  constructor
  · rintro ⟨lines, lamps, queues, lights, runups, fires, shows⟩
    exact ⟨fun claimed => (State.linesTrue_iff_live awake).mp (lines claimed), fun claimed => s.lampsKept_iff.mp (lamps claimed), queues, lights,
      runups, fires, shows, fun _ => False.elim⟩
  · rintro ⟨lines, lamps, queues, lights, runups, fires, shows, -⟩
    exact ⟨fun claimed => (State.linesTrue_iff_live awake).mpr (lines claimed), fun claimed => s.lampsKept_iff.mpr (lamps claimed), queues, lights,
      runups, fires, shows⟩

/-- Between commands the lines are the only condition in which the stop counts. -/
theorem State.stands_split : s.Stands c ↔ (c.lines → s.LinesTrue) ∧ s.Meets { c.whole with lines := False } := by
  constructor
  · rintro ⟨lines, lamps, queues, lights, runups, fires, shows⟩
    exact ⟨lines, False.elim, fun claimed => s.lampsKept_iff.mp (lamps claimed), queues, lights, runups, fires, shows, fun _ => False.elim⟩
  · rintro ⟨lines, -, lamps, queues, lights, runups, fires, shows, -⟩
    exact ⟨lines, fun claimed => s.lampsKept_iff.mpr (lamps claimed), queues, lights, runups, fires, shows⟩

/-- Moments, the lines of the start logic but for the stop, the orders, the sum and the queue of commands are no part of the conditions. -/
theorem State.Stands.of_eq (m : s.Stands c) (monitors : t.monitors = s.monitors) (lamps : t.lamps = s.lamps) (slots : t.slots = s.slots)
    (engines : t.engines = s.engines) (lights : t.lights = s.lights) (house : t.fire.house = s.fire.house)
    (notices : t.notices = s.notices) (entries : t.drive.entries = s.drive.entries) (loop : t.loop = s.loop)
    (stopped : t.starter.stopped = s.starter.stopped) : t.Stands c := by
  obtain ⟨lines, rest⟩ := State.stands_split.mp m
  refine State.stands_split.mpr ⟨fun claimed => ?_, rest.ofTables monitors lamps slots engines lights house notices entries loop⟩
  have mon : ∀ h, t.mon h = s.mon h := fun h => by rw [State.mon, monitors]; rfl
  have fireOf : ∀ k, t.fireOf k = s.fireOf k := fun k => by rw [State.fireOf, house]; rfl
  have inFire : ∀ k, t.inFire k = s.inFire k := fun k => by rw [State.inFire, fireOf]; rfl
  have holds : ∀ h, t.holdCondition h = s.holdCondition h := fun h => by rw [State.holdCondition, mon, fireOf]; rfl
  obtain ⟨shut, arc, port, gate, alert, bypass⟩ := lines claimed
  constructor
  case shut => intro h; rw [mon, holds, stopped]; exact shut h
  case arc => intro h; rw [State.lamp, lamps, stopped]; exact arc h
  case port => intro k; rw [fireOf, inFire, stopped]; exact port k
  case gate => intro k; rw [fireOf, inFire]; exact gate k
  case alert => rw [notices, stopped]; exact alert
  case bypass => rw [loop, stopped]; exact bypass

theorem State.Stands.elapse (m : s.Stands c) (dt : Nat) : (s.elapse dt).Stands c := m.of_eq rfl rfl rfl rfl rfl rfl rfl rfl rfl rfl

theorem State.Stands.withLines (m : s.Stands c) (i : Instr) : (s.withLines i).Stands c := by
  cases i <;> exact m.of_eq rfl rfl rfl rfl rfl rfl rfl rfl rfl rfl

theorem State.Stands.setRestart (m : s.Stands c) (r : RestartWait) : (s.setRestart r).Stands c :=
  m.of_eq rfl rfl rfl rfl rfl rfl rfl rfl rfl rfl

theorem State.Stands.sealFrom (m : s.Stands c) (b : State) : (s.sealFrom b).Stands c :=
  State.Stands.of_eq (t := { s with checkSum := _ }) m rfl rfl rfl rfl rfl rfl rfl rfl rfl rfl

theorem State.Stands.arbitrate (m : s.Stands c) (awake : s.starter.stopped = false) : s.arbitrate.Stands c :=
  (State.stands_iff (by rw [(State.Beside.arbitrate s).starter]; exact awake)).mpr ((State.stands_iff awake).mp m).arbitrate

/-! ### The stop (R193) -/

theorem State.beginStop_mon (s : State) (h : Head) : s.beginStop.mon h = { s.mon h with hold := false } := by cases h <;> rfl
theorem State.beginStop_lamp (s : State) (h : Head) : s.beginStop.lamp h = { s.lamp h with contactor := false } := by cases h <;> rfl
theorem State.beginStop_fireOf (s : State) (k : House) : s.beginStop.fireOf k = { s.fireOf k with port := false } := by cases k <;> rfl
theorem State.beginStop_inFire (s : State) (k : House) : s.beginStop.inFire k = s.inFire k := by
  rw [State.inFire, State.beginStop_fireOf]; rfl

/-- A stop releases every line whose rule the stop ends, and no other condition is about the lines. -/
theorem State.Stands.beginStop (m : s.Stands c) : s.beginStop.Stands c where
  lines claimed :=
    { shut := fun h => by rw [State.beginStop_mon]; exact (Bool.and_false _).symm
      arc := fun h => by rw [State.beginStop_lamp]; exact (Bool.and_false _).symm
      port := fun k => by rw [State.beginStop_fireOf]; exact (Bool.and_false _).symm
      gate := fun k => by rw [State.beginStop_fireOf, State.beginStop_inFire]; exact (m.lines claimed).gate k
      alert := (Bool.and_false _).symm
      bypass := (Bool.or_true _).symm }
  lamps claimed h := by
    obtain ⟨lit, idle, rate, base, feed, acc, rem, rod⟩ := m.lamps claimed h
    constructor <;> rw [State.beginStop_lamp]
    case lit => rw [State.beginStop_mon, State.beginStop_inFire]; exact lit
    case feed => exact feed
    all_goals assumption
  queues claimed := ⟨(m.queues claimed).repeats, (m.queues claimed).transit, (m.queues claimed).fifo, (m.queues claimed).notices,
    (m.queues claimed).losses, (m.queues claimed).search, (m.queues claimed).held⟩
  lights claimed k := (m.lights claimed k).of_eq rfl rfl rfl
  runups := m.runups
  fires claimed k := by
    obtain ⟨latch, bit, unmasked, request, lights, sound, engine, list, fires⟩ := m.fires claimed k
    have unit := s.beginStop_fireOf k
    have inFire := s.beginStop_inFire k
    exact
      { latch := by rw [unit, inFire]; exact latch
        bit := inFire ▸ bit
        unmasked := unmasked
        request := inFire ▸ request
        lights := inFire ▸ lights
        sound := inFire ▸ sound
        engine := inFire ▸ engine
        list := by rw [unit]; exact list
        fires := by rw [unit, inFire]; exact fires }
  shows claimed k := (m.shows claimed k).of_eq (fun _ _ => rfl) rfl (fun _ _ => id) (.inl rfl)

/-! ### The starts (R194, R195) -/

/-- What a start takes over from the retained contents: the lamps' records in form, and no mask on the fire events. -/
structure State.Retains (c : Claims) (s : State) : Prop where
  records : c.lamps → ∀ h, (s.lamp h).record.base ≤ (s.lamp h).record.fmax ∧ (s.lamp h).rod ≤ 65535 ∧ (s.lamp h).record.trimLength ≤ 65535
  unmasked : c.fires → ∀ k, s.notices.isMasked (fireEvent k) = false

theorem State.Stands.retains (m : s.Stands c) : s.Retains c where
  records claimed h := ⟨(m.lamps claimed h).base, (m.lamps claimed h).rod⟩
  unmasked claimed k := (m.fires claimed k).unmasked

section
variable {code : Code}

theorem State.WarmStarted.inFire (a : s.WarmStarted t code) (k : House) : t.inFire k = s.foundInFire k := by
  rw [State.inFire, a.fire.2.2]
  cases s.foundInFire k <;> rfl

theorem State.WarmStarted.role (a : s.WarmStarted t code) (h : Head) : t.role h = .empty := by rw [State.role, a.slots]

/-- A field of the loop unit that is not the answer/notice FIFO. -/
theorem State.WarmStarted.loop_field (a : s.WarmStarted t code) {α : Type} (f : LoopUnit → α) (other : ∀ l, f { l with fifo := [] } = f l) :
    f t.loop = f { LoopUnit.cold t.ms with guardTime := s.loop.guardTime, returnLimit := s.loop.returnLimit, console := s.loop.console } := by
  rw [← other, a.loop]
  rfl

theorem State.WarmStarted.linesTrue (a : s.WarmStarted t code) : t.LinesTrue := by
  have awake : t.starter.stopped = false := by rw [a.starter]
  obtain ⟨-, -, quiet, alert, -⟩ := a.notices
  refine (State.linesTrue_iff_live awake).mpr ⟨fun h _ => ?_, fun h => ?_, fun k => ?_, fun k => ?_, ?_, ?_⟩
  · rw [State.holdCondition, a.monitors]; rfl
  · rw [a.lamps]; rfl
  · rw [a.inFire, a.fire.2.2]
  · rw [a.inFire, a.fire.2.2]
  · rw [NoticeUnit.AlertTrue, alert, NoticeUnit.alertCondition, quiet, Option.isNone_none, Bool.and_true]
  · rw [a.loop_field LoopUnit.bypass fun _ => rfl, a.loop_field LoopUnit.state fun _ => rfl]; rfl

theorem State.WarmStarted.lampsKept (a : s.WarmStarted t code)
    (records : ∀ h, (s.lamp h).record.base ≤ (s.lamp h).record.fmax ∧ (s.lamp h).rod ≤ 65535 ∧ (s.lamp h).record.trimLength ≤ 65535) :
    t.LampsKept := fun h => by
  have feed := (a.values.1 h).2.2.2
  constructor <;> rw [a.lamps]
  case lit => nofun
  case idle => exact fun _ => rfl
  case rate => exact Nat.zero_le _
  case base => exact (records h).1
  case feed => exact feed
  case acc => exact (by decide : (-32767 : Int) ≤ 0 ∧ (0 : Int) ≤ 32767)
  case rem => exact (by decide : 0 < 60000)
  case rod => exact (records h).2

theorem State.WarmStarted.queuesKept (a : s.WarmStarted t code) : t.QueuesKept := by
  have one : t.loop.fifo = [] ∨ ∃ c, t.loop.fifo = [.notice c] := by
    rw [a.fifo]
    split
    · exact .inr ⟨_, rfl⟩
    · split
      · exact .inr ⟨_, rfl⟩
      · split
        · exact .inr ⟨_, rfl⟩
        · exact .inl rfl
  have repeats : t.loop.repeats = [] := a.loop_field LoopUnit.repeats fun _ => rfl
  have transit : t.loop.transit = [] := a.loop_field LoopUnit.transit fun _ => rfl
  have losses : t.loop.losses = 0 := a.loop_field LoopUnit.losses fun _ => rfl
  refine ⟨?_, ?_, ?_, ?_, ?_, fun _ => ⟨transit, losses⟩, fun _ => repeats⟩
  · simp [repeats]
  · simp [transit]
  · obtain none | ⟨c, one⟩ := one
    · simp [none]
    · simp [one]
  · obtain none | ⟨c, one⟩ := one
    · simp [none]
    · simp [one, Waiting.isNotice, Waiting.isAnswer]
  · omega

theorem State.WarmStarted.lightsKept (a : s.WarmStarted t code) : t.LightsKept := fun k => by
  refine State.lightKept_iff.mpr ⟨fun _ => ?_, fun f fade => ?_⟩
  · rw [a.lights]
    cases s.foundInFire k <;> rfl
  · rw [a.lights] at fade
    cases fade

theorem State.WarmStarted.runupsKept (a : s.WarmStarted t code) : t.RunupsKept := fun k r runup => by
  rw [a.engines] at runup
  cases runup

theorem State.WarmStarted.firesKept (a : s.WarmStarted t code) (unmasked : ∀ k, s.notices.isMasked (fireEvent k) = false) :
    t.FiresKept := fun k => by
  obtain ⟨mask, -, -, -, pending⟩ := a.notices
  have unit := a.fire.2.2 k
  exact
    { latch := by rw [unit, a.inFire]
      bit := by
        rw [pending, a.inFire]
        cases k <;> simp [fireEvent]
      unmasked := by rw [NoticeUnit.isMasked, mask]; exact unmasked k
      request := by rw [a.lights, a.inFire]
      lights := fun inFire => by
        rw [a.inFire] at inFire
        rw [a.lights, inFire]
        exact ⟨rfl, rfl⟩
      sound := fun _ => (a.values.2 k).1
      engine := fun inFire => by
        rw [a.inFire] at inFire
        rw [a.engines, inFire]
        exact ⟨rfl, rfl⟩
      list := by rw [unit]; exact ⟨by simp, by simp⟩
      fires := fun _ d inList => by
        rw [unit] at inList
        cases inList }

theorem State.WarmStarted.showsKept (a : s.WarmStarted t code) : t.ShowsKept := fun k => by
  have dark : ∀ h, t.role h ≠ .showing := fun h showing => by rw [a.role] at showing; cases showing
  exact
    { one := fun h _ _ _ showing => absurd showing (dark h)
      dousers := fun h _ opened => by
        have shut := (a.values.1 h).2.1
        rw [shut] at opened
        cases opened
      sound := fun h sounds => by
        rw [(a.values.2 k).1] at sounds
        cases sounds
      states := fun h _ showing => absurd showing (dark h)
      runup := fun r runup => by
        rw [a.engines] at runup
        cases runup
      pending := fun change => by
        rw [a.engines] at change
        cases change }

/-- The state a start leaves meets every condition. -/
theorem State.WarmStarted.stands (a : s.WarmStarted t code) (retains : s.Retains c) : t.Stands c where
  lines _ := a.linesTrue
  lamps claimed := a.lampsKept (retains.records claimed)
  queues _ := a.queuesKept
  lights _ := a.lightsKept
  runups _ := a.runupsKept
  fires claimed := a.firesKept (retains.unmasked claimed)
  shows _ := a.showsKept

end

theorem State.defaulted_retains (s : State) : s.defaulted.Retains c where
  records _ h := by
    have delivered : (s.defaulted.lamp h).record = LampRecord.delivered ∧ (s.defaulted.lamp h).rod = 9000 := by cases h <;> exact ⟨rfl, rfl⟩
    rw [delivered.1, delivered.2]
    decide
  unmasked _ k := by
    have mask : s.defaulted.notices.mask = 0 := rfl
    rw [NoticeUnit.isMasked, mask]
    exact BitVec.getLsbD_zero

theorem State.defaulted_kept (s : State) : s.defaulted.StoreKept := State.writeStore_kept _

theorem State.coldStart_started (s : State) : s.defaulted.WarmStarted s.coldStart .cold := State.warmStart_started s.defaulted_kept .cold

theorem State.Retains.startUp (retains : s.Retains c) (clear : Bool) (code : Code) : (s.startUp clear code).Stands c := by
  unfold State.startUp
  split
  · exact s.coldStart_started.stands s.defaulted_retains
  · rename_i verifies
    have kept : s.StoreKept := s.sumVerifies_iff.mp (by simp at verifies; exact verifies.1)
    exact (State.warmStart_started kept code).stands retains

/-! ### Every command -/

theorem State.Stands.restartNow (m : s.Stands c) : s.restartNow.Stands c := by
  unfold State.restartNow
  split
  · exact m.beginStop.setRestart _
  · exact m.beginStop.retains.startUp _ _

theorem State.Stands.conclude (m : s.Stands c) (awake : s.starter.stopped = false) (b : State) : (s.conclude b).Stands c := by
  unfold State.conclude
  dsimp only
  split
  · exact (m.sealFrom b).restartNow
  · exact (m.sealFrom b).arbitrate awake

theorem State.Stands.endStop (m : s.Stands c) : s.endStop.Stands c := by
  unfold State.endStop
  split
  · exact m.retains.startUp _ _
  · exact m

/-- An order that moves the tables leaves the lines of the start logic. -/
theorem judgeOrder_starter {o : Order} (moves : movesTables o = true) (s : State) : (judgeOrder o s).1.starter = s.starter := by
  cases o <;> cases moves
  case writeReact p =>
    show (judgeWriteReact p s).1.starter = _
    obtain same | ⟨_, _, -, written⟩ := judgeWriteReact_cases p s
    · rw [same]
    · rw [written]
  case writeReel p =>
    show (judgeWriteReel p s).1.starter = _
    obtain same | ⟨_, -, _, written, -⟩ := judgeWriteReel_cases p s
    · rw [same]
    · rw [written]; rfl
  case splitPoint n =>
    show (judgeSplit n s).1.starter = _
    obtain same | ⟨-, -, -, moved⟩ := judgeSplit_cases n s
    · rw [same]
    · rw [moved]
  case lock => rfl

theorem effect_starter {i : Instr} {dt : Nat} {f : State → State} (effect : commandEffect i = some (dt, f)) (s : State) :
    (f s).starter = s.starter := by
  obtain kept | ⟨l, o, moves, judged⟩ := effect_tables effect s
  · exact kept.starter
  · rw [judged.starter, judgeOrder_starter moves]; rfl

/-- Each condition is kept by every command, without a premise about the others. -/
theorem exec_stands {i : Instr} (m : s.Stands c) (run : exec i s = .next t) : t.Stands c := by
  obtain ⟨dt, f, effect, e⟩ | ⟨dt, ⟨-, e⟩ | ⟨-, e⟩⟩ | ⟨dt, clear, ⟨-, e⟩ | ⟨-, e⟩⟩ := exec_cases i s
  · obtain ⟨-, rfl⟩ | ⟨awake, rfl⟩ := event_cases (e.symm.trans run)
    · exact (m.withLines i).elapse dt
    · have found := (State.stands_iff (s := (s.withLines i).elapse dt) awake).mp ((m.withLines i).elapse dt)
      have still : (f ((s.withLines i).elapse dt)).starter.stopped = false := by rw [effect_starter effect]; exact awake
      exact ((State.stands_iff still).mpr (found.effect (fun _ => not_false) effect)).conclude still _
  all_goals cases e.symm.trans run
  · unfold State.supplyFail
    dsimp only
    split
    · exact (m.elapse dt).of_eq rfl rfl rfl rfl rfl rfl rfl rfl rfl rfl
    · exact (m.elapse dt).beginStop.of_eq rfl rfl rfl rfl rfl rfl rfl rfl rfl rfl
  · unfold State.resetAssert
    dsimp only
    split
    · exact (m.elapse dt).of_eq rfl rfl rfl rfl rfl rfl rfl rfl rfl rfl
    · exact (m.elapse dt).beginStop.of_eq rfl rfl rfl rfl rfl rfl rfl rfl rfl rfl
  · exact State.Stands.endStop (m.of_eq rfl rfl rfl rfl rfl rfl rfl rfl rfl rfl)
  · exact State.Stands.endStop (m.of_eq rfl rfl rfl rfl rfl rfl rfl rfl rfl rfl)

theorem step_stands (m : s.Stands c) (next : step s = .next t) : t.Stands c := by
  obtain rfl | ⟨i, rest, -, run⟩ := step_cases next
  · exact m
  · have found : State.Stands c { s with pending := rest } := m.of_eq rfl rfl rfl rfl rfl rfl rfl rfl rfl rfl
    exact exec_stands found run

/-! ### The statements -/

/-- The claim that makes none. -/
def Claims.none : Claims :=
  { lines := False, ajar := fun _ => False, lamps := False, exempt := fun _ => False, queues := False, lights := False, runups := False
    fires := False, shows := False, free := fun _ => False }

theorem State.stands_none (s : State) : s.Stands .none := ⟨nofun, nofun, nofun, nofun, nofun, nofun, nofun⟩

/-- Settles O53: the claim of the lines alone. -/
theorem linesStayTrue : Obligations.LinesStayTrue := fun s _ kept next =>
  (step_stands (c := { Claims.none with lines := True }) { s.stands_none with lines := fun _ => kept } next).lines trivial

/-- Settles O54: the claim of the lamps alone. -/
theorem lampsStayInBounds : Obligations.LampsStayInBounds := fun s _ kept next =>
  (step_stands (c := { Claims.none with lamps := True }) { s.stands_none with lamps := fun _ => kept } next).lamps trivial

/-- Settles O55: the claim of the queues alone. -/
theorem queuesStayBounded : Obligations.QueuesStayBounded := fun s _ kept next =>
  (step_stands (c := { Claims.none with queues := True }) { s.stands_none with queues := fun _ => kept } next).queues trivial

/-- Settles O56: the claim of the fire conditions alone. -/
theorem fireConditionHolds : Obligations.FireConditionHolds := fun s _ kept next =>
  (step_stands (c := { Claims.none with fires := True }) { s.stands_none with fires := fun _ => kept } next).fires trivial

/-- Settles O50: the claims of the pictures, of the lights and of the run-ups, each alone. -/
theorem showAndLightsStayTrue : Obligations.ShowAndLightsStayTrue :=
  ⟨fun s _ kept next => (step_stands (c := { Claims.none with shows := True }) { s.stands_none with shows := fun _ => kept } next).shows trivial,
    fun s _ kept next =>
      (step_stands (c := { Claims.none with lights := True }) { s.stands_none with lights := fun _ => kept } next).lights trivial,
    fun s _ kept next =>
      (step_stands (c := { Claims.none with runups := True }) { s.stands_none with runups := fun _ => kept } next).runups trivial⟩

end Sys2Proof.Machine
end

section
/-! SUPPORT. The reset state (R195; log entry 4): its values, and the conditions it meets. -/

namespace Sys2Proof.Machine

/-! ### The reset state, piece by piece -/

theorem reset_mon (h : Head) : State.reset.mon h = Monitor.cold := by cases h <;> rfl
theorem reset_lamp (h : Head) : State.reset.lamp h = Lamp.cold := by cases h <;> rfl
theorem reset_slot (h : Head) : State.reset.slot h = Slot.vacant := by cases h <;> rfl
theorem reset_role (h : Head) : State.reset.role h = .empty := by rw [State.role, reset_slot]; rfl
theorem reset_light (k : House) : State.reset.light k = LightUnit.cold := by cases k <;> rfl
theorem reset_fireOf (k : House) : State.reset.fireOf k = FireHouse.clear := by cases k <;> rfl
theorem reset_inFire (k : House) : State.reset.inFire k = false := by rw [State.inFire, reset_fireOf]; rfl
theorem reset_eng (k : House) : State.reset.eng k = Engine.cold (Programme.cold.first k) := by cases k <;> rfl
theorem reset_runup (k : House) : (State.reset.eng k).runup = none := by rw [reset_eng]; rfl

theorem reset_entry (d : DriveId) : State.reset.entry d = DriveEntry.safe (PerHouse.all ⟨255, 255, 255⟩) 0 d 0 (deliveredFn d) := by
  rcases d with h | h | h | h | k | k
  case sound => cases k <;> rfl
  case dim => cases k <;> rfl
  all_goals cases h <;> rfl

/-! ### The conditions it meets -/

theorem reset_linesTrue : State.reset.LinesTrue where
  shut h := by rw [State.holdCondition, reset_mon]; rfl
  arc h := by rw [reset_lamp]; rfl
  port k := by rw [reset_inFire, reset_fireOf]; rfl
  gate k := by rw [reset_inFire, reset_fireOf]; rfl
  alert := by decide
  bypass := rfl

theorem reset_lampsKept : State.reset.LampsKept := fun h => by
  constructor <;> rw [reset_lamp]
  case lit => nofun
  case feed => rw [reset_entry]; rfl
  all_goals decide

theorem reset_queuesKept : State.reset.QueuesKept where
  repeats := by decide
  transit := by decide
  fifo := by decide
  notices := by decide
  losses := by decide
  search _ := ⟨rfl, rfl⟩
  held _ := rfl

theorem reset_firesKept : State.reset.FiresKept := fun k => by
  constructor
  case latch => rw [reset_inFire, reset_fireOf]; rfl
  case bit => rw [reset_inFire]; cases k <;> decide
  case unmasked => cases k <;> decide
  case request => rw [reset_inFire, reset_light]; rfl
  case lights => rw [reset_inFire]; nofun
  case sound => rw [reset_inFire]; nofun
  case engine => rw [reset_inFire]; nofun
  case list => rw [reset_fireOf]; exact ⟨by decide, List.nodup_nil⟩
  case fires => rw [reset_fireOf]; nofun

theorem reset_showsKept : State.reset.ShowsKept := fun k => by
  have dark : ∀ h, State.reset.role h ≠ .showing := fun h showing => by rw [reset_role] at showing; cases showing
  exact
    { one := fun h _ _ _ showing => absurd showing (dark h)
      dousers := fun h _ opened => by rw [reset_entry] at opened; cases opened
      sound := fun h sounds => by rw [reset_entry] at sounds; cases sounds
      states := fun h _ showing => absurd showing (dark h)
      runup := fun r runup => by rw [reset_runup] at runup; cases runup
      pending := fun change => by rw [reset_eng] at change; cases change }

theorem reset_lightsKept : State.reset.LightsKept := fun k => by
  constructor <;> rw [reset_light]
  · exact fun _ => rfl
  · nofun

theorem reset_runupsKept : State.reset.RunupsKept := fun k r runup => by
  rw [reset_runup] at runup
  cases runup

/-- The delivered check sum is the sum of the delivered contents. -/
theorem reset_storeKept : State.reset.StoreKept := by
  have sum : State.reset.checkSum = storeSum State.reset.retained := by decide +kernel
  exact sum

/-- Settles O59: each condition on the reset state's own values. -/
theorem resetMeetsConditions : Obligations.ResetMeetsConditions :=
  ⟨reset_linesTrue, reset_lampsKept, reset_queuesKept, reset_firesKept, State.programmeKept_iff.mpr .cold, reset_storeKept, reset_showsKept,
    reset_lightsKept, reset_runupsKept⟩

/-- Settles O52: the reset state piece by piece. -/
theorem resetIsAColdStart : Obligations.ResetIsAColdStart := by
  refine ⟨rfl, rfl, rfl, rfl, rfl, rfl, rfl, rfl, rfl, rfl, fun i => ?table, rfl, fun i => ?reels, fun k => ?house, fun h => ?head,
    fun d => ?entry, rfl, rfl, rfl, by decide, reset_showsKept, reset_lightsKept⟩
  case table =>
    have cell : State.reset.matcher.table.get i = ReactEntry.cold := Table.get_replicate 32 _ i
    rw [cell]; rfl
  case reels =>
    have cell : State.reset.programme.reels.get i = Reel.vacant := Table.get_replicate 64 _ i
    rw [cell]; rfl
  case house => rw [reset_eng, reset_fireOf, reset_light]; exact ⟨rfl, rfl, rfl⟩
  case head => rw [reset_lamp, reset_mon, reset_role]; exact ⟨rfl, rfl, rfl, rfl, rfl, rfl⟩
  case entry => rw [reset_entry]; rfl

end Sys2Proof.Machine
end

section
/-! SUPPORT. The coding of orders (R182, section 10.7): decoding by code, and the round trip. -/

namespace Sys2Proof.Machine

/-! ### Decoding by code -/

/-- Decoding once the code is known: parameters of the number the code allows, or the refusal. -/
def decodeParams (c : Byte) (ps : List Byte) : Nat → Order
  | 0x01 => match ps with | [sec, a, b, page] => .read sec a b page | _ => .bad c
  | 0x02 => match ps with | [i, fl, so, k, v, m, ac, t] => .writeReact ⟨i, fl, so, k, v, m, ac, t⟩ | _ => .bad c
  | 0x03 => match ps with | [i, st, fc] => .writeMap i st fc | _ => .bad c
  | 0x04 =>
    match ps with
    | [i, fl, l1, l0, m1, m0, c1, c0, w, p, t] => .writeReel ⟨i, fl, wordOf l1 l0, wordOf m1 m0, wordOf c1 c0, w, p, t⟩
    | _ => .bad c
  | 0x05 => match ps with | [h, it, v1, v0] => .writeLamp h it (wordOf v1 v0) | _ => .bad c
  | 0x06 => match ps with | [it, ix, v1, v0] => .setup it ix (wordOf v1 v0) | _ => .bad c
  | 0x07 => match ps with | [k, e] => .curvePoint k e | _ => .bad c
  | 0x08 => if 1 ≤ ps.length ∧ ps.length ≤ 11 then .curveData .one ps else .bad c
  | 0x09 => if 1 ≤ ps.length ∧ ps.length ≤ 11 then .curveData .two ps else .bad c
  | 0x0A => match ps with | [h] => .trim h none | [h, n1, n0] => .trim h (some (wordOf n1 n0)) | _ => .bad c
  | 0x0B => match ps with | [s] => .splitPoint s | _ => .bad c
  | 0x0C => match ps with | [a, l] => .address a l | _ => .bad c
  | 0x0D => match ps with | [] => .lock | _ => .bad c
  | 0x0E => match ps with | [f, t] => .showFn f t none | [f, t, s] => .showFn f t (some s) | _ => .bad c
  | 0x0F => match ps with | [m1, m0] => .ack (wordOf m1 m0) | _ => .bad c
  | 0x10 => match ps with | [] => .endAlert | _ => .bad c
  | 0x11 => match ps with | [m1, m0] => .mask (wordOf m1 m0) | _ => .bad c
  | 0x12 => match ps with | [] => .leave | _ => .bad c
  | 0x13 => match ps with | [] => .join | _ => .bad c
  | 0x14 => match ps with | [] => .clearCounters | _ => .bad c
  | 0x15 => match ps with | [] => .restart | _ => .bad c
  | _ => .bad c

theorem decodeOrder_cons (c : Byte) (ps : List Byte) : decodeOrder (c :: ps) = decodeParams c ps c.toNat := by
  unfold decodeOrder
  dsimp only
  generalize c.toNat = n
  rcases n with _ | _ | _ | _ | _ | _ | _ | _ | _ | _ | _ | _ | _ | _ | _ | _ | _ | _ | _ | _ | _ | _ | n
  all_goals rcases ps with _ | ⟨p1, _ | ⟨p2, _ | ⟨p3, _ | ⟨p4, _ | ⟨p5, _ | ⟨p6, _ | ⟨p7, _ | ⟨p8, _ | ⟨p9, _ | ⟨p10, _ | ⟨p11, _ | ⟨p12, _⟩⟩⟩⟩⟩⟩⟩⟩⟩⟩⟩⟩
  all_goals rfl

theorem byte_eq_ofNat {b : Byte} {n : Nat} (e : b.toNat = n) : b = BitVec.ofNat 8 n :=
  BitVec.eq_of_toNat_eq (by rw [← e, BitVec.toNat_ofNat, Nat.mod_eq_of_lt b.isLt])

@[simp] theorem hiByte_wordOf (hi lo : Byte) : hiByte (wordOf hi lo) = hi := by
  refine BitVec.eq_of_getLsbD_eq fun i inside => ?_
  rw [hiByte, wordOf, BitVec.getLsbD_extractLsb', BitVec.getLsbD_append]
  simp [inside]

@[simp] theorem loByte_wordOf (hi lo : Byte) : loByte (wordOf hi lo) = lo := by
  refine BitVec.eq_of_getLsbD_eq fun i inside => ?_
  rw [loByte, wordOf, BitVec.getLsbD_extractLsb', BitVec.getLsbD_append]
  simp [inside]

@[simp] theorem wordOf_bytes (w : Word) : wordOf (hiByte w) (loByte w) = w := by
  refine BitVec.eq_of_getLsbD_eq fun i inside => ?_
  rw [hiByte, loByte, wordOf, BitVec.getLsbD_append, BitVec.getLsbD_extractLsb', BitVec.getLsbD_extractLsb']
  by_cases low : i < 8
  · simp [low]
  · have high : i - 8 < 8 := by omega
    simp [low, high, Nat.add_sub_cancel' (by omega : 8 ≤ i)]

/-- Parameters of a number the code does not allow are refused (R182). -/
theorem decodeParams_eq_ite (c : Byte) (ps : List Byte) (n : Nat) :
    decodeParams c ps n = if (paramLengths n).contains ps.length then decodeParams c ps n else .bad c := by
  rcases n with _ | _ | _ | _ | _ | _ | _ | _ | _ | _ | _ | _ | _ | _ | _ | _ | _ | _ | _ | _ | _ | _ | n
  all_goals rcases ps with _ | ⟨p1, _ | ⟨p2, _ | ⟨p3, _ | ⟨p4, _ | ⟨p5, _ | ⟨p6, _ | ⟨p7, _ | ⟨p8, _ | ⟨p9, _ | ⟨p10, _ | ⟨p11, _ | ⟨p12, _⟩⟩⟩⟩⟩⟩⟩⟩⟩⟩⟩⟩
  all_goals rfl

/-- Parameters that are not refused are laid out by the order they make as they came (section 10.7). -/
theorem encodeOrder_decodeParams {c : Byte} {ps : List Byte} {n : Nat} (code : c = BitVec.ofNat 8 n)
    (good : ∀ c', decodeParams c ps n ≠ .bad c') : encodeOrder (decodeParams c ps n) = c :: ps := by
  revert good
  unfold decodeParams
  split
  case h_22 => exact fun good => absurd rfl (good _)
  all_goals intro good
  all_goals subst code
  case h_8 =>
    by_cases fits : 1 ≤ ps.length ∧ ps.length ≤ 11
    · rw [if_pos fits]; rfl
    · rw [if_neg fits] at good; exact absurd rfl (good _)
  case h_9 =>
    by_cases fits : 1 ≤ ps.length ∧ ps.length ≤ 11
    · rw [if_pos fits]; rfl
    · rw [if_neg fits] at good; exact absurd rfl (good _)
  all_goals split at good
  all_goals simp [encodeOrder, Order.code, Order.params] at good ⊢

/-- A payload whose structure is refused decodes to the refusal (R182). -/
theorem decodeOrder_bad {p : List Byte} (bad : badPayload p = true) : decodeOrder p = .bad (p.headD 0) ∧ p.length ≤ 12 := by
  unfold badPayload at bad
  rw [Bool.and_eq_true, decide_eq_true_eq] at bad
  obtain ⟨short, refused⟩ := bad
  refine ⟨?_, short⟩
  cases p with
  | nil => rfl
  | cons c ps =>
    rw [decodeOrder_cons, decodeParams_eq_ite, if_neg]
    · rfl
    · intro fits
      dsimp only at refused
      rw [fits] at refused
      cases refused

/-- The bytes of CURVE DATA are as many as its payload carries (R139). -/
def Order.Fits (o : Order) : Prop := ∀ k bs, o = .curveData k bs → 1 ≤ bs.length ∧ bs.length ≤ 11

theorem decode_encode {o : Order} (whole : ∀ c, o ≠ .bad c) (fits : Order.Fits o) : decodeOrder (encodeOrder o) = o := by
  unfold encodeOrder
  rw [decodeOrder_cons]
  cases o with
  | bad c => exact absurd rfl (whole c)
  | curveData k bs =>
    have inside := fits k bs rfl
    cases k <;> exact if_pos inside
  | trim h n =>
    cases n with
    | none => rfl
    | some n => exact congrArg (fun w => Order.trim h (some w)) (wordOf_bytes n)
  | showFn f t st => cases st <;> rfl
  | writeReel p =>
    show Order.writeReel ⟨_, _, wordOf _ _, wordOf _ _, wordOf _ _, _, _, _⟩ = _
    simp only [wordOf_bytes]
  | writeLamp h i v => exact congrArg (Order.writeLamp h i) (wordOf_bytes v)
  | setup i x v => exact congrArg (Order.setup i x) (wordOf_bytes v)
  | ack m => exact congrArg Order.ack (wordOf_bytes m)
  | mask m => exact congrArg Order.mask (wordOf_bytes m)
  | _ => rfl

theorem encode_decode {p : List Byte} (good : ∀ c, decodeOrder p ≠ .bad c) : encodeOrder (decodeOrder p) = p := by
  cases p with
  | nil => exact absurd rfl (good 0)
  | cons c ps =>
    rw [decodeOrder_cons] at good ⊢
    exact encodeOrder_decodeParams (byte_eq_ofNat rfl) good

/-! ### An order's row (log entry 6) -/

/-- An order's row of the opcode table hears that order, and no line moves with it. -/
theorem row_effect {o : Order} {dt : Nat} {src : Byte} {c : Instr} (row : o.row dt src = some c) :
    commandEffect c = some (dt, State.hearOrder src o) ∧ ∀ s : State, s.withLines c = s := by
  cases o with
  | read sec a b page =>
    simp only [Order.row] at row
    split at row
    case h_14 => cases row
    all_goals
      rename_i code
      cases byte_eq_ofNat code
      cases row
      exact ⟨rfl, fun _ => rfl⟩
  | setup item x v =>
    simp only [Order.row] at row
    split at row
    case h_21 => cases row; exact ⟨rfl, fun _ => rfl⟩
    all_goals
      rename_i code
      cases byte_eq_ofNat code
      cases row
      exact ⟨rfl, fun _ => rfl⟩
  | showFn fn x start =>
    simp only [Order.row] at row
    split at row
    case h_13 => cases row; exact ⟨rfl, fun _ => rfl⟩
    all_goals
      rename_i code
      cases byte_eq_ofNat code
      cases row
      exact ⟨rfl, fun _ => rfl⟩
  | curveData k bs => cases k <;> cases row <;> exact ⟨rfl, fun _ => rfl⟩
  | bad c => cases row
  | _ => cases row; exact ⟨rfl, fun _ => rfl⟩

/-- An order's command is the arrival of the telegram that carries it. -/
theorem row_exec {o : Order} {dt : Nat} {src : Byte} {c : Instr} (row : o.row dt src = some c) (fits : Order.Fits o) (s : State) :
    exec c s =
      exec (.telegramComplete dt { dst := s.orders.own, src := src, kind := 0x20, payload := encodeOrder o
                                   check := (Frame.make s.orders.own src 0x20 (encodeOrder o)).check }) s := by
  have whole : ∀ code, o ≠ .bad code := fun code same => by
    subst same
    cases row
  obtain ⟨effect, lines⟩ := row_effect row
  rw [exec_eq_event effect, lines]
  show event dt _ s = event dt (fun t => t.receive _ (takeOrder src (decodeOrder (encodeOrder o)))) s
  rw [decode_encode whole fits]
  cases stopped : s.starter.stopped with
  | true => rw [event_stopped _ _ _ stopped, event_stopped _ _ _ stopped]
  | false => rw [event_awake _ _ _ stopped, event_awake _ _ _ stopped]; rfl

/-! ### The operands -/

theorem headOf_iff (b : Byte) (h : Head) : headOf b = some h ↔ b.toNat = h.num := by
  unfold headOf
  split <;> cases h <;> simp_all [Head.num]

theorem houseOf_iff (b : Byte) (k : House) : houseOf b = some k ↔ b.toNat = k.num := by
  unfold houseOf
  split <;> cases k <;> simp_all [House.num]

/-- Settles O47: the round trip both ways, the rows, and the bytes as section 10.7 lays them out. -/
theorem orderCodingRoundTrip : Obligations.OrderCodingRoundTrip := by
  refine ⟨⟨fun o whole fits => decode_encode whole fits, fun p good => encode_decode good⟩, fun o dt src c s row fits => row_exec row fits s,
    ?_, rfl, headOf_iff, houseOf_iff, rfl, rfl, rfl⟩
  intro word
  exact ⟨fun _ _ _ _ => rfl, fun _ => rfl, fun _ _ _ => rfl, fun _ => rfl, fun _ _ _ => rfl, fun _ _ _ => rfl, fun _ _ => rfl, fun _
    => rfl, fun _ => rfl, fun _ => rfl, fun _ _ => rfl, fun _ => rfl, fun _ _ => rfl, rfl, fun _ _ => rfl, fun _ _ _ => rfl, fun _ =>
    rfl, rfl, fun _ => rfl, rfl, rfl, rfl, rfl⟩

end Sys2Proof.Machine
end

section
/-! SUPPORT. The orders of the settings, the address and the notices (R185, R187, R188), judged, and the statements on them. -/

namespace Sys2Proof.Machine

variable {s t : State} {k : House} {h : Head}

/-! ### A judged order's command -/

/-- A command that is the row of an order, judged by one rule, performs what the rule answers (R182). -/
theorem performs_of_judged {c : Instr} {dt : Nat} {src : Byte} (o : Order) {run : State → State × Reply} {after : State} {r : Result}
    {data : List Byte} (listens : s.Listens src) (row : exec c s = judgedOrder dt src o run s) (short : (encodeOrder o).length ≤ 12)
    (judged : run (s.heard dt) = (after, { result := r, data := data })) (calm : after.orders.restart = .clear) :
    s.Performs c src o.code r data after := by
  unfold State.Performs
  rw [row]
  exact judgedOrder_performs s dt src o run after r data listens short judged calm

/-! ### Tuning values (R185) -/

theorem tuned_eq (lo hi v : Nat) :
    tuned lo hi v =
      (max lo (min hi v),
        { result := if lo ≤ v ∧ v ≤ hi then .done else .clamped
          data := if lo ≤ v ∧ v ≤ hi then [] else be16 (max lo (min hi v)) }) := by
  unfold tuned
  split
  · rename_i inside
    have same : max lo (min hi v) = v := by omega
    rw [same]
    rfl
  · rfl

theorem setup_performs {c : Instr} {dt : Nat} {src item x : Byte} {value : Word} {lo hi : Nat} {run : State → State × Reply}
    {after : Nat → State} (listens : s.Listens src) (row : exec c s = judgedOrder dt src (.setup item x value) run s)
    (judged : run (s.heard dt) = (after (tuned lo hi value.toNat).1, (tuned lo hi value.toNat).2))
    (calm : ∀ w, (after w).orders.restart = .clear) :
    s.Performs c src 0x06 (if lo ≤ value.toNat ∧ value.toNat ≤ hi then .done else .clamped)
      (if lo ≤ value.toNat ∧ value.toNat ≤ hi then [] else be16 (max lo (min hi value.toNat))) (after (max lo (min hi value.toNat))) := by
  rw [tuned_eq] at judged
  exact performs_of_judged (.setup item x value) listens row (by simp [encodeOrder, Order.params]) judged (calm _)

theorem setup_refused {c : Instr} {dt : Nat} {src item x : Byte} {value : Word} {run : State → State × Reply} {r : Result}
    (listens : s.Listens src) (row : exec c s = judgedOrder dt src (.setup item x value) run s)
    (judged : run (s.heard dt) = (s.heard dt, Reply.plain r)) : s.Performs c src 0x06 r [] (s.heard dt) :=
  performs_of_judged (.setup item x value) listens row (by simp [encodeOrder, Order.params]) judged listens.calm

section
variable {lo hi : Nat} {x : Byte} {value : Word}

theorem setHeadValue_some (named : headOf x = some h) (put : Nat → Monitor → Monitor) :
    setHeadValue lo hi x value put s =
      (s.setMon h (put (tuned lo hi value.toNat).1 (s.mon h)), (tuned lo hi value.toNat).2) := by
  unfold setHeadValue
  rw [named]

theorem setHeadValue_none (unnamed : headOf x = none) (put : Nat → Monitor → Monitor) :
    setHeadValue lo hi x value put s = (s, Reply.plain .badIndex) := by
  unfold setHeadValue
  rw [unnamed]

theorem setEngineValue_some (named : houseOf x = some k) (put : Nat → Engine → Engine) :
    setEngineValue lo hi x value put s =
      (s.setEng k (put (tuned lo hi value.toNat).1 (s.eng k)), (tuned lo hi value.toNat).2) := by
  unfold setEngineValue
  rw [named]

theorem setEngineValue_none (unnamed : houseOf x = none) (put : Nat → Engine → Engine) :
    setEngineValue lo hi x value put s = (s, Reply.plain .badIndex) := by
  unfold setEngineValue
  rw [unnamed]

theorem State.setLight_setLight (s : State) (k : House) (l l' : LightUnit) : (s.setLight k l).setLight k l' = s.setLight k l' := by
  unfold State.setLight
  simp only [PerHouse.set_set]

theorem State.setLight_discardPartial (s : State) (k : House) (l : LightUnit) :
    (s.setLight k l).discardPartial k = s.setLight k { l with holder := [] } := by
  unfold State.discardPartial
  rw [State.setLight_setLight, State.setLight_light_same]

/-- A light setting written discards the partial triple (R141, R149). -/
theorem setLightValue_some (named : houseOf x = some k) (put : Nat → LightUnit → LightUnit) :
    setLightValue x value put s =
      (s.setLight k { put (tuned 0 255 value.toNat).1 (s.light k) with holder := [] }, (tuned 0 255 value.toNat).2) := by
  unfold setLightValue
  rw [named]
  exact Prod.ext (State.setLight_discardPartial s k _) rfl

theorem setLightValue_none (unnamed : houseOf x = none) (put : Nat → LightUnit → LightUnit) :
    setLightValue x value put s = (s, Reply.plain .badIndex) := by
  unfold setLightValue
  rw [unnamed]

end

/-- Settles O42: each item's judgement with the value clamped, then the indexes that name no head and no house, then the write lock. -/
theorem setupStoresTuningValue : Obligations.SetupStoresTuningValue := by
  intro s dt src x value listens heard v put refused
  have calm : ∀ t : State, t.orders = s.orders → t.orders.restart = .clear := fun t same => by rw [same]; exact listens.calm
  have tunes : ∀ {c : Instr} (item : Byte) {lo hi : Nat} {after : Nat → State} (run : State → State × Reply),
      exec c s = judgedOrder dt src (.setup item x value) run s → (∀ w, (after w).orders = s.orders) →
      run heard = (after (tuned lo hi v).1, (tuned lo hi v).2) → put c lo hi after := fun {_} _ {_ _ _} _ row same judged =>
    setup_performs listens row judged fun w => calm _ (same w)
  clear_value put
  refine ⟨?_, ?_, ?_, ?_, ?_, fun hd named => ⟨?_, ?_, ?_⟩, fun unnamed => ⟨?_, ?_, ?_⟩,
    fun k named => ⟨?_, ?_, ?_, ?_, ?_, ?_, ?_, ?_⟩, fun unnamed => ⟨?_, ?_, ?_, ?_, ?_, ?_, ?_, ?_⟩, fun open_ => ⟨?_, ?_⟩, fun lock => ⟨?_, ?_⟩⟩
  · refine tunes 1 (judgeSetupGuard value) ?_ ?_ ?_
    exacts [rfl, fun _ => rfl, rfl]
  · refine tunes 2 (judgeSetupReturn value) ?_ ?_ ?_
    exacts [rfl, fun _ => rfl, rfl]
  · refine tunes 3 (judgeSetupRefresh value) ?_ ?_ ?_
    exacts [rfl, fun _ => rfl, rfl]
  · refine tunes 19 (judgeSetupPanel value) ?_ ?_ ?_
    exacts [rfl, fun _ => rfl, rfl]
  · refine tunes 20 (judgeSetupQuiet value) ?_ ?_ ?_
    exacts [rfl, fun _ => rfl, rfl]
  · refine tunes 6 (judgeSetupRate x value) ?_ ?_ ?_
    exacts [rfl, fun _ => rfl, (setHeadValue_some named _)]
  · refine tunes 7 (judgeSetupStop x value) ?_ ?_ ?_
    exacts [rfl, fun _ => rfl, (setHeadValue_some named _)]
  · refine tunes 8 (judgeSetupIdle x value) ?_ ?_ ?_
    exacts [rfl, fun _ => rfl, (setHeadValue_some named _)]
  · exact setup_refused (run := judgeSetupRate x value) listens rfl (setHeadValue_none unnamed _)
  · exact setup_refused (run := judgeSetupStop x value) listens rfl (setHeadValue_none unnamed _)
  · exact setup_refused (run := judgeSetupIdle x value) listens rfl (setHeadValue_none unnamed _)
  · refine tunes 9 (judgeSetupRunup x value) ?_ ?_ ?_
    exacts [rfl, fun _ => rfl, (setEngineValue_some named _)]
  · refine tunes 10 (judgeSetupLead x value) ?_ ?_ ?_
    exacts [rfl, fun _ => rfl, (setEngineValue_some named _)]
  · refine tunes 11 (judgeSetupRunout x value) ?_ ?_ ?_
    exacts [rfl, fun _ => rfl, (setEngineValue_some named _)]
  · refine tunes 12 (judgeSetupIdlePos x value) ?_ ?_ ?_
    exacts [rfl, fun _ => rfl, (setLightValue_some named _)]
  · refine tunes 13 (judgeSetupFaultPos x value) ?_ ?_ ?_
    exacts [rfl, fun _ => rfl, (setLightValue_some named _)]
  · refine tunes 14 (judgeSetupIntervalPos x value) ?_ ?_ ?_
    exacts [rfl, fun _ => rfl, (setLightValue_some named _)]
  · refine tunes 15 (judgeSetupEndPos x value) ?_ ?_ ?_
    exacts [rfl, fun _ => rfl, (setLightValue_some named _)]
  · refine tunes 16 (judgeSetupFastFade x value) ?_ ?_ ?_
    exacts [rfl, fun _ => rfl, (setLightValue_some named _)]
  · exact setup_refused (run := judgeSetupRunup x value) listens rfl (setEngineValue_none unnamed _)
  · exact setup_refused (run := judgeSetupLead x value) listens rfl (setEngineValue_none unnamed _)
  · exact setup_refused (run := judgeSetupRunout x value) listens rfl (setEngineValue_none unnamed _)
  · exact setup_refused (run := judgeSetupIdlePos x value) listens rfl (setLightValue_none unnamed _)
  · exact setup_refused (run := judgeSetupFaultPos x value) listens rfl (setLightValue_none unnamed _)
  · exact setup_refused (run := judgeSetupIntervalPos x value) listens rfl (setLightValue_none unnamed _)
  · exact setup_refused (run := judgeSetupEndPos x value) listens rfl (setLightValue_none unnamed _)
  · exact setup_refused (run := judgeSetupFastFade x value) listens rfl (setLightValue_none unnamed _)
  · refine tunes 17 (judgeSetupHold value) ?_ ?_ ?_
    exacts [rfl, fun _ => rfl, (if_neg (ne_true_of_eq_false open_))]
  · refine tunes 18 (judgeSetupWindow value) ?_ ?_ ?_
    exacts [rfl, fun _ => rfl, (if_neg (ne_true_of_eq_false open_))]
  · exact setup_refused (run := judgeSetupHold value) listens rfl (if_pos lock)
  · exact setup_refused (run := judgeSetupWindow value) listens rfl (if_pos lock)

/-! ### Values and functions out of range (R182, R185, R186) -/

/-- An order taken as one that is not a RESTART, and refused. -/
theorem performs_of_taken {c : Instr} {dt : Nat} {src code : Byte} {p : List Byte} {run : State → State × Reply} {after : State} {r : Result}
    (listens : s.Listens src) (row : exec c s = orderEvent dt src p (answerOrder src code run) s) (short : p.length ≤ 12)
    (judged : run (s.heard dt) = (after, Reply.plain r)) (calm : after.orders.restart = .clear) : s.Performs c src code r [] after := by
  unfold State.Performs
  rw [row]
  exact orderEvent_performs s dt src code p run after r [] listens short judged calm

theorem judgeSetup_outside {item : Byte} (outside : item.toNat < 1 ∨ 20 < item.toNat) (x : Byte) (value : Word) (s : State) :
    judgeSetup item x value s = (s, Reply.plain .badIndex) := by
  unfold judgeSetup
  split
  case h_21 => rfl
  all_goals omega

theorem judgeShow_outside {fn : Byte} (outside : fn.toNat < 1 ∨ 12 < fn.toNat) (target : Byte) (start : Option Byte) (s : State) :
    judgeShow fn target start s = (s, Reply.plain .badValue) := by
  unfold judgeShow
  split
  case h_13 => rfl
  all_goals omega

/-- Settles O43: the console address, the items and functions without a row, and the structure of a payload. -/
theorem structuralValuesRefused : Obligations.StructuralValuesRefused := by
  intro s dt src x y value start payload listens
  have calm : (s.heard dt).orders.restart = .clear := listens.calm
  refine ⟨fun low high => ?_, fun outside => ?_, fun outside => ?_, fun outside => ?_, fun bad => ?_⟩
  · have low8 : loByte value = BitVec.ofNat 8 value.toNat := BitVec.eq_of_toNat_eq (by simp [loByte])
    rw [← low8]
    exact performs_of_judged (run := judgeSetupConsole value) (.setup 4 x value) listens rfl (by simp [encodeOrder, Order.params])
      (if_pos ⟨low, high⟩) calm
  · exact setup_refused (run := judgeSetupConsole value) listens rfl (if_neg (by omega))
  · exact performs_of_taken listens rfl (by simp [encodeOrder, Order.params]) (judgeSetup_outside outside y value _) calm
  · exact performs_of_taken listens rfl (by cases start <;> simp [encodeOrder, Order.params]) (judgeShow_outside outside y start _) calm
  · obtain ⟨decoded, short⟩ := decodeOrder_bad bad
    refine performs_of_taken (run := judgeOrder (.bad (payload.headD 0))) listens ?_ short rfl calm
    show orderEvent dt src payload (takeOrder src (decodeOrder payload)) s = _
    rw [decoded]
    rfl

/-! ### ADDRESS (R188) -/

theorem flagOf_one_or_zero {b : Byte} (small : b.toNat ≤ 1) : flagOf b.toNat = some (decide (b = 1)) := by
  have two : b.toNat = 0 ∨ b.toNat = 1 := by omega
  obtain e | e := two <;> cases byte_eq_ofNat e <;> rfl

theorem flagOf_above {v : Nat} (above : 1 < v) : flagOf v = none := by
  unfold flagOf
  split
  case h_3 => rfl
  all_goals omega

/-- Settles O45: the lock, then the address and the flag. -/
theorem addressMovesOwnAddress : Obligations.AddressMovesOwnAddress := by
  intro s dt src a flag listens
  have calm : (s.heard dt).orders.restart = .clear := listens.calm
  have performs : ∀ {after r}, after.orders.restart = .clear → judgeAddress a flag (s.heard dt) = (after, Reply.plain r) →
      s.Performs (.address dt src a flag) src 0x0C r [] after := fun still judged =>
    performs_of_judged (run := judgeAddress a flag) (.address a flag) listens rfl (by simp [encodeOrder, Order.params]) judged still
  refine ⟨fun lock => performs calm (if_pos lock), fun open_ => ⟨fun outside => performs calm ?_, fun low high small => performs calm ?_⟩⟩
  · unfold judgeAddress
    rw [if_neg (show ¬ (s.heard dt).orders.addressLock = true by rw [State.heard_orders, open_]; nofun)]
    split
    · rfl
    · rw [flagOf_above (by omega)]
  · unfold judgeAddress
    rw [if_neg (show ¬ (s.heard dt).orders.addressLock = true by rw [State.heard_orders, open_]; nofun), if_neg (by omega),
      flagOf_one_or_zero small]
    rfl

/-! ### Notices and their timers (R170, R178 to R180, R187) -/

theorem State.Settles.trans_same {t u v : State} (a : t.Settles u) (settled : u.settled = v.settled) (drive : u.drive = v.drive) :
    t.Settles v where
  rest := a.rest.trans settled
  times d := by
    have entry : v.entry d = u.entry d := by rw [State.entry, ← drive]; rfl
    rw [entry]
    exact a.times d

/-- An event whose effect is, sending aside, a given state. -/
theorem becomes_of_event {c : Instr} {dt : Nat} {f : State → State} {after : State} (awake : s.Awake) (row : exec c s = event dt f s)
    (calm : (f (s.elapse dt)).orders.restart ≠ .requested) (settled : (f (s.elapse dt)).settled = after.settled)
    (drive : (f (s.elapse dt)).drive = after.drive) : s.Becomes c after := by
  obtain ⟨t, ran, settles⟩ := event_becomes dt f s awake.1 calm
  exact ⟨t, row.trans ran, settles.trans_same settled drive⟩

theorem State.raise_drive (s : State) (e : Event) (c : Cause) (code : Option Code) : (s.raise e c code).drive = s.drive :=
  (congrArg State.drive (s.raise_frame e c code) :)

/-- Settles O40: the three orders, each an equation, then the two expiries. -/
theorem noticeOrdersAndTimers : Obligations.NoticeOrdersAndTimers := by
  refine ⟨fun s dt src marks listens => ⟨?_, ?_, ?_⟩, fun s dt d awake reached => ⟨fun present guard => ?_, fun timer => ?_⟩⟩
  · exact performs_of_judged (run := judgeAck marks) (.ack marks) listens rfl (by simp [encodeOrder, Order.params]) rfl listens.calm
  · exact performs_of_judged (run := judgeMask marks) (.mask marks) listens rfl (by simp [encodeOrder, Order.params]) rfl listens.calm
  · exact performs_of_judged (run := judgeEndAlert) .endAlert listens rfl (by simp [encodeOrder, Order.params]) rfl listens.calm
  · have calm : ({ s.elapse dt with panel := { s.panel with present := false, guard := none } } : State).orders.restart ≠ .waiting := by
      show s.orders.restart ≠ .waiting
      rw [awake.2]; nofun
    have made : (s.elapse dt).panelExpiry =
        ({ s.elapse dt with panel := { s.panel with present := false, guard := none } } : State).raise .panelLost .none (some .guard) :=
      if_pos (by
        show (s.panel.present && due s.panel.guard (s.elapse dt).ms) = true
        rw [present, guard, Bool.true_and]
        exact decide_eq_true reached)
    refine becomes_of_event (f := State.panelExpiry) awake rfl ?_ ?_ ?_
    · rw [made, State.raise_orders _ _ _ _ calm]
      show s.orders.restart ≠ .requested
      rw [awake.2]; nofun
    · rw [made]; exact State.raise_settled _ _ _ _ calm
    · rw [made]; exact State.raise_drive ..
  · have made : (s.elapse dt).quietExpiry =
        (s.elapse dt).setNotices (NoticeUnit.rejudge { s.notices with quietTimer := none }) :=
      if_pos (by
        show due s.notices.quietTimer (s.elapse dt).ms = true
        rw [timer]
        exact decide_eq_true reached)
    have line : NoticeUnit.rejudge { s.notices with quietTimer := none } =
        { s.notices with quietTimer := none, alert := s.notices.pending &&& ~~~s.notices.mask != 0 } :=
      congrArg (fun b => ({ s.notices with quietTimer := none, alert := b } : NoticeUnit)) (Bool.and_true _)
    refine becomes_of_event (f := State.quietExpiry) awake rfl ?_ ?_ ?_
    · rw [made]
      show s.orders.restart ≠ .requested
      rw [awake.2]; nofun
    · rw [made, line]; rfl
    · rw [made]; rfl

end Sys2Proof.Machine
end

section
/-! SUPPORT. An order refused changes nothing (R183), and the order WRITE REEL judged step by step (R92 to R96). -/

namespace Sys2Proof.Machine

variable {s t : State} {k : House} {h : Head}

/-! ### An order refused changes nothing (R183) -/

/-- A judgement that accepts, with DONE or CLAMPED, or leaves the state and answers no data. -/
def State.Judges (s : State) (r : State × Reply) : Prop := r.2.result.code.toNat ≤ 1 ∨ r.1 = s ∧ r.2.data = []

/-- A show function that accepts or leaves the state. -/
def State.Functions (s : State) (r : State × Result) : Prop := r.2 = .done ∨ r.1 = s

theorem State.judges_refused (s : State) (r : Result) : s.Judges (s, Reply.plain r) := .inr ⟨rfl, rfl⟩

theorem State.judges_done (s t : State) (data : List Byte) : s.Judges (t, { result := .done, data := data }) := .inl (Nat.zero_le 1)

theorem State.judges_clamped (s t : State) (data : List Byte) : s.Judges (t, { result := .clamped, data := data }) := .inl (Nat.le_refl 1)

theorem State.judges_tuned (s t : State) (lo hi v : Nat) : s.Judges (t, (tuned lo hi v).2) := by
  unfold tuned
  split
  · exact s.judges_done t []
  · exact s.judges_clamped t _

theorem State.judges_page (s t : State) (sec page : Byte) (pages : Option (List (List Byte)))
    (same : (pageReply sec page pages).result ≠ .done → t = s) : s.Judges (t, pageReply sec page pages) := by
  unfold pageReply at same ⊢
  dsimp only at same ⊢
  generalize (if page.toNat = 0 then none else pages.bind fun ps => ps[page.toNat - 1]?) = content at same ⊢
  cases content with
  | some bs => exact s.judges_done t _
  | none => exact .inr ⟨same nofun, rfl⟩

theorem judgeRead_judges (sec a b page : Byte) (s : State) : s.Judges (judgeRead sec a b page s) := by
  unfold judgeRead
  split
  case h_2 => exact s.judges_page _ _ _ _ fun refused => if_neg refused
  case h_6 =>
    unfold judgeReadCurve
    split
    · exact s.judges_page _ _ _ _ fun refused => if_neg refused
    · exact s.judges_refused _
  case h_14 => exact s.judges_refused _
  all_goals exact s.judges_page _ _ _ _ fun _ => rfl

theorem judgeWriteReact_judges (p : ReactParams) (s : State) : s.Judges (judgeWriteReact p s) := by
  unfold judgeWriteReact
  split
  · exact s.judges_refused _
  · split
    · exact s.judges_refused _
    · split
      · exact s.judges_refused _
      · exact s.judges_done _ _

theorem judgeWriteMap_judges (index station fn : Byte) (s : State) : s.Judges (judgeWriteMap index station fn s) := by
  unfold judgeWriteMap
  split
  · exact s.judges_refused _
  · split
    · exact s.judges_done _ _
    · exact s.judges_refused _

theorem judgeWriteReel_judges (p : ReelParams) (s : State) : s.Judges (judgeWriteReel p s) := by
  unfold judgeWriteReel
  split
  · exact s.judges_refused _
  · dsimp only
    split
    · exact s.judges_refused _
    · split
      · exact s.judges_done _ _
      · split
        · exact s.judges_done _ _
        · exact s.judges_refused _

theorem judgeWriteLamp_judges (head item : Byte) (value : Word) (s : State) : s.Judges (judgeWriteLamp head item value s) := by
  unfold judgeWriteLamp
  split
  · exact s.judges_refused _
  · dsimp only
    split
    · exact s.judges_refused _
    · split
      · split
        · exact s.judges_clamped _ _
        · exact s.judges_tuned _ _ _ _
      · exact s.judges_tuned _ _ _ _

theorem judgeSetup_judges (item index : Byte) (value : Word) (s : State) : s.Judges (judgeSetup item index value s) := by
  have headValue : ∀ lo hi put, s.Judges (setHeadValue lo hi index value put s) := fun lo hi put => by
    unfold setHeadValue
    split
    · exact s.judges_refused _
    · exact s.judges_tuned _ _ _ _
  have engineValue : ∀ lo hi put, s.Judges (setEngineValue lo hi index value put s) := fun lo hi put => by
    unfold setEngineValue
    split
    · exact s.judges_refused _
    · exact s.judges_tuned _ _ _ _
  have lightValue : ∀ put, s.Judges (setLightValue index value put s) := fun put => by
    unfold setLightValue
    split
    · exact s.judges_refused _
    · exact s.judges_tuned _ _ _ _
  have locked : ∀ lo hi put, s.Judges (if s.matcher.writeLock then (s, Reply.plain .locked) else setUnit lo hi value put s) :=
    fun lo hi put => by
      split
      · exact s.judges_refused _
      · exact s.judges_tuned _ _ _ _
  unfold judgeSetup
  split
  case h_4 =>
    unfold judgeSetupConsole
    split
    · exact s.judges_done _ _
    · exact s.judges_refused _
  case h_5 =>
    unfold judgeSetupService
    split
    · exact s.judges_refused _
    · split
      · exact s.judges_refused _
      · exact s.judges_done _ _
  case h_6 | h_7 | h_8 => exact headValue _ _ _
  case h_9 | h_10 | h_11 => exact engineValue _ _ _
  case h_12 | h_13 | h_14 | h_15 | h_16 => exact lightValue _
  case h_17 | h_18 => exact locked _ _ _
  case h_21 => exact s.judges_refused _
  all_goals exact s.judges_tuned _ _ _ _

theorem judgeTrim_judges (head : Byte) (length : Option Word) (s : State) : s.Judges (judgeTrim head length s) := by
  unfold judgeTrim
  split
  · exact s.judges_refused _
  · dsimp only
    split
    · exact s.judges_refused _
    · exact s.judges_refused _
    · exact s.judges_done _ _

theorem judgeSplit_judges (point : Byte) (s : State) : s.Judges (judgeSplit point s) := by
  unfold judgeSplit
  dsimp only
  split
  · exact s.judges_refused _
  · split
    · exact s.judges_refused _
    · split
      · exact s.judges_refused _
      · split
        · exact s.judges_refused _
        · exact s.judges_done _ _

theorem judgeAddress_judges (a flag : Byte) (s : State) : s.Judges (judgeAddress a flag s) := by
  unfold judgeAddress
  split
  · exact s.judges_refused _
  · split
    · exact s.judges_refused _
    · split
      · exact s.judges_refused _
      · exact s.judges_done _ _

theorem State.arm_functions (s : State) (k : House) (i : Option Nat) : s.Functions (s.arm k i) := by
  unfold State.arm
  dsimp only
  split
  · exact .inr rfl
  · split
    · exact .inr rfl
    · split
      · exact .inr rfl
      · split
        · exact .inr rfl
        · split
          · exact .inr rfl
          · exact .inl rfl

theorem State.thread_functions (s : State) (h : Head) : s.Functions (s.thread h) := by
  unfold State.thread
  dsimp only
  split
  · exact .inr rfl
  · split
    · exact .inr rfl
    · split
      · exact .inl rfl
      · split
        · exact .inr rfl
        · split
          · exact .inr rfl
          · exact .inl rfl
      · exact .inr rfl

theorem State.start_functions (s : State) (k : House) : s.Functions (s.start k) := by
  unfold State.start
  dsimp only
  split
  case h_4 => exact .inr rfl
  all_goals
    split
    · exact .inl rfl
    · exact .inr rfl

theorem State.resume_functions (s : State) (k : House) : s.Functions (s.resume k) := by
  unfold State.resume
  dsimp only
  split
  · exact .inr rfl
  · split
    · exact .inl rfl
    · split
      · exact .inl rfl
      · exact .inr rfl

theorem State.functions_of_if {c : Prop} [Decidable c] (s t : State) (r : Result) : s.Functions (if c then (t, .done) else (s, r)) := by
  split
  · exact .inl rfl
  · exact .inr rfl

theorem State.functions_of_unless {c : Prop} [Decidable c] (s t : State) (r : Result) : s.Functions (if c then (s, r) else (t, .done)) := by
  split
  · exact .inr rfl
  · exact .inl rfl

theorem State.Functions.judges {r : State × Result} (ran : s.Functions r) : s.Judges (r.1, Reply.plain r.2) := by
  obtain done | same := ran
  · rw [done]; exact s.judges_done _ _
  · rw [same]; exact s.judges_refused _

theorem judgeShow_judges (fn target : Byte) (start : Option Byte) (s : State) : s.Judges (judgeShow fn target start s) := by
  have house : ∀ run : House → State → State × Result, (∀ k, s.Functions (run k s)) → s.Judges (houseShow target start run s) :=
    fun run ran => by
      unfold houseShow
      split
      · exact s.judges_refused _
      · split
        · exact s.judges_refused _
        · exact (ran _).judges
  have head : ∀ run : Head → State → State × Result, (∀ h, s.Functions (run h s)) → s.Judges (headShow target start run s) :=
    fun run ran => by
      unfold headShow
      split
      · exact s.judges_refused _
      · split
        · exact s.judges_refused _
        · exact (ran _).judges
  unfold judgeShow
  split
  case h_1 =>
    unfold judgeArm
    split
    · exact s.judges_refused _
    · exact (s.arm_functions _ _).judges
  case h_2 => exact house _ s.start_functions
  case h_3 => exact house _ fun k => s.functions_of_if _ _
  case h_4 => exact house _ fun k => s.functions_of_if _ _
  case h_5 => exact house _ s.resume_functions
  case h_6 | h_7 | h_8 | h_11 => exact house _ fun k => .inl rfl
  case h_9 => exact head _ s.thread_functions
  case h_10 => exact head _ fun h => s.functions_of_unless _ _
  case h_12 => exact house _ fun k => s.functions_of_if _ _
  case h_13 => exact s.judges_refused _

theorem judgeOrder_judges (o : Order) (s : State) : s.Judges (judgeOrder o s) := by
  cases o
  case read sec a b page => exact judgeRead_judges sec a b page s
  case writeReact p => exact judgeWriteReact_judges p s
  case writeMap i st fn => exact judgeWriteMap_judges i st fn s
  case writeReel p => exact judgeWriteReel_judges p s
  case writeLamp h item v => exact judgeWriteLamp_judges h item v s
  case setup item x v => exact judgeSetup_judges item x v s
  case curvePoint k e =>
    show s.Judges (judgeCurvePoint k e s)
    unfold judgeCurvePoint
    split
    · exact s.judges_done _ _
    · exact s.judges_refused _
  case curveData k bs =>
    show s.Judges (judgeCurveData k bs s)
    unfold judgeCurveData
    split
    · exact s.judges_done _ _
    · exact s.judges_refused _
  case trim h n => exact judgeTrim_judges h n s
  case splitPoint n => exact judgeSplit_judges n s
  case address a l => exact judgeAddress_judges a l s
  case showFn fn x st => exact judgeShow_judges fn x st s
  case bad => exact s.judges_refused _
  all_goals exact s.judges_done _ _

/-- Settles O44: a result from BAD_ORDER on is neither DONE nor CLAMPED. -/
theorem refusedOrderChangesNothing : Obligations.RefusedOrderChangesNothing := by
  intro o s refused
  exact (judgeOrder_judges o s).resolve_left (by omega)

end Sys2Proof.Machine
end

section
/-! SUPPORT. The order WRITE REEL judged step by step (R92 to R96), and the station map and the refresh (R42, R43). -/

namespace Sys2Proof.Machine

variable {s t : State} {k : House} {h : Head}

/-! ### WRITE REEL (R92 to R96) -/

theorem Programme.inRegion_iff (p : Programme) (k : House) (j : Fin 64) : p.inRegion k j.val = true ↔ p.owner j.val = k := by
  constructor
  · intro inside
    cases k
    · exact if_pos (of_decide_eq_true inside)
    · exact if_neg (by have low := (of_decide_eq_true inside).1; omega)
  · rintro rfl
    exact p.inRegion_owner j.isLt

theorem Programme.neighbourHolds_iff (p : Programme) (k : House) (j : Fin 64) (side : Side) :
    p.neighbourHolds k j.val side = true ↔ p.owner j.val = k ∧ (p.reels.get j).last ≠ 0 ∧ (p.reels.get j).side = side := by
  unfold Programme.neighbourHolds
  rw [Bool.and_eq_true, Bool.and_eq_true, Programme.inRegion_iff, Programme.record_fin, bne_iff_ne, beq_iff_eq, and_assoc]

theorem Programme.neighbourHolds_outside (p : Programme) (k : House) {j : Nat} (outside : 64 ≤ j) (side : Side) :
    p.neighbourHolds k j side = false := by
  have vacant : p.record j = Reel.vacant := by
    unfold Programme.record Table.get?
    rw [toIndex_of_le outside]
    rfl
  unfold Programme.neighbourHolds
  rw [vacant, show (Reel.vacant.last != 0) = false from rfl, Bool.and_false, Bool.false_and]

theorem Programme.sideOk_iff (p : Programme) (i : Fin 64) (side : Side) :
    p.sideOk i.val side = true ↔ ∀ j : Fin 64, j.val + 1 = i.val ∨ j.val = i.val + 1 → p.owner j.val = p.owner i.val →
      (p.reels.get j).last ≠ 0 → (p.reels.get j).side ≠ side := by
  simp only [Programme.sideOk, Bool.and_eq_true, Bool.not_eq_true', Bool.and_eq_false_iff, decide_eq_false_iff_not]
  constructor
  · rintro ⟨below, above⟩ j near own held same
    have holds := (p.neighbourHolds_iff (p.owner i.val) j side).mpr ⟨own, held, same⟩
    obtain near | near := near
    · obtain none | clear := below
      · omega
      · rw [show i.val - 1 = j.val by omega, holds] at clear; cases clear
    · rw [← near, holds] at above; cases above
  · intro apart
    have clear : ∀ j : Fin 64, j.val + 1 = i.val ∨ j.val = i.val + 1 → p.neighbourHolds (p.owner i.val) j.val side = false :=
      fun j near => Bool.eq_false_iff.mpr fun holds => by
        obtain ⟨own, held, same⟩ := (p.neighbourHolds_iff _ j side).mp holds
        exact apart j near own held same
    refine ⟨?_, ?_⟩
    · by_cases first : 1 ≤ i.val
      · exact .inr (clear ⟨i.val - 1, by omega⟩ (.inl (by simp only; omega)))
      · exact .inl first
    · by_cases inside : i.val + 1 < 64
      · exact clear ⟨i.val + 1, inside⟩ (.inr rfl)
      · exact p.neighbourHolds_outside _ (by omega) side

theorem reelOf_fieldsOk (p : ReelParams) :
    (reelOf p).fieldsOk = true ↔
      1000 ≤ p.last.toNat ∧ p.window.toNat ≤ 96 ∧ ¬ (p.flags.getLsbD 1 = true ∧ p.flags.getLsbD 2 = true) := by
  have small : p.last.toNat ≤ 65535 := by have := p.last.isLt; omega
  unfold Reel.fieldsOk
  rw [Bool.and_eq_true, decide_eq_true_eq, Bool.not_eq_true', ← Bool.not_eq_true, Bool.and_eq_true]
  show (1000 ≤ p.last.toNat ∧ p.last.toNat ≤ 65535 ∧ p.window.toNat ≤ 96) ∧ _ ↔ _
  exact ⟨fun ⟨⟨low, _, window⟩, flags⟩ => ⟨low, window, flags⟩, fun ⟨low, window, flags⟩ => ⟨⟨low, small, window⟩, flags⟩⟩

/-- Settles O25: the index, the record's use, the empty write, then the three checks of a record. -/
theorem writeReelJudgedInOrder : Obligations.WriteReelJudgedInOrder := by
  intro s dt src p listens
  have calm : (s.heard dt).orders.restart = .clear := listens.calm
  have performs : ∀ {after r}, after.orders.restart = .clear → judgeWriteReel p (s.heard dt) = (after, Reply.plain r) →
      s.Performs (.writeReel dt src p) src 0x04 r [] after := fun still judged =>
    performs_of_judged (run := judgeWriteReel p) (.writeReel p) listens rfl (by simp [encodeOrder, Order.params]) judged still
  have sides := fun i : Fin 64 => (s.heard dt).programme.sideOk_iff i (reelOf p).side
  refine ⟨fun outside => performs calm ?_, fun i index => ⟨fun used => performs calm ?_, fun free => ?_⟩⟩
  · unfold judgeWriteReel
    rw [toIndex_of_le outside]
  · unfold judgeWriteReel
    rw [toIndex_of_eq i index]
    exact if_pos used
  have judged : judgeWriteReel p (s.heard dt) =
      if (reelOf p).last = 0 then ((s.heard dt).setReel i Reel.vacant, Reply.plain .done)
      else if (reelOf p).fieldsOk && (reelOf p).cuesOk && (s.heard dt).programme.sideOk i (reelOf p).side then
        ((s.heard dt).setReel i (reelOf p), Reply.plain .done)
      else (s.heard dt, Reply.plain .badValue) := by
    unfold judgeWriteReel
    rw [toIndex_of_eq i index]
    exact if_neg (ne_true_of_eq_false free)
  refine ⟨fun empty => performs calm ?_, fun filled => ⟨fun fields cues apart => performs calm ?_, fun fails => performs calm ?_⟩⟩
  · have none : (reelOf p).last = 0 := by show p.last.toNat = 0; rw [empty]; rfl
    rw [judged, if_pos none]
    rfl
  · have some : (reelOf p).last ≠ 0 := fun zero => filled (BitVec.eq_of_toNat_eq zero)
    have cuesOk : (reelOf p).cuesOk = true := decide_eq_true cues
    rw [judged, if_neg some, (reelOf_fieldsOk p).mpr fields, cuesOk, (sides i).mpr apart]
    rfl
  · have some : (reelOf p).last ≠ 0 := fun zero => filled (BitVec.eq_of_toNat_eq zero)
    rw [judged, if_neg some, if_neg]
    intro pass
    rw [Bool.and_eq_true, Bool.and_eq_true] at pass
    obtain ⟨⟨fields, cues⟩, apart⟩ := pass
    exact fails ⟨(reelOf_fieldsOk p).mp fields, of_decide_eq_true cues, (sides i).mp apart⟩

/-! ### An entry that awaits sending (R22) -/

/-- An entry dirty before the arbiter's choice awaits sending after it. -/
theorem State.ArbiterChose.awaits {u t : State} (chose : u.ArbiterChose t) {d : DriveId} {cls : DriveClass} {since : Nat}
    (dirty : (u.entry d).dirty = some { cls := cls, since := since }) : t.AwaitsSending d cls since := by
  have kept : t.drive = u.drive → t.AwaitsSending d cls since := fun same => .inl (by
    rw [← dirty]; unfold State.entry; rw [same])
  by_cases held : u.loop.state = .held
  case neg => exact kept (chose.rests (.inl held)).2
  by_cases leave : u.loop.leaveAwaiting = true
  case pos => exact kept (chose.rests (.inr (.inl leave))).2
  by_cases out : u.loop.out = .free
  case neg => exact kept (chose.rests (.inr (.inr out))).2
  cases repeats : u.loop.repeats with
  | cons g rest => exact kept (chose.repeats held (Bool.eq_false_iff.mpr leave) out g rest repeats).2
  | nil =>
    obtain ⟨-, same⟩ | ⟨-, same, -⟩ | ⟨-, d', f, cls', since', -, dirty', loop, drive⟩ :=
      chose.originates held (Bool.eq_false_iff.mpr leave) out repeats
    · exact kept same
    · exact kept same
    · by_cases one : d = d'
      · subst one
        rw [dirty] at dirty'
        cases dirty'
        exact .inr ⟨f, by rw [loop]⟩
      · refine .inl ?_
        have entry : t.entry d = u.entry d := by
          rw [State.entry, drive]
          exact State.setEntry_entry_ne _ _ one
        rw [entry, dirty]

/-- A judged order's command with the arbiter's choice said: the ANSWER stands in the FIFO before it. -/
theorem judged_chose {c : Instr} {dt : Nat} {src : Byte} (o : Order) {run : State → State × Reply} {after : State} {r : Result}
    {data : List Byte} (listens : s.Listens src) (row : exec c s = judgedOrder dt src o run s) (short : (encodeOrder o).length ≤ 12)
    (judged : run (s.heard dt) = (after, { result := r, data := data })) (calm : after.orders.restart = .clear) :
    ∃ t, exec c s = .next t ∧ t.Answers src ([o.code, r.code] ++ data) ∧ t.Settles after ∧
      (after.enqueue (.answer src ([o.code, r.code] ++ data) false)).ArbiterChose t := by
  have run_eq : answerOrder src o.code run (s.heard dt) = after.enqueue (.answer src ([o.code, r.code] ++ data) false) := by
    unfold answerOrder answerPayload
    rw [judged]
  obtain ⟨settles, answers⟩ := State.conclude_answer after (s.elapse dt) src ([o.code, r.code] ++ data) calm
  refine ⟨_, ?_, answers, settles, State.conclude_chose _ _ ?_⟩
  · rw [row]
    unfold judgedOrder orderEvent
    rw [event_awake _ _ _ listens.awake, State.receive_order s dt src _ _ listens short, run_eq]
  · rw [State.enqueue_orders _ _ (by rw [calm]; nofun), calm]
    nofun

theorem State.Settles.trans_times {t u v : State} (a : t.Settles u) (settled : u.settled = v.settled)
    (times : ∀ d, (u.entry d).lastTime = (v.entry d).lastTime) : t.Settles v where
  rest := a.rest.trans settled
  times d := by rw [← times d]; exact a.times d

/-! ### The end of an event that changed nothing -/

theorem State.sealFrom_self (s : State) : s.sealFrom s = s := by
  unfold State.sealFrom
  rw [if_pos rfl]

/-- With LOOP OUT not free, an event that changed nothing ends where it began (R22). -/
theorem State.conclude_self (calm : s.orders.restart ≠ .requested) (busy : s.loop.out ≠ .free) : s.conclude s = s := by
  unfold State.conclude
  dsimp only
  rw [State.sealFrom_self, if_neg calm]
  exact if_neg fun ⟨_, _, free⟩ => busy free

/-! ### The map and the refresh (R42, R43) -/

theorem State.setEntry_settled_eq (s : State) (d : DriveId) {e e' : DriveEntry} (same : e.settled = e'.settled) :
    (s.setEntry d e).settled = (s.setEntry d e').settled := by
  unfold State.settled State.setEntry
  simp only [Table.map_set, same]

theorem driveAt_of_index {i : Nat} {d : DriveId} (index : (driveIndex d).val = i) : driveAt i = some d := by
  rw [← index]
  exact driveIds_at d

theorem driveAt_of_outside {i : Nat} (outside : 20 ≤ i) : driveAt i = none :=
  List.getElem?_eq_none (show driveIds.length ≤ i from outside)

/-- Settles O16: the order's two refusals and its acceptance, then the expiry of an entry due and of one not due. -/
theorem mapAndRefresh : Obligations.MapAndRefresh := by
  refine ⟨fun s dt src index station fn listens => ?_, fun s dt d awake => ⟨fun sent mapped clean last late => ?_, fun idle busy => ?_⟩⟩
  · have calm : (s.heard dt).orders.restart = .clear := listens.calm
    refine ⟨fun outside => ?_, fun d found => ⟨fun above => ?_, fun below => ?_⟩⟩
    · refine performs_of_judged (run := judgeWriteMap index station fn) (.writeMap index station fn) listens rfl
        (by simp [encodeOrder, Order.params]) ?_ calm
      unfold judgeWriteMap
      rw [driveAt_of_outside outside]
      rfl
    · refine performs_of_judged (run := judgeWriteMap index station fn) (.writeMap index station fn) listens rfl
        (by simp [encodeOrder, Order.params]) ?_ calm
      unfold judgeWriteMap
      rw [driveAt_of_index found]
      exact if_neg (by omega)
    · have judged : judgeWriteMap index station fn (s.heard dt) =
          ((s.heard dt).setEntry d ((s.entry d).remapped station fn (s.elapse dt).ms), Reply.plain .done) := by
        unfold judgeWriteMap
        rw [driveAt_of_index found]
        exact if_pos below
      obtain ⟨t, ran, answers, settles, chose⟩ := judged_chose (c := .writeMap dt src index station fn)
        (run := judgeWriteMap index station fn) (.writeMap index station fn) listens rfl (by simp [encodeOrder, Order.params]) judged calm
      refine ⟨t, ran, answers, settles.trans_times ?_ fun d' => ?_, chose.awaits ?_⟩
      · exact State.setEntry_settled_eq _ _ rfl
      · rw [State.setEntry_entry, State.setEntry_entry]
        split <;> rfl
      · rw [State.entry, State.enqueue_drive]
        refine (congrArg DriveEntry.dirty (State.setEntry_entry_same _ d _) :).trans ?_
        show (s.entry d).mark _ _ = _
        cases dirty : (s.entry d).dirty with
        | none => exact DriveEntry.mark_of_clean dirty _ _
        | some w => exact DriveEntry.mark_of_dirty dirty _ _
  · have made : (s.elapse dt).refresh d =
        (s.elapse dt).setEntry d { s.entry d with dirty := some { cls := .refresh, since := (s.elapse dt).ms } } := by
      refine if_pos ?_
      show (s.entry d).refreshDue s.drive.refreshPeriod (s.elapse dt).ms = true
      unfold DriveEntry.refreshDue
      rw [clean, last, Bool.and_eq_true, Bool.and_eq_true]
      exact ⟨⟨bne_iff_ne.mpr mapped, rfl⟩, decide_eq_true late⟩
    have calm : ((s.elapse dt).refresh d).orders.restart ≠ .requested := by
      rw [made]
      show s.orders.restart ≠ .requested
      rw [awake.2]; nofun
    obtain ⟨t, ran, settles, chose⟩ := event_becomesSending dt (fun t => t.refresh d) s awake.1 calm
    replace settles : t.Settles ((s.elapse dt).refresh d) := settles
    replace chose : ((s.elapse dt).refresh d).ArbiterChose t := chose
    rw [made] at settles chose
    refine ⟨t, ran, settles.trans_times (State.setEntry_settled _ _ _ rfl) fun d' => ?_, chose.awaits ?_⟩
    · rw [State.setEntry_entry]
      split
      · rename_i one; rw [one]; rfl
      · rfl
    · rw [State.setEntry_entry_same]
  · have kept : (s.elapse dt).refresh d = s.elapse dt := by
      refine if_neg ?_
      show ¬ (s.entry d).refreshDue s.drive.refreshPeriod (s.elapse dt).ms = true
      unfold DriveEntry.refreshDue
      rw [Bool.and_eq_true, Bool.and_eq_true]
      rintro ⟨⟨mapped, clean⟩, late⟩
      obtain unmapped | dirty | unsent := idle
      · exact bne_iff_ne.mp mapped unmapped
      · exact dirty (Option.isNone_iff_eq_none.mp clean)
      · rw [unsent] at late; cases late
    show event dt (fun t => t.refresh d) s = _
    rw [event_awake dt _ s awake.1, kept]
    exact congrArg _ (State.conclude_self (show s.orders.restart ≠ .requested by rw [awake.2]; nofun) busy)

end Sys2Proof.Machine
end

section
/-! SUPPORT. The light units' orders and the fade's step (R136 to R140, R143, R148), and LEAVE and JOIN (R14, R15). -/

namespace Sys2Proof.Machine

variable {s t : State} {k : House} {h : Head}

/-! ### The light functions (R143) -/

theorem houseShow_named {target : Byte} (named : houseOf target = some k) (run : House → State → State × Result) (s : State) :
    houseShow target none run s = ((run k s).1, Reply.plain (run k s).2) := by
  unfold houseShow
  rw [named]
  rfl

theorem headShow_named {target : Byte} (named : headOf target = some h) (run : Head → State → State × Result) (s : State) :
    headShow target none run s = ((run h s).1, Reply.plain (run h s).2) := by
  unfold headShow
  rw [named]
  rfl

/-- A show function's command performs what the function answers. -/
theorem show_performs {c : Instr} {dt : Nat} {src fn target : Byte} {start : Option Byte} {run : State → State × Reply} {after : State}
    {r : Result} (listens : s.Listens src) (row : exec c s = judgedOrder dt src (.showFn fn target start) run s)
    (judged : run (s.heard dt) = (after, Reply.plain r)) (calm : after.orders.restart = .clear) : s.Performs c src 0x0E r [] after :=
  performs_of_judged (.showFn fn target start) listens row (by cases start <;> simp [encodeOrder, Order.params]) judged calm

/-! ### A fade's step (R148) -/

theorem State.fadeStep_due {f : Fade} (fade : (s.light k).fade = some f) (reached : f.began + (f.k + 1) * 100 ≤ s.ms) :
    s.fadeStep k =
      (s.setLight k
        { s.light k with
          position := f.at (f.k + 1), fade := if f.k + 1 = f.n then none else some { f with k := f.k + 1 } }).lookupLight k := by
  unfold State.fadeStep
  dsimp only
  rw [fade]
  exact if_pos reached

/-- A fade's step moves the position and the fade, and looks the position up. -/
theorem State.fadeStep_light {f : Fade} (fade : (s.light k).fade = some f) (reached : f.began + (f.k + 1) * 100 ≤ s.ms) :
    (s.fadeStep k).light k =
      { s.light k with
        position := f.at (f.k + 1), fade := if f.k + 1 = f.n then none else some { f with k := f.k + 1 }
        lastTriple := (s.light k).lookup (f.at (f.k + 1)) } := by
  rw [State.fadeStep_due fade reached, State.lookupLight_light, State.setLight_light_same]
  rfl

theorem State.fadeStep_frame (s : State) (k : House) : { s.fadeStep k with lights := s.lights, drive := s.drive } = s := by
  unfold State.fadeStep
  dsimp only
  split
  · rfl
  · split
    · exact congrArg (fun t : State => { t with lights := s.lights, drive := s.drive }) (State.lookupLight_frame (s.setLight k _) k)
    · rfl

theorem State.fadeStep_entry_ne (s : State) {k : House} {d : DriveId} (ne : d ≠ .dim k) : (s.fadeStep k).entry d = s.entry d := by
  unfold State.fadeStep
  dsimp only
  split
  · rfl
  · split
    · exact State.lookupLight_entry_ne (s.setLight k _) k ne
    · rfl

/-- Settles O34: the three functions by their request lists, then the step by the fade's arithmetic. -/
theorem lightFunctionsAndFade : Obligations.LightFunctionsAndFade := by
  refine ⟨fun s dt src target k listens named => ?_, fun s dt k f awake fade before reached => ?_⟩
  · have calm : (s.heard dt).orders.restart ≠ .waiting := by rw [State.heard_orders, listens.calm]; nofun
    have still : ∀ r, (((s.heard dt).setRequests k r).discardPartial k).orders.restart = .clear := fun r => by
      have kept : ((s.heard dt).setRequests k r).orders = s.orders := (State.Local.setRequests k (s.heard dt) r).orders calm
      show ((s.heard dt).setRequests k r).orders.restart = _
      rw [kept, listens.calm]
    refine ⟨?_, ?_, ?_⟩
    · exact show_performs (run := judgeLightsUp target none) listens rfl (houseShow_named named _ _) (still _)
    · exact show_performs (run := judgeLightsDown target none) listens rfl (houseShow_named named _ _) (still _)
    · exact show_performs (run := judgeLightsAuto target none) listens rfl (houseShow_named named _ _) (still _)
  · have frame := (s.elapse dt).fadeStep_frame k
    have orders : ((s.elapse dt).fadeStep k).orders = s.orders := (congrArg State.orders frame :)
    obtain ⟨t, ran, settles⟩ := event_becomes dt (fun t => t.fadeStep k) s awake.1 (by
      show ((s.elapse dt).fadeStep k).orders.restart ≠ _
      rw [orders, awake.2]; nofun)
    replace settles : t.Settles ((s.elapse dt).fadeStep k) := settles
    have away : State.Local k (s.elapse dt) ((s.elapse dt).fadeStep k) := State.Local.fadeStep k _
    have quiet : (s.elapse dt).orders.restart ≠ .waiting := show s.orders.restart ≠ _ by rw [awake.2]; nofun
    have light := settles.light k
    rw [State.fadeStep_light (s := s.elapse dt) fade reached] at light
    have position : ((t.light k).position : Int) = f.line (f.k + 1) := by
      rw [light]
      exact f.at_eq before
    refine ⟨t, ran, position.trans (by simp [Fade.line]), by rw [light], fun last => ?_, by rw [light]; rfl, by rw [light]; rfl, fun d ne => ?_, ?_, ?_,
      ?_, ?_, ?_, settles.sameHouse away.house, settles.sameTables (away.sameTables quiet)⟩
    · rw [last, f.line_last (by omega)] at position
      exact_mod_cast position
    · rw [settles.value, State.fadeStep_entry_ne _ ne]; rfl
    · exact (congrArg State.monitors settles.rest :).trans (congrArg State.monitors frame :)
    · exact (congrArg State.lamps settles.rest :).trans (congrArg State.lamps frame :)
    · exact (congrArg State.engines settles.rest :).trans (congrArg State.engines frame :)
    · exact settles.fire.trans (congrArg State.fire frame :)
    · exact settles.notices.trans (congrArg State.notices frame :)

/-! ### The curve (R136 to R140) -/

/-- A channel looked up lies between its entries, and is not cut at 0. -/
theorem interpolate_eq (lower upper r : Nat) (below : r ≤ 4) :
    (interpolate lower upper r : Int) = (lower : Int) + (((upper : Int) - lower) * r).tdiv 4 := by
  have between := tdiv_between ((upper : Int) - lower) below
  exact Int.toNat_of_nonneg (show 0 ≤ (lower : Int) + (((upper : Int) - lower) * r).tdiv (4 : Nat) by omega)

theorem curveIndex_eq {i : Fin 64} {n : Nat} (e : i.val = min n 63) : curveIndex n = i := Fin.ext e.symm

theorem LightUnit.uses_iff (l : LightUnit) (i : Fin 64) :
    l.uses i = true ↔ i.val = min (l.position / 4) 63 ∨ i.val = min (l.position / 4 + 1) 63 :=
  decide_eq_true_iff.trans (or_congr Fin.ext_iff Fin.ext_iff)

/-- The light unit after a commit, its lookup aside (R139). -/
def LightUnit.committed (l : LightUnit) (t : Triple) : LightUnit :=
  { l with curve := l.curve.set l.pointer t, holder := [], pointer := l.pointer + 1 }

theorem State.commitTriple_eq (s : State) (k : House) (t : Triple) :
    s.commitTriple k t =
      if (s.light k).fade.isNone && (s.light k).uses (s.light k).pointer then
        (s.setLight k ((s.light k).committed t)).lookupLight k
      else s.setLight k ((s.light k).committed t) :=
  rfl

/-- A byte held while fewer than two are. -/
theorem State.curveByte_held {held : List Byte} (holder : (s.light k).holder = held) (short : held.length < 2) (b : Byte) :
    s.curveByte k b = s.setLight k { s.light k with holder := held ++ [b] } := by
  unfold State.curveByte
  dsimp only
  rw [holder]
  split
  · simp only [List.length_cons] at short
    omega
  · rfl

theorem State.curveByte_full {a b : Byte} (holder : (s.light k).holder = [a, b]) (d : Byte) :
    s.curveByte k d = s.commitTriple k { ceiling := a.toNat, wall := b.toNat, aisle := d.toNat } := by
  unfold State.curveByte
  dsimp only
  rw [holder]

theorem State.commitTriple_light (s : State) (k : House) (t : Triple) :
    ((s.commitTriple k t).light k).pointer = (s.light k).pointer + 1 ∧ ((s.commitTriple k t).light k).holder = [] := by
  rw [State.commitTriple_eq]
  split
  · rw [State.lookupLight_light, State.setLight_light_same]
    exact ⟨rfl, rfl⟩
  · rw [State.setLight_light_same]
    exact ⟨rfl, rfl⟩

/-- Where one curve byte leaves the pointer and the holder. -/
theorem State.curveByte_place (s : State) (k : House) (b : Byte) (short : (s.light k).holder.length ≤ 2) :
    ((s.curveByte k b).light k).holder.length = ((s.light k).holder.length + 1) % 3 ∧
      ((s.curveByte k b).light k).pointer.val = ((s.light k).pointer.val + ((s.light k).holder.length + 1) / 3) % 64 := by
  generalize held : (s.light k).holder = l at short
  have inside : (s.light k).pointer.val < 64 := (s.light k).pointer.isLt
  by_cases full : l.length = 2
  · obtain ⟨a, c, rfl⟩ := List.length_eq_two.mp full
    obtain ⟨pointer, holder⟩ := s.commitTriple_light k { ceiling := a.toNat, wall := c.toNat, aisle := b.toNat }
    rw [State.curveByte_full held, pointer, holder]
    exact ⟨by simp, (Fin.val_add _ 1).trans (by simp)⟩
  · rw [State.curveByte_held held (by omega), State.setLight_light_same]
    refine ⟨?_, ?_⟩
    · rw [List.length_append, List.length_singleton, Nat.mod_eq_of_lt (by omega)]
    · show (s.light k).pointer.val = _
      rw [Nat.div_eq_of_lt (by omega), Nat.add_zero, Nat.mod_eq_of_lt inside]

/-- Where the bytes of a CURVE DATA leave the pointer and the holder. -/
theorem State.curveBytes_place (k : House) (bytes : List Byte) (s : State) (short : (s.light k).holder.length ≤ 2) :
    ((bytes.foldl (fun t b => t.curveByte k b) s).light k).holder.length = ((s.light k).holder.length + bytes.length) % 3 ∧
      ((bytes.foldl (fun t b => t.curveByte k b) s).light k).pointer.val =
        ((s.light k).pointer.val + ((s.light k).holder.length + bytes.length) / 3) % 64 := by
  induction bytes generalizing s with
  | nil =>
    have inside : (s.light k).pointer.val < 64 := (s.light k).pointer.isLt
    simp only [List.foldl_nil, List.length_nil]
    omega
  | cons b bytes ih =>
    obtain ⟨holder, pointer⟩ := s.curveByte_place k b short
    obtain ⟨holders, pointers⟩ := ih (s.curveByte k b) (by omega)
    rw [List.foldl_cons, List.length_cons, holders, pointers, holder, pointer]
    omega

theorem State.Local.curveBytes (k : House) (bytes : List Byte) (s : State) :
    State.Local k s (bytes.foldl (fun t b => t.curveByte k b) s) := by
  induction bytes generalizing s with
  | nil => exact State.Local.refl k s
  | cons b bytes ih => exact (State.Local.curveByte k s b).trans (ih _)

/-- Settles O35: the order CURVE POINT, the lookup, the bytes of CURVE DATA counted, then one byte in each state of the holder. -/
theorem curveLoadsTriples : Obligations.CurveLoadsTriples := by
  refine ⟨fun s dt src house entry listens => ⟨fun outside => ?_, fun k i named index => ?_⟩, fun l p i j _ low high => ?_,
    fun s dt src bytes k listens some few short => ?_, fun s k a b d => ⟨fun empty => ?_, fun one => ?_, fun two => ⟨?_, ?_⟩⟩⟩
  · refine performs_of_judged (run := judgeCurvePoint house entry) (.curvePoint house entry) listens rfl
      (by simp [encodeOrder, Order.params]) ?_ listens.calm
    unfold judgeCurvePoint
    obtain unnamed | above := outside
    · rw [unnamed]; rfl
    · rw [toIndex_of_le above]
      cases houseOf house <;> rfl
  · refine performs_of_judged (run := judgeCurvePoint house entry) (.curvePoint house entry) listens rfl
      (by simp [encodeOrder, Order.params]) ?_ listens.calm
    unfold judgeCurvePoint
    rw [named, toIndex_of_eq i index]
    rfl
  · have at' : curveIndex (p / 4) = i := curveIndex_eq (by omega)
    have next : curveIndex (p / 4 + 1) = j := curveIndex_eq high
    unfold LightUnit.lookup
    rw [at', next]
    have quarter : p % 4 ≤ 4 := by omega
    exact ⟨interpolate_eq _ _ _ quarter, interpolate_eq _ _ _ quarter, interpolate_eq _ _ _ quarter⟩
  · obtain ⟨holder, pointer⟩ := State.curveBytes_place k bytes (s.heard dt) short
    have calm : (bytes.foldl (fun t b => t.curveByte k b) (s.heard dt)).orders.restart = .clear := by
      rw [(State.Local.curveBytes k bytes (s.heard dt)).orders (by rw [State.heard_orders, listens.calm]; nofun), State.heard_orders,
        listens.calm]
    have judged : judgeCurveData k bytes (s.heard dt) =
        (bytes.foldl (fun t b => t.curveByte k b) (s.heard dt),
          { result := .done
            data := [BitVec.ofNat 8 (((s.light k).pointer + ((s.light k).holder.length + bytes.length) / 3) % 64),
              BitVec.ofNat 8 (((s.light k).holder.length + bytes.length) % 3)] }) := by
      unfold judgeCurveData
      rw [if_pos ⟨some, few⟩]
      dsimp only
      rw [holder, pointer]
      rfl
    cases k
    · exact performs_of_judged (run := judgeCurveData .one bytes) (.curveData .one bytes) listens rfl
        (by simp [encodeOrder, Order.params]; omega) judged calm
    · exact performs_of_judged (run := judgeCurveData .two bytes) (.curveData .two bytes) listens rfl
        (by simp [encodeOrder, Order.params]; omega) judged calm
  · exact State.curveByte_held empty (by decide) a
  · exact State.curveByte_held one (Nat.lt_succ_self 1) b
  · intro quiet
    rw [State.curveByte_full two, State.commitTriple_eq]
    split
    · rename_i used
      rw [Bool.and_eq_true, Option.isNone_iff_eq_none, LightUnit.uses_iff] at used
      obtain fading | unused | same := quiet
      · exact absurd used.1 fading
      · exact absurd used.2 unused
      · exact State.lookupLight_same (by rw [State.setLight_light_same]; exact same)
    · rfl
  · intro resting used differs
    rw [State.curveByte_full two, State.commitTriple_eq,
      if_pos (by rw [resting, (LightUnit.uses_iff _ _).mpr used]; rfl), State.lookupLight_differs]
    · rw [State.setLight_light_same, State.setLight_setLight]
      rfl
    · rw [State.setLight_light_same]
      exact differs

/-! ### LEAVE and JOIN (R14, R15) -/

theorem State.moveToListen_calm (calm : s.orders.restart ≠ .waiting) :
    s.moveToListen = s.setLoop { s.loop with state := .listen, bypass := true, repeats := [], leaveAwaiting := false } :=
  State.requestStart_calm _ calm

/-- LEAVE as the loop unit stands (R14). -/
theorem State.leaveRing_eq (calm : s.orders.restart ≠ .waiting) :
    s.leaveRing = s.setLoop
      (if s.loop.state = .held then
        match s.loop.out with
        | .sending _ => { s.loop with latch := true, leaveAwaiting := true }
        | _ => { s.loop with latch := true, state := .listen, bypass := true, repeats := [], leaveAwaiting := false }
      else { s.loop with latch := true }) := by
  unfold State.leaveRing
  split
  · rename_i held
    rw [if_pos held]
    cases s.loop.out
    case sending => rfl
    all_goals exact State.moveToListen_calm calm
  · rename_i other
    rw [if_neg other]

/-- JOIN as the loop unit stands (R15). -/
theorem State.joinRing_eq (s : State) :
    s.joinRing = s.setLoop
      (if s.loop.state = .listen then { s.loop with latch := false, leaveAwaiting := false, state := .held, bypass := false }
      else { s.loop with latch := false, leaveAwaiting := false }) := by
  unfold State.joinRing
  dsimp only
  split
  · rename_i listen
    rw [if_pos listen]
  · rename_i other
    rw [if_neg other]

/-- Settles O9: LEAVE and JOIN as the loop unit stands; the repeat FIFO, which a LEAVE empties, is no part of a settled state. -/
theorem leaveAndJoinMoveLoop : Obligations.LeaveAndJoinMoveLoop := by
  refine ⟨fun s dt src listens => ?_, fun s dt src listens => ?_⟩
  · have quiet : (s.heard dt).orders.restart ≠ .waiting := by rw [State.heard_orders, listens.calm]; nofun
    obtain ⟨t, ran, settles, answers⟩ := performs_of_judged (c := .leave dt src) (dt := dt) (src := src) (run := judgeLeave) .leave listens rfl
      (by simp [encodeOrder, Order.params]) (congrArg (·, Reply.plain .done) (State.leaveRing_eq quiet)) listens.calm
    refine ⟨t, ran, settles.trans_same ?_ rfl, answers⟩
    dsimp only
    cases (s.heard dt).loop.state
    case held => cases (s.heard dt).loop.out <;> rfl
    all_goals rfl
  · exact performs_of_judged (run := judgeJoin) .join listens rfl (by simp [encodeOrder, Order.params])
      (congrArg (·, Reply.plain .done) (State.joinRing_eq _)) listens.calm

end Sys2Proof.Machine
end

section
/-! SUPPORT. The reception of telegrams (R4 to R11): breaks, errors, good telegrams routed and stripped, and the search for a rate. -/

namespace Sys2Proof.Machine

variable {s t u : State} {f : Frame}

/-! ### The check of a telegram (R2, R7) -/

theorem byteSum_toNat (bs : List Byte) : (byteSum bs).toNat = (bs.map BitVec.toNat).sum % 256 := by
  have fold : ∀ a : Byte, (bs.foldl (· + ·) a).toNat = (a.toNat + (bs.map BitVec.toNat).sum) % 256 := by
    induction bs with
    | nil => exact fun a => (Nat.mod_eq_of_lt a.isLt).symm
    | cons b bs ih =>
      intro a
      rw [List.foldl_cons, ih, BitVec.toNat_add, List.map_cons, List.sum_cons]
      omega
  exact (fold 0).trans (by simp)

theorem Frame.checkOk_iff (f : Frame) (short : f.payload.length ≤ 12) :
    f.checkOk = true ↔
      (f.dst.toNat + f.src.toNat + f.kind.toNat + f.payload.length + (f.payload.map BitVec.toNat).sum + f.check.toNat) % 256 = 0 := by
  have length : (BitVec.ofNat 8 f.payload.length).toNat = f.payload.length := by rw [BitVec.toNat_ofNat]; omega
  unfold Frame.checkOk
  rw [beq_iff_eq, ← BitVec.toNat_inj, BitVec.toNat_add, byteSum_toNat]
  simp only [Frame.body, List.map_cons, List.sum_cons, length]
  rw [show (0 : Byte).toNat = 0 from rfl]
  omega

/-! ### Counters (R24) -/

theorem State.countLoop_counts (s : State) (g : LoopCounters → LoopCounters) (locked : s.loop.state ≠ .search) :
    s.countLoop g = s.setLoop { s.loop with counters := g s.loop.counters } :=
  if_neg locked

/-! ### What the receiver does (R4 to R7) -/

theorem State.receive_ignoring (ignores : s.loop.rx = .ignoring) (order : State → State) : s.receive f order = s := by
  unfold State.receive
  rw [ignores]

theorem State.receive_hearing (hears : s.loop.rx ≠ .ignoring) (order : State → State) :
    s.receive f order =
      if 12 < f.payload.length then s.lengthError
      else if f.checkOk && f.addressOk then (s.setLoop { s.loop with rx := .seeking }).goodTelegram f order
      else (s.setLoop { s.loop with rx := .seeking }).countLoop fun c => { c with check := bump c.check } := by
  unfold State.receive
  split
  · rename_i ignores
    exact absurd ignores hears
  · rfl

theorem State.lengthError_hearing (hears : s.loop.rx ≠ .ignoring) :
    s.lengthError = (s.setLoop { s.loop with rx := .ignoring }).countLoop fun c => { c with length := bump c.length } := by
  unfold State.lengthError
  split
  · rename_i ignores
    exact absurd ignores hears
  · rfl

theorem State.lengthError_ignoring (ignores : s.loop.rx = .ignoring) : s.lengthError = s := by
  unfold State.lengthError
  rw [ignores]

theorem afterBreak_eq (c : BreakCause) :
    afterBreak c =
      match c with
      | .gap b => if b = 0xA5 then .assembling [0xA5] else .seeking
      | .framing => .seeking := by
  cases c with
  | gap b =>
    by_cases lead : b = 0xA5
    · subst lead; rfl
    · exact (if_neg lead).trans (if_neg lead).symm
  | framing => rfl

theorem State.lineBreak_hearing (hears : s.loop.rx ≠ .ignoring) (c : BreakCause) :
    s.lineBreak c = (s.setLoop { s.loop with rx := afterBreak c }).countLoop fun n => { n with brk := bump n.brk } := by
  unfold State.lineBreak
  split
  · rename_i ignores
    exact absurd ignores hears
  · rfl

theorem State.lineBreak_ignoring (ignores : s.loop.rx = .ignoring) (c : BreakCause) : s.lineBreak c = s := by
  unfold State.lineBreak
  rw [ignores]

theorem State.lengthIdle_hearing (hears : s.loop.rx ≠ .ignoring) : s.lengthIdle = s := by
  unfold State.lengthIdle
  split
  · rename_i ignores
    exact absurd ignores hears
  · rfl

theorem State.lengthIdle_ignoring (ignores : s.loop.rx = .ignoring) : s.lengthIdle = s.setLoop { s.loop with rx := .seeking } := by
  unfold State.lengthIdle
  rw [ignores]

/-- An event with the arbiter's one choice said, in the state its effect made. -/
theorem event_chose {c : Instr} {dt : Nat} {f : State → State} {after : State} (awake : s.Awake) (row : exec c s = event dt f s)
    (made : f (s.elapse dt) = after) (calm : after.orders.restart ≠ .requested) :
    ∃ t, exec c s = .next t ∧ t.Settles after ∧ after.ArbiterChose t := by
  subst made
  obtain ⟨t, ran, settles, chose⟩ := event_becomesSending dt f s awake.1 calm
  exact ⟨t, row.trans ran, settles, chose⟩

/-- Settles O3: each error is one equation of the loop unit, and an event that moves the loop unit alone ends in the arbiter's choice. -/
theorem receptionErrorsDiscard : Obligations.ReceptionErrorsDiscard := by
  have sends : ∀ {s : State} {c : Instr} {dt : Nat} {g : State → State} {l : LoopUnit}, s.Awake → exec c s = event dt g s →
      g (s.elapse dt) = (s.elapse dt).setLoop l → s.BecomesSending c { s.elapse dt with loop := l } := fun awake row made =>
    event_chose awake row made (ne_of_eq_of_ne awake.2 nofun)
  refine ⟨fun s dt c awake hears => ?_, fun s dt awake => ⟨fun hears => ?_, fun ignores => ⟨fun f => ?_, fun c => ?_, ?_, ?_⟩,
    fun hears => ?_⟩, fun s dt f awake hears short bad => ?_, fun s dt f awake hears long => ?_⟩
  · refine sends (g := fun t => t.lineBreak c) awake rfl ?_
    rw [State.lineBreak_hearing (s := s.elapse dt) hears, State.countLoop_eq, afterBreak_eq]
    rfl
  · refine sends (g := State.lengthError) awake rfl ?_
    rw [State.lengthError_hearing (s := s.elapse dt) hears, State.countLoop_eq]
    rfl
  · exact sends (g := fun t => t.receive f (takeOrder f.src (decodeOrder f.payload))) awake rfl
      (State.receive_ignoring (s := s.elapse dt) ignores _)
  · exact sends (g := fun t => t.lineBreak c) awake rfl (State.lineBreak_ignoring (s := s.elapse dt) ignores c)
  · exact sends (g := State.lengthError) awake rfl (State.lengthError_ignoring (s := s.elapse dt) ignores)
  · exact sends (g := State.lengthIdle) awake rfl (State.lengthIdle_ignoring (s := s.elapse dt) ignores)
  · exact sends (g := State.lengthIdle) awake rfl (State.lengthIdle_hearing (s := s.elapse dt) hears)
  · refine sends (g := fun t => t.receive f (takeOrder f.src (decodeOrder f.payload))) awake rfl ?_
    have fails : ¬ (f.checkOk && f.addressOk) = true := by
      rw [Bool.and_eq_true, Frame.checkOk_iff f short, Frame.addressOk, decide_eq_true_eq]
      omega
    rw [State.receive_hearing (s := s.elapse dt) hears, if_neg (by omega), if_neg fails, State.countLoop_eq]
    rfl
  · refine sends (g := fun t => t.receive f (takeOrder f.src (decodeOrder f.payload))) awake rfl ?_
    rw [State.receive_hearing (s := s.elapse dt) hears, if_pos long, State.lengthError_hearing (s := s.elapse dt) hears,
      State.countLoop_eq]
    rfl

end Sys2Proof.Machine
end

section
/-! SUPPORT. A good telegram routed, stripped, or taken as the first at a rate under trial (R8 to R11, R16 to R19). -/

namespace Sys2Proof.Machine

variable {s t u : State} {f : Frame}

/-! ### What a good telegram finds -/

/-- The state in which a good telegram is handed on in HELD and LISTEN: the receiver seeks a lead and the guard runs anew (R4, R8). -/
def State.arrived (s : State) : State := s.setLoop { s.loop with rx := .seeking, guard := some (s.ms + s.loop.guardTime) }

/-- The same for the first good telegram in SEARCH, which locks the rate (R11). -/
def State.lockedOn (s : State) : State :=
  s.setLoop
    { s.loop with
      state := if s.loop.latch then .listen else .held, dwell := none, bypass := s.loop.latch, rx := .seeking
      guard := some (s.ms + s.loop.guardTime) }

theorem State.receive_good (hears : s.loop.rx ≠ .ignoring) (short : f.payload.length ≤ 12) (check : f.checkOk = true)
    (address : f.addressOk = true) (order : State → State) :
    s.receive f order = (s.setLoop { s.loop with rx := .seeking }).goodTelegram f order := by
  rw [State.receive_hearing hears, if_neg (by omega), check, address]
  rfl

/-- A good telegram in HELD or LISTEN (R8). -/
theorem State.receive_routed (hears : s.loop.rx ≠ .ignoring) (short : f.payload.length ≤ 12) (check : f.checkOk = true)
    (address : f.addressOk = true) (locked : s.loop.state ≠ .search) (order : State → State) :
    s.receive f order = if s.stripped f then s.arrived.strip f else s.arrived.route f true order := by
  rw [State.receive_good hears short check address]
  unfold State.goodTelegram
  split
  · rename_i search
    exact absurd search locked
  · rfl
  · rfl

/-- The first good telegram in SEARCH (R11). -/
theorem State.receive_locking (hears : s.loop.rx ≠ .ignoring) (short : f.payload.length ≤ 12) (check : f.checkOk = true)
    (address : f.addressOk = true) (search : s.loop.state = .search) (order : State → State) :
    s.receive f order = if s.stripped f then s.lockedOn.strip f else s.lockedOn.route f false order := by
  have found : (s.setLoop { s.loop with rx := .seeking }).loop.state = .search := search
  rw [State.receive_good hears short check address]
  unfold State.goodTelegram
  rw [found]
  rfl

/-! ### Routing (R9, R16) -/

theorem State.stripped_iff : s.stripped f = true ↔ f.src = s.orders.own ∨ ∃ e ∈ s.loop.transit, e.frame.src = f.src := by
  unfold State.stripped
  rw [Bool.or_eq_true, beq_iff_eq, List.any_eq_true]
  exact or_congr Iff.rfl (exists_congr fun e => and_congr_right fun _ => beq_iff_eq)

/-- The telegram delivered by the entry that takes it (R27, R28). -/
theorem State.matchFrame_delivered (s : State) (f : Frame) :
    (s.matchFrame f).1 =
      match s.matcher.taking f with
      | some i => (s.countMatch i).deliver (s.matcher.table.get i).action f
      | none => s := by
  unfold State.matchFrame
  cases s.matcher.taking f <;> rfl

theorem ReactEntry.consumes_iff (e : ReactEntry) : e.consumes = true ↔ e.action = .drop ∨ e.consume = true := by
  unfold ReactEntry.consumes
  split
  · rename_i drop
    exact ⟨fun _ => .inl drop, fun _ => rfl⟩
  · rename_i other
    exact ⟨.inr, fun e => e.resolve_left other⟩

theorem State.matchFrame_consumed (s : State) (f : Frame) :
    (s.matchFrame f).2 = true ↔
      ∃ i, s.matcher.taking f = some i ∧ ((s.matcher.table.get i).action = .drop ∨ (s.matcher.table.get i).consume = true) := by
  unfold State.matchFrame
  split
  · rename_i none
    rw [none]
    exact ⟨nofun, fun ⟨_, found, _⟩ => nomatch found⟩
  · rename_i i found
    rw [found]
    exact (ReactEntry.consumes_iff _).trans ⟨fun e => ⟨i, rfl, e⟩, fun ⟨_, same, e⟩ => by cases same; exact e⟩

/-- Whether a routed telegram is kept back from the repeat FIFO (R9, R16, R28). -/
def State.KeepsBack (s : State) (f : Frame) : Prop :=
  f.dst = s.orders.own ∨ s.loop.state ≠ .held ∨
    ∃ i, s.matcher.taking f = some i ∧ ((s.matcher.table.get i).action = .drop ∨ (s.matcher.table.get i).consume = true)

/-- A telegram that is no ORDER to the part, kept back from the repeat FIFO or that may not be repeated, is delivered alone. -/
theorem State.route_kept (other : f.dst = s.orders.own → f.kind ≠ Config.kindOrder) {mayRepeat : Bool}
    (kept : mayRepeat = false ∨ s.KeepsBack f) (order : State → State) : s.route f mayRepeat order = (s.matchFrame f).1 := by
  unfold State.route
  split
  · rename_i own
    rw [if_neg (other own)]
  · rename_i foreign
    refine if_neg fun repeats => ?_
    simp only [Bool.and_eq_true, Bool.not_eq_true', beq_iff_eq] at repeats
    obtain ⟨⟨may, held⟩, unconsumed⟩ := repeats
    obtain barred | own | away | consumed := kept
    · rw [barred] at may; cases may
    · exact foreign own
    · exact away held
    · rw [(s.matchFrame_consumed f).mpr consumed] at unconsumed; cases unconsumed

theorem State.route_repeated (free : ¬ s.KeepsBack f) (order : State → State) :
    s.route f true order = (s.matchFrame f).1.joinRepeats f := by
  simp only [State.KeepsBack, not_or, not_not] at free
  obtain ⟨foreign, held, unconsumed⟩ := free
  unfold State.route
  rw [if_neg foreign]
  refine if_pos ?_
  rw [held, Bool.eq_false_iff.mpr (mt (s.matchFrame_consumed f).mp unconsumed)]
  rfl

theorem LoopUnit.quieted_out {l l' : LoopUnit} (same : l.quieted = l'.quieted) :
    l.out = l'.out ∧ l.leaveAwaiting = l'.leaveAwaiting :=
  ⟨(congrArg LoopUnit.out same :), (congrArg LoopUnit.leaveAwaiting same :)⟩

/-! ### The repeat FIFO after the arbiter's choice -/

theorem State.RepeatsNothing.of_loop (a : u.RepeatsNothing t) (state : u.loop.state = s.loop.state) (out : u.loop.out = s.loop.out)
    (leave : u.loop.leaveAwaiting = s.loop.leaveAwaiting) (repeats : u.loop.repeats = s.loop.repeats) : s.RepeatsNothing t := by
  unfold State.RepeatsNothing at a ⊢
  rwa [state, out, leave, repeats] at a

theorem State.RepeatsNothing.of_quieted (a : u.RepeatsNothing t) (same : u.loop.quieted = s.loop.quieted) : s.RepeatsNothing t := by
  obtain ⟨repeats, -, -, state, -⟩ := LoopUnit.quieted_fields same
  obtain ⟨out, leave⟩ := LoopUnit.quieted_out same
  exact a.of_loop state out leave repeats

/-- The arbiter's choice lists one telegram more at most (R17). -/
theorem State.ArbiterChose.transit (chose : u.ArbiterChose t) :
    ∃ new, new.length ≤ 1 ∧ t.loop.transit = u.loop.transit ++ new := by
  have same : t.loop.transit = u.loop.transit → ∃ new, new.length ≤ 1 ∧ t.loop.transit = u.loop.transit ++ new :=
    fun e => ⟨[], Nat.zero_le 1, by rw [e, List.append_nil]⟩
  by_cases held : u.loop.state = .held
  case neg => exact same (by rw [(chose.rests (.inl held)).1])
  by_cases leave : u.loop.leaveAwaiting = true
  case pos => exact same (by rw [(chose.rests (.inr (.inl leave))).1])
  by_cases out : u.loop.out = .free
  case neg => exact same (by rw [(chose.rests (.inr (.inr out))).1])
  cases repeats : u.loop.repeats with
  | cons g rest => exact same (by rw [(chose.repeats held (Bool.eq_false_iff.mpr leave) out g rest repeats).1])
  | nil =>
    obtain ⟨loop, -⟩ | ⟨-, -, w, rest, x, f, -, loop, -⟩ | ⟨-, d, f, cls, since, -, -, loop, -⟩ :=
      chose.originates held (Bool.eq_false_iff.mpr leave) out repeats
    · exact same (by rw [loop])
    · exact ⟨[{ frame := f, deadline := none }], Nat.le_refl 1, by rw [loop]⟩
    · exact ⟨[{ frame := f, deadline := none }], Nat.le_refl 1, by rw [loop]⟩

/-! ### A good telegram routed (R9, R16) -/

theorem State.joinRepeats_room (room : s.loop.repeats.length < 4) (f : Frame) :
    s.joinRepeats f = s.setLoop { s.loop with repeats := s.loop.repeats ++ [f] } :=
  if_pos room

theorem State.joinRepeats_full (full : 4 ≤ s.loop.repeats.length) (locked : s.loop.state ≠ .search) (f : Frame) :
    s.joinRepeats f = s.setLoop { s.loop with counters := { s.loop.counters with overrun := bump s.loop.counters.overrun } } :=
  (if_neg (by omega)).trans (s.countLoop_counts _ locked)

/-- The delivery of a telegram to a part that takes events moves the loop unit's counters and the answer/notice FIFO alone. -/
theorem State.matchFrame_calm (f : Frame) (calm : s.orders.restart = .clear) :
    (s.matchFrame f).1.loop.quieted = s.loop.quieted ∧ (s.matchFrame f).1.orders.restart ≠ .requested := by
  have kept := State.TablesKept.matchFrame s f
  exact ⟨kept.loop, by rw [kept.orders (by rw [calm]; nofun), calm]; nofun⟩

/-- The arrival of a telegram whose effect is the same whatever an ORDER would do. -/
theorem telegram_chose {dt : Nat} {after : State} (awake : s.Awake) (made : ∀ order, (s.elapse dt).receive f order = after)
    (calm : after.orders.restart ≠ .requested) :
    ∃ t, exec (.telegramComplete dt f) s = .next t ∧ t.Settles after ∧ after.ArbiterChose t :=
  event_chose (f := fun t => t.receive f (takeOrder f.src (decodeOrder f.payload))) awake rfl (made _) calm

/-- Settles O5: the telegram is delivered, and joins the repeat FIFO as the entry decides, before the arbiter's one choice. -/
theorem goodTelegramRouted : Obligations.GoodTelegramRouted := by
  intro s dt f awake hears short check address locked foreign strange other arrived taken delivered kept sending
  have same : delivered = ((s.elapse dt).arrived.matchFrame f).1 := ((s.elapse dt).arrived.matchFrame_delivered f).symm
  obtain ⟨quieted, calm⟩ := State.matchFrame_calm (s := (s.elapse dt).arrived) f awake.2
  rw [← same] at quieted calm
  obtain ⟨repeats, -, -, state, -⟩ := LoopUnit.quieted_fields quieted
  obtain ⟨out, leave⟩ := LoopUnit.quieted_out quieted
  have whole : s.stripped f = false := Bool.eq_false_iff.mpr fun strips =>
    (State.stripped_iff.mp strips).elim foreign fun ⟨e, listed, source⟩ => strange e listed source
  have routed : ∀ order, (s.elapse dt).receive f order = (s.elapse dt).arrived.route f true order := fun order => by
    rw [State.receive_routed (s := s.elapse dt) hears short check address locked]
    exact if_neg (ne_true_of_eq_false whole)
  have sends : ∀ {after t : State} {waiting}, after.ArbiterChose t → after.loop.state = delivered.loop.state →
      after.loop.out = delivered.loop.out → after.loop.leaveAwaiting = delivered.loop.leaveAwaiting →
      after.loop.repeats = waiting → sending t waiting := fun {after t waiting} chose hs ho hl hr => by
    have sent := chose.repeatsNothing.1
    rw [hs, ho, hl, hr, state, out, leave] at sent
    exact sent
  refine ⟨fun back => ?_, fun free room => ?_, fun free full => ?_⟩
  · obtain ⟨t, ran, settles, chose⟩ := telegram_chose awake (fun order => (routed order).trans ((State.route_kept (s := (s.elapse dt).arrived) other (.inr back) order).trans same.symm)) calm
    exact ⟨t, ran, settles, sends chose rfl rfl rfl repeats⟩
  · have made : delivered.joinRepeats f = delivered.setLoop { delivered.loop with repeats := s.loop.repeats ++ [f] } := by
      rw [State.joinRepeats_room (by rw [repeats]; exact room), repeats]
      rfl
    obtain ⟨t, ran, settles, chose⟩ := telegram_chose awake (fun order => (routed order).trans ((State.route_repeated (s := (s.elapse dt).arrived) free order).trans ((congrArg (·.joinRepeats f) same.symm).trans made))) (by exact calm)
    exact ⟨t, ran, settles.trans_same (State.setLoop_settled delivered _ rfl) rfl, sends chose rfl rfl rfl rfl⟩
  · have made : delivered.joinRepeats f =
        delivered.setLoop { delivered.loop with counters := { delivered.loop.counters with overrun := bump delivered.loop.counters.overrun } } :=
      State.joinRepeats_full (by rw [repeats]; exact full) (by rw [state]; exact locked) f
    obtain ⟨t, ran, settles, chose⟩ := telegram_chose awake (fun order => (routed order).trans ((State.route_repeated (s := (s.elapse dt).arrived) free order).trans ((congrArg (·.joinRepeats f) same.symm).trans made))) (by exact calm)
    exact ⟨t, ran, settles, sends chose rfl rfl rfl repeats⟩

end Sys2Proof.Machine
end

section
/-! SUPPORT. Strip handling (R8, R18, R19) and the search for a rate (R10, R11). -/

namespace Sys2Proof.Machine

variable {s t u : State} {f : Frame}

/-! ### Strip handling (R18, R19) -/

theorem LoopUnit.returned_first {l : LoopUnit} {k : Nat} (found : (l.transit[k]?).map Transit.frame = some f)
    (older : ∀ j < k, (l.transit[j]?).map Transit.frame ≠ some f) : l.returned f = some k := by
  obtain ⟨e, at', frame⟩ := Option.map_eq_some_iff.mp found
  obtain ⟨inside, same⟩ := List.getElem?_eq_some_iff.mp at'
  refine List.findIdx?_eq_some_iff_getElem.mpr ⟨inside, ?_, fun j before => ?_⟩
  · rw [same, frame]
    exact beq_self_eq_true f
  · have differs := older j before
    rw [List.getElem?_eq_getElem (by omega), Option.map_some, ne_eq, Option.some.injEq] at differs
    rwa [beq_iff_eq]

theorem LoopUnit.returned_none {l : LoopUnit} (differs : ∀ e ∈ l.transit, e.frame ≠ f) : l.returned f = none :=
  List.findIdx?_eq_none_iff.mpr fun e listed => beq_eq_false_iff_ne.mpr (differs e listed)

/-- A telegram that is listed has its source listed (R8). -/
theorem State.stripped_listed {k : Nat} (found : (s.loop.transit[k]?).map Transit.frame = some f) : s.stripped f = true := by
  obtain ⟨e, at', frame⟩ := Option.map_eq_some_iff.mp found
  exact State.stripped_iff.mpr (.inr ⟨e, List.mem_of_getElem? at', by rw [frame]⟩)

/-- A returned telegram (R18). -/
theorem State.strip_returned {k : Nat} (locked : s.loop.state ≠ .search) (returned : s.loop.returned f = some k) :
    s.strip f = s.setLoop
      { s.loop with
        transit := s.loop.transit.drop (k + 1), losses := 0
        counters := { s.loop.counters with lost := bumpBy s.loop.counters.lost k } } := by
  unfold State.strip
  rw [returned]
  exact State.countLoop_counts _ _ locked

/-- A clash (R19). -/
theorem State.strip_clash (locked : s.loop.state ≠ .search) (returned : s.loop.returned f = none) :
    s.strip f =
      (s.setLoop { s.loop with counters := { s.loop.counters with clash := bump s.loop.counters.clash } }).raise .loop .none
        (some .clash) := by
  unfold State.strip
  rw [returned]
  exact congrArg (fun t : State => t.raise .loop .none (some .clash)) (s.countLoop_counts _ locked)

theorem State.raise_quieted (s : State) (e : Event) (c : Cause) (code : Option Code) : (s.raise e c code).loop.quieted = s.loop.quieted :=
  (State.Local.raise .one s e c code).loop

/-- What follows a clash: the notice, the list as it was, and nothing repeated. -/
theorem clash_sends {l : LoopUnit} {own : State} (settles : t.Settles ((s.setLoop l).raise .loop .none (some .clash)))
    (chose : ((s.setLoop l).raise .loop .none (some .clash)).ArbiterChose t) (calm : s.orders.restart = .clear)
    (same : l.quieted = own.loop.quieted) :
    t.Settles ((s.setLoop l).setNotices (s.notices.raised .loop .none (some .clash))) ∧
      (∃ new, new.length ≤ 1 ∧ t.loop.transit = own.loop.transit ++ new) ∧ own.RepeatsNothing t := by
  have quieted := ((s.setLoop l).raise_quieted .loop .none (some .clash)).trans same
  have quiet : (s.setLoop l).orders.restart ≠ .waiting := by rw [State.setLoop_orders, calm]; nofun
  refine ⟨settles.trans_same (State.raise_settled _ _ _ _ quiet) (State.raise_drive ..), ?_, chose.repeatsNothing.of_quieted quieted⟩
  rw [← (LoopUnit.quieted_fields quieted).2.1]
  exact chose.transit

/-- The state in which the arbiter chooses after a clash requests no start. -/
theorem State.clash_calm (l : LoopUnit) (calm : s.orders.restart = .clear) :
    ((s.setLoop l).raise .loop .none (some .clash)).orders.restart ≠ .requested := by
  rw [State.raise_orders _ _ _ _ (by rw [State.setLoop_orders, calm]; nofun), State.setLoop_orders, calm]
  nofun

/-- Settles O6: the entry returned, then the clash. -/
theorem stripHandling : Obligations.StripHandling := by
  refine ⟨fun s dt f k awake hears short check address locked found older => ?_,
    fun s dt f awake hears short check address locked strips differs => ?_⟩
  · have made : ∀ order, (s.elapse dt).receive f order = (s.elapse dt).arrived.strip f := fun order => by
      rw [State.receive_routed (s := s.elapse dt) hears short check address locked]
      exact if_pos (State.stripped_listed (s := s.elapse dt) found)
    rw [State.strip_returned (s := (s.elapse dt).arrived) locked (LoopUnit.returned_first found older)] at made
    obtain ⟨t, ran, settles, chose⟩ := telegram_chose awake made (ne_of_eq_of_ne awake.2 nofun)
    exact ⟨t, ran, settles.trans_same (State.setLoop_settled
      ((s.elapse dt).setLoop
        { s.loop with
          rx := .seeking, guard := some ((s.elapse dt).ms + s.loop.guardTime), losses := 0
          counters := { s.loop.counters with lost := min (s.loop.counters.lost + k) 65535 } }) _ rfl) rfl,
      chose.transit, chose, chose.repeatsNothing.of_loop rfl rfl rfl rfl⟩
  · have made : ∀ order, (s.elapse dt).receive f order = (s.elapse dt).arrived.strip f := fun order => by
      rw [State.receive_routed (s := s.elapse dt) hears short check address locked]
      exact if_pos (State.stripped_iff (s := s.elapse dt) |>.mpr strips)
    rw [State.strip_clash (s := (s.elapse dt).arrived) locked (LoopUnit.returned_none differs)] at made
    obtain ⟨t, ran, settles, chose⟩ := telegram_chose awake made (State.clash_calm (s := (s.elapse dt).arrived) _ awake.2)
    obtain ⟨settled, transit, -⟩ := clash_sends (own := (s.elapse dt).arrived) settles chose awake.2 rfl
    refine ⟨t, ran, settled, transit, chose, chose.repeatsNothing.of_loop ?_ ?_ ?_ ?_⟩
    · exact (LoopUnit.quieted_fields (State.raise_quieted ..)).2.2.2.1
    · exact (LoopUnit.quieted_out (State.raise_quieted ..)).1
    · exact (LoopUnit.quieted_out (State.raise_quieted ..)).2
    · exact (LoopUnit.quieted_fields (State.raise_quieted ..)).1

/-! ### An event that moves the loop unit alone -/

theorem State.setLoop_retained {l : LoopUnit} (guard : l.guardTime = s.loop.guardTime) (limit : l.returnLimit = s.loop.returnLimit)
    (console : l.console = s.loop.console) : (s.setLoop l).retained = s.retained := by
  unfold State.retained
  rw [State.setLoop_loop, guard, limit, console]
  rfl

/-- While the arbiter may not choose, an event that moved no content of the store ends in what its effect made. -/
theorem State.conclude_rests {b : State} (calm : s.orders.restart ≠ .requested) (retained : s.retained = b.retained)
    (sum : s.checkSum = b.checkSum) (rests : s.loop.state ≠ .held ∨ s.loop.leaveAwaiting = true ∨ s.loop.out ≠ .free) :
    s.conclude b = s := by
  have sealed : s.sealFrom b = s := by
    unfold State.sealFrom
    rw [if_pos retained, ← sum]
  unfold State.conclude
  dsimp only
  rw [sealed, if_neg calm]
  refine if_neg fun ⟨held, leave, free⟩ => ?_
  obtain away | awaits | busy := rests
  · exact away held
  · rw [awaits] at leave; cases leave
  · exact busy free

/-- The same of a command, in the words of the loop unit. -/
theorem event_rests {c : Instr} {dt : Nat} {f : State → State} {l : LoopUnit} (awake : s.Awake) (row : exec c s = event dt f s)
    (made : f (s.elapse dt) = (s.elapse dt).setLoop l) (guard : l.guardTime = s.loop.guardTime) (limit : l.returnLimit = s.loop.returnLimit)
    (console : l.console = s.loop.console) (rests : l.state ≠ .held ∨ l.leaveAwaiting = true ∨ l.out ≠ .free) :
    exec c s = .next ((s.elapse dt).setLoop l) := by
  have calm : ((s.elapse dt).setLoop l).orders.restart ≠ .requested := ne_of_eq_of_ne awake.2 nofun
  rw [row, event_awake dt f s awake.1, made]
  exact congrArg _ (State.conclude_rests calm (State.setLoop_retained guard limit console) rfl rests)

/-- Settles O7: the dwell, then the first good telegram by the three fates it can have. -/
theorem searchTriesRatesAndLocks : Obligations.SearchTriesRatesAndLocks := by
  refine fun s dt awake search => ⟨fun d dwell reached => ?_, fun f hears short check address => ?_⟩
  · have made : (s.elapse dt).dwellExpiry = (s.elapse dt).setLoop
        { s.loop with rate := s.loop.rate.next, dwell := some ((s.elapse dt).ms + 600), rx := s.loop.rx.discarded } := by
      refine if_pos ⟨search, ?_⟩
      show due s.loop.dwell (s.elapse dt).ms = true
      rw [dwell]
      exact decide_eq_true reached
    refine (event_rests (f := State.dwellExpiry) awake rfl made rfl rfl rfl (.inl (ne_of_eq_of_ne search nofun))).trans ?_
    cases s.loop.rate <;> cases s.loop.rx <;> rfl
  · have locked : (s.elapse dt).lockedOn.loop.state ≠ .search := by
      show (if s.loop.latch then LoopState.listen else .held) ≠ .search
      split <;> nofun
    have strips : s.stripped f = true → ∀ order, (s.elapse dt).receive f order = (s.elapse dt).lockedOn.strip f := fun own order => by
      rw [State.receive_locking (s := s.elapse dt) hears short check address search]
      exact if_pos own
    intro locked' taken delivered
    have calm : (s.elapse dt).lockedOn.orders.restart = .clear := awake.2
    refine ⟨fun foreign strange other => ?_, fun own differs => ?_, fun k found older => ?_⟩
    · have same : delivered = ((s.elapse dt).lockedOn.matchFrame f).1 := ((s.elapse dt).lockedOn.matchFrame_delivered f).symm
      obtain ⟨quieted, quiet⟩ := State.matchFrame_calm (s := (s.elapse dt).lockedOn) f calm
      rw [← same] at quieted quiet
      have made : ∀ order, (s.elapse dt).receive f order = delivered := fun order => by
        have whole : ¬ (s.elapse dt).stripped f = true := fun strips =>
          (State.stripped_iff.mp strips).elim foreign fun ⟨e, listed, source⟩ => strange e listed source
        rw [State.receive_locking (s := s.elapse dt) hears short check address search, if_neg whole, same]
        exact State.route_kept (s := (s.elapse dt).lockedOn) other (.inl rfl) order
      obtain ⟨t, ran, settles, chose⟩ := telegram_chose awake made quiet
      exact ⟨t, ran, settles, chose.repeatsNothing.of_quieted quieted⟩
    · have made := strips (State.stripped_iff.mpr own)
      rw [State.strip_clash (s := (s.elapse dt).lockedOn) locked (LoopUnit.returned_none differs)] at made
      obtain ⟨t, ran, settles, chose⟩ := telegram_chose awake made (State.clash_calm (s := (s.elapse dt).lockedOn) _ calm)
      obtain ⟨settled, sends⟩ := clash_sends (own := (s.elapse dt).lockedOn) settles chose calm rfl
      exact ⟨t, ran, settled, sends⟩
    · have made := strips (State.stripped_listed found)
      rw [State.strip_returned (s := (s.elapse dt).lockedOn) locked (LoopUnit.returned_first found older)] at made
      obtain ⟨t, ran, settles, chose⟩ := telegram_chose awake made (ne_of_eq_of_ne calm nofun)
      exact ⟨t, ran, settles.trans_same (State.setLoop_settled
        ((s.elapse dt).lockedOn.setLoop
          { (s.elapse dt).lockedOn.loop with
            losses := 0, counters := { s.loop.counters with lost := min (s.loop.counters.lost + k) 65535 } }) _ rfl) rfl,
        chose.transit, chose.repeatsNothing.of_loop rfl rfl rfl rfl⟩

end Sys2Proof.Machine
end

section
/-! SUPPORT. The entry to SEARCH (R12, R13, R20, R23) and the last byte of a telegram (R14, R17, R23). -/

namespace Sys2Proof.Machine

variable {s t u : State} {f : Frame}

/-! ### The entry to SEARCH (R12, R23) -/

/-- What an abandoned telegram leaves: of the loop unit the FIFO moves, of the drive table one entry's marks. -/
structure State.Abandoned (s t : State) (x : Sending) : Prop where
  settled : t.settled = s.settled
  loop : t.loop.quieted = s.loop.quieted
  orders : t.orders = s.orders
  notices : t.notices = s.notices
  drive : t.drive = match x with
    | .drive _ d cls since => (s.setEntry d ((s.entry d).abandoned cls since)).drive
    | _ => s.drive

theorem DriveEntry.abandoned_settled (e : DriveEntry) (cls : DriveClass) (since : Nat) : (e.abandoned cls since).settled = e.settled := by
  unfold DriveEntry.abandoned
  repeat' split
  all_goals rfl

theorem State.abandon_abandoned (calm : s.orders.restart ≠ .waiting) (x : Sending) : s.Abandoned (s.abandon x) x := by
  cases x with
  | repeated => exact ⟨rfl, rfl, rfl, rfl, rfl⟩
  | answer => exact ⟨rfl, rfl, rfl, rfl, rfl⟩
  | notice _ c =>
    show s.Abandoned (s.putBackNotice c) _
    unfold State.putBackNotice
    dsimp only
    split
    · exact ⟨rfl, rfl, rfl, rfl, rfl⟩
    · have room := (s.enqueue_frame (.notice c) :)
      refine ⟨(State.setLoop_settled _ _ rfl).trans (State.makeRoom_settled s calm), s.makeRoom_quieted, State.makeRoom_orders s calm, ?_, ?_⟩
      · exact (congrArg State.notices room :)
      · exact (congrArg State.drive room :)
  | drive f d cls since =>
    exact ⟨State.setEntry_settled _ _ _ (DriveEntry.abandoned_settled ..), rfl, rfl, rfl, rfl⟩

/-- The loop unit in SEARCH, less the queues and what is being sent. -/
theorem State.enterSearch_eq (calm : s.orders.restart ≠ .waiting) :
    s.enterSearch =
      match s.loop.out with
      | .sending x => (s.setLoop (s.loop.searching s.ms)).abandon x
      | _ => s.setLoop (s.loop.searching s.ms) := by
  unfold State.enterSearch
  refine State.requestStart_calm _ ?_
  split
  · rw [(State.abandon_abandoned (s := s.setLoop (s.loop.searching s.ms)) calm _).orders]
    exact calm
  · exact calm

/-- The entry to SEARCH of a part that awaits no restart (R12). -/
structure State.Searching (s t : State) : Prop where
  settled : t.settled = (s.setLoop (s.loop.searching s.ms)).settled
  loop : t.loop.quieted = (s.loop.searching s.ms).quieted
  orders : t.orders = s.orders
  notices : t.notices = s.notices
  times : ∀ d, (t.entry d).lastTime = (s.entry d).lastTime
  dirty : ∀ d, (s.entry d).dirty.isSome → (t.entry d).dirty.isSome
  abandoned : ∀ f d cls since, s.loop.out = .sending (.drive f d cls since) → (s.entry d).dirty = none →
    (t.entry d).dirty = some { cls := cls, since := since }

theorem DriveEntry.abandoned_lastTime (e : DriveEntry) (cls : DriveClass) (since : Nat) : (e.abandoned cls since).lastTime = e.lastTime := by
  unfold DriveEntry.abandoned
  repeat' split
  all_goals rfl

theorem DriveEntry.abandoned_dirty (e : DriveEntry) (cls : DriveClass) (since : Nat) : (e.abandoned cls since).dirty.isSome := by
  unfold DriveEntry.abandoned
  split
  · rfl
  · split
    · rfl
    · rename_i w dirty _
      rw [dirty]
      rfl

theorem DriveEntry.abandoned_clean {e : DriveEntry} (clean : e.dirty = none) (cls : DriveClass) (since : Nat) :
    (e.abandoned cls since).dirty = some { cls := cls, since := since } := by
  unfold DriveEntry.abandoned
  rw [clean]

theorem State.enterSearch_searching (calm : s.orders.restart ≠ .waiting) : s.Searching s.enterSearch := by
  rw [State.enterSearch_eq calm]
  cases out : s.loop.out with
  | free => exact ⟨rfl, rfl, rfl, rfl, fun _ => rfl, fun _ => id, fun _ _ _ _ e => by rw [out] at e; cases e⟩
  | gap => exact ⟨rfl, rfl, rfl, rfl, fun _ => rfl, fun _ => id, fun _ _ _ _ e => by rw [out] at e; cases e⟩
  | sending x =>
    obtain ⟨settled, loop, orders, notices, drive⟩ := State.abandon_abandoned (s := s.setLoop (s.loop.searching s.ms)) calm x
    dsimp only
    generalize (s.setLoop (s.loop.searching s.ms)).abandon x = t at settled loop orders notices drive
    cases x with
    | drive f d cls since =>
      have entry : ∀ d', t.entry d' = if d' = d then (s.entry d).abandoned cls since else s.entry d' := fun d' => by
        rw [State.entry, drive]
        exact State.setEntry_entry ..
      refine ⟨settled, loop, orders, notices, fun d' => ?_, fun d' dirty => ?_, fun f' d' cls' since' sends clean => ?_⟩
      · rw [entry]
        split
        · rename_i one; rw [one, DriveEntry.abandoned_lastTime]
        · rfl
      · rw [entry]
        split
        · exact DriveEntry.abandoned_dirty ..
        · exact dirty
      · rw [out] at sends
        cases sends
        rw [entry, if_pos rfl, DriveEntry.abandoned_clean clean]
    | _ =>
      have entry : ∀ d', t.entry d' = s.entry d' := fun d' => by rw [State.entry, drive]; rfl
      exact ⟨settled, loop, orders, notices, fun d' => by rw [entry], fun d' => by rw [entry]; exact id,
        fun _ _ _ _ sends => by rw [out] at sends; cases sends⟩

theorem LoopUnit.searching_silent (l : LoopUnit) (ms : Nat) (x : Sending) : (l.searching ms).out ≠ .sending x := by
  show (match l.out with | .sending _ => LoopOut.free | o => o) ≠ .sending x
  split
  · nofun
  · rename_i other
    exact other x

/-- An event whose effect enters SEARCH and raises LOOP (R12, R13, R20). -/
theorem searchEntered {c : Instr} {dt : Nat} {f : State → State} {code : Code} (awake : s.Awake) (row : exec c s = event dt f s)
    (made : f (s.elapse dt) = u.enterSearch.raise .loop .none (some code)) (calm : u.orders.restart = .clear) :
    ∃ t, exec c s = .next t ∧ u.SearchEntered t code := by
  have quiet : u.orders.restart ≠ .waiting := by rw [calm]; nofun
  obtain ⟨settled, loop, orders, notices, times, dirty, abandoned⟩ := State.enterSearch_searching quiet
  have quiet' : u.enterSearch.orders.restart ≠ .waiting := by rw [orders]; exact quiet
  obtain ⟨t, ran, settles, chose⟩ := event_chose awake row made (by rw [State.raise_orders _ _ _ _ quiet', orders, calm]; nofun)
  have quieted := (State.raise_quieted u.enterSearch .loop .none (some code)).trans loop
  obtain ⟨repeats, transit, -, state, -⟩ := LoopUnit.quieted_fields quieted
  obtain ⟨rests, drive⟩ := chose.rests (.inl (by rw [state]; nofun))
  have entry : ∀ d, t.entry d = u.enterSearch.entry d := fun d => by rw [State.entry, drive, State.raise_drive]; rfl
  refine ⟨t, ran, settles.trans_times ?_ fun d => ?_, by rw [rests, repeats]; rfl, by rw [rests, transit]; rfl, fun x => ?_,
    fun d was => by rw [entry]; exact dirty d was, fun f d cls since sends clean => by rw [entry]; exact abandoned f d cls since sends clean⟩
  · rw [State.raise_settled _ _ _ _ quiet', notices]
    exact congrArg (fun t : State => { t with notices := u.notices.raised .loop .none (some code) }) settled
  · rw [State.raise_entry]
    exact times d
  · rw [rests, (LoopUnit.quieted_out quieted).1]
    exact LoopUnit.searching_silent _ _ x

/-! ### Entries lost by their deadlines (R20) -/

theorem due_eq_any (timer : Option Nat) (ms : Nat) : due timer ms = timer.any fun d => decide (d ≤ ms) := by cases timer <;> rfl

/-- The entries lost are those at the head of the list whose deadlines have passed, until the count stands at 3. -/
theorem expireTransit_eq (ms : Nat) (l : List Transit) (losses : Nat) :
    expireTransit ms l losses =
      let m := min (l.takeWhile fun e => e.deadline.any fun d => decide (d ≤ ms)).length (3 - losses)
      (l.drop m, losses + m, m) := by
  induction l generalizing losses with
  | nil => rfl
  | cons e l ih =>
    unfold expireTransit
    rw [due_eq_any]
    cases passed : e.deadline.any fun d => decide (d ≤ ms) with
    | false => simp [passed]
    | true =>
      by_cases few : losses < 3
      · rw [if_pos ⟨few, rfl⟩, ih]
        simp only [List.takeWhile_cons, passed, if_true, List.length_cons]
        rw [show min ((l.takeWhile fun e => e.deadline.any fun d => decide (d ≤ ms)).length + 1) (3 - losses) =
          min (l.takeWhile fun e => e.deadline.any fun d => decide (d ≤ ms)).length (3 - (losses + 1)) + 1 by omega]
        simp only [List.drop_succ_cons, Prod.mk.injEq, true_and, and_true]
        omega
      · rw [if_neg fun h => few h.1, show 3 - losses = 0 by omega, Nat.min_zero]
        rfl

/-- Settles O8: the guard, then the deadlines below the third loss and with it. -/
theorem silenceEntersSearch : Obligations.SilenceEntersSearch := by
  refine ⟨fun s dt d awake locked guard reached => ?_, fun s dt awake locked few => ?_⟩
  · refine searchEntered (f := State.guardExpiry) awake rfl (if_pos ⟨locked, ?_⟩) awake.2
    show due s.loop.guard (s.elapse dt).ms = true
    rw [guard]
    exact decide_eq_true reached
  intro k
  have expired := expireTransit_eq (s.elapse dt).ms s.loop.transit s.loop.losses
  dsimp only at expired
  have made : (s.elapse dt).returnExpiry =
      let r := expireTransit (s.elapse dt).ms s.loop.transit s.loop.losses
      let s1 := (s.elapse dt).setLoop
        { s.loop with
          transit := r.1, losses := r.2.1, counters := { s.loop.counters with lost := bumpBy s.loop.counters.lost r.2.2 } }
      if 3 ≤ r.2.1 ∧ s.loop.state ≠ .search then s1.enterSearch.raise .loop .none (some .loss) else s1 := by
    unfold State.returnExpiry
    dsimp only
    rw [State.countLoop_counts _ _ (by rw [State.setLoop_loop]; exact locked)]
    rfl
  refine ⟨fun below => ?_, fun third => ?_⟩
  · rw [show min _ (3 - s.loop.losses) = k from Nat.min_eq_left (show k ≤ _ by omega)] at expired
    rw [expired] at made
    replace made := made.trans (if_neg fun third => absurd third.1 (by show ¬ 3 ≤ s.loop.losses + k; omega))
    obtain ⟨t, ran, settles, chose⟩ := event_chose (c := .returnDeadlineExpiry dt) (f := State.returnExpiry) awake rfl made (ne_of_eq_of_ne awake.2 nofun)
    exact ⟨t, ran, settles.trans_same (State.setLoop_settled
      ((s.elapse dt).setLoop
        { s.loop with
          losses := s.loop.losses + k, counters := { s.loop.counters with lost := min (s.loop.counters.lost + k) 65535 } }) _ rfl) rfl,
      chose.transit⟩
  · rw [show min _ (3 - s.loop.losses) = 3 - s.loop.losses from Nat.min_eq_right (show _ ≤ k by omega),
      show s.loop.losses + (3 - s.loop.losses) = 3 by omega] at expired
    rw [expired] at made
    replace made := made.trans (if_pos ⟨Nat.le_refl 3, locked⟩)
    obtain ⟨t, ran, entered⟩ := searchEntered (c := .returnDeadlineExpiry dt) (f := State.returnExpiry) awake rfl made awake.2
    exact ⟨t, ran, { entered with kept := entered.kept.trans_same rfl rfl }⟩

end Sys2Proof.Machine
end

section
/-! SUPPORT. The last byte of a telegram (R14, R17, R23, R41), and the arbiter's order of choice with the bytes of what it starts
(R2, R22, R39, R191). -/

namespace Sys2Proof.Machine

variable {s t u : State} {f : Frame}

/-! ### The last byte (R14, R17, R23) -/

theorem State.setEntry_retained {d : DriveId} {e : DriveEntry} (same : e.settled = (s.entry d).settled) :
    (s.setEntry d e).retained = s.retained := by
  rw [← State.settled_retained, State.setEntry_settled _ _ _ same, State.settled_retained]

theorem State.sendingDone_drive (s : State) (f : Frame) (d : DriveId) (cls : DriveClass) (since : Nat) :
    s.sendingDone (.drive f d cls since) = s.setEntry d { s.entry d with lastTime := some s.ms } := rfl

theorem State.sendingDone_other (calm : s.orders.restart ≠ .waiting) {x : Sending} (other : ∀ f d cls since, x ≠ .drive f d cls since) :
    s.sendingDone x = s := by
  unfold State.sendingDone
  split
  · rfl
  · rfl
  · split
    · exact State.requestStart_calm s calm
    · rfl
  · exact absurd rfl (other _ _ _ _)

/-- The end of a sending moves the drive table's marks alone. -/
theorem State.sendingDone_frame (calm : s.orders.restart ≠ .waiting) (x : Sending) :
    (s.sendingDone x).loop = s.loop ∧ (s.sendingDone x).orders = s.orders ∧ (s.sendingDone x).retained = s.retained ∧
      { s.sendingDone x with drive := s.drive } = s := by
  by_cases drive : ∃ f d cls since, x = .drive f d cls since
  · obtain ⟨f, d, cls, since, rfl⟩ := drive
    exact ⟨rfl, rfl, State.setEntry_retained rfl, rfl⟩
  · simp only [not_exists] at drive
    rw [State.sendingDone_other calm drive]
    exact ⟨rfl, rfl, rfl, rfl⟩

/-- The loop unit after a last byte and the move a LEAVE may await (R14, R17, R23). -/
def LoopUnit.sent (l : LoopUnit) (ms : Nat) : LoopUnit :=
  if l.leaveAwaiting then { l.lastByte ms with state := .listen, bypass := true, repeats := [], leaveAwaiting := false }
  else l.lastByte ms

theorem State.lastByteSent_eq (calm : s.orders.restart ≠ .waiting) {x : Sending} (sends : s.loop.out = .sending x) :
    s.lastByteSent = ((s.setLoop (s.loop.lastByte s.ms)).sendingDone x).setLoop (s.loop.sent s.ms) := by
  obtain ⟨loop, orders, -, -⟩ := State.sendingDone_frame (s := s.setLoop (s.loop.lastByte s.ms)) calm x
  unfold State.lastByteSent LoopUnit.sent
  rw [sends]
  dsimp only
  rw [loop]
  show (if s.loop.leaveAwaiting = true then _ else _) = _
  split
  · rw [State.moveToListen_calm (by rw [orders]; exact calm), loop]
    rfl
  · have same := congrArg (State.setLoop ((s.setLoop (s.loop.lastByte s.ms)).sendingDone x)) loop
    exact same

theorem LoopUnit.sent_eq (l : LoopUnit) (ms : Nat) :
    l.sent ms =
      let l' :=
        { l with
          out := .gap, transit := l.transit.map fun e => { e with deadline := some (e.deadline.getD (ms + l.returnLimit)) } }
      if l.leaveAwaiting then { l' with state := .listen, bypass := true, repeats := [], leaveAwaiting := false } else l' := by
  have deadlines : (fun e : Transit => e.sent (ms + l.returnLimit)) =
      fun e => { e with deadline := some (e.deadline.getD (ms + l.returnLimit)) } := funext fun e => by
    obtain ⟨frame, deadline⟩ := e
    cases deadline <;> rfl
  unfold LoopUnit.sent LoopUnit.lastByte
  rw [deadlines]

/-- Settles O10: the loop unit, the drive entry of a DRIVE, and nothing else. -/
theorem lastByteEndsSending : Obligations.LastByteEndsSending := by
  intro s dt x awake sends
  have quiet : (s.elapse dt).orders.restart ≠ .waiting := ne_of_eq_of_ne awake.2 nofun
  have made : (s.elapse dt).lastByteSent =
      (((s.elapse dt).setLoop (s.loop.lastByte (s.elapse dt).ms)).sendingDone x).setLoop (s.loop.sent (s.elapse dt).ms) :=
    State.lastByteSent_eq (s := s.elapse dt) quiet sends
  obtain ⟨loop, orders, retained, frame⟩ :=
    State.sendingDone_frame (s := (s.elapse dt).setLoop (s.loop.lastByte (s.elapse dt).ms)) quiet x
  generalize done : ((s.elapse dt).setLoop (s.loop.lastByte (s.elapse dt).ms)).sendingDone x = v at made loop orders retained frame
  have out : (s.loop.sent (s.elapse dt).ms).out ≠ .free := by
    unfold LoopUnit.sent
    split <;> exact LoopOut.noConfusion
  have same : (v.setLoop (s.loop.sent (s.elapse dt).ms)).conclude (s.elapse dt) = v.setLoop (s.loop.sent (s.elapse dt).ms) := by
    refine State.conclude_rests ?_ ?_ (congrArg State.checkSum frame :) (.inr (.inr out))
    · show v.orders.restart ≠ _
      rw [orders]
      exact ne_of_eq_of_ne awake.2 nofun
    · refine Eq.trans ?_ (retained.trans (State.setLoop_retained rfl rfl rfl))
      refine State.setLoop_retained ?_ ?_ ?_
      all_goals
        rw [loop, State.setLoop_loop]
        unfold LoopUnit.sent
        split <;> rfl
  refine ⟨v.setLoop (s.loop.sent (s.elapse dt).ms), ?_, (LoopUnit.sent_eq _ _), fun f d cls since drive => ?_, fun other => ?_, ?_⟩
  · show event dt State.lastByteSent s = _
    rw [event_awake dt _ s awake.1]
    exact congrArg _ ((congrArg (·.conclude (s.elapse dt)) made).trans same)
  · subst drive
    rw [← done]
    rfl
  · rw [← done, State.sendingDone_other (s := (s.elapse dt).setLoop (s.loop.lastByte (s.elapse dt).ms)) quiet other]
    rfl
  · exact congrArg (fun t : State => { t with loop := s.loop }) frame

end Sys2Proof.Machine
end

section
/-! SUPPORT. The arbiter's order of choice (R22), and the bytes of a DRIVE, of a NOTICE and of any telegram (R2, R39, R191). -/

namespace Sys2Proof.Machine

variable {s t u : State} {f : Frame} {cls : DriveClass}

/-! ### The earliest entry of a class (R22) -/

/-- An entry dirtied at a moment goes before another of its class, or is it (R22). -/
def goesBefore (y x : DriveId × Nat) : Prop := y.2 < x.2 ∨ (y.2 = x.2 ∧ driveIndex y.1 ≤ driveIndex x.1)

theorem goesBefore_refl (x : DriveId × Nat) : goesBefore x x := .inr ⟨rfl, le_refl _⟩

theorem goesBefore_trans {x y z : DriveId × Nat} (a : goesBefore x y) (b : goesBefore y z) : goesBefore x z := by
  unfold goesBefore at *
  omega

theorem goesBefore_antisymm {x y : DriveId × Nat} (a : goesBefore x y) (b : goesBefore y x) : x = y := by
  unfold goesBefore at a b
  exact Prod.ext (driveIndex_inj (by omega)) (by omega)

/-- One entry looked at, the best of those before it in hand (R22). -/
def earlier (avail : DriveId → Option Nat) (best : Option (DriveId × Nat)) (d : DriveId) : Option (DriveId × Nat) :=
  match avail d, best with
  | none, _ => best
  | some t, none => some (d, t)
  | some t, some (_, u) => if t < u then some (d, t) else best

theorem State.firstDirty_eq (s : State) (cls : DriveClass) :
    s.firstDirty cls = driveIds.foldl (earlier fun d => (s.entry d).available cls) none := rfl

/-- What one entry leaves in hand goes before what was in hand and, when it is available, before it. -/
theorem earlier_goesBefore {avail : DriveId → Option Nat} {best : Option (DriveId × Nat)} {d : DriveId}
    (later : ∀ x, best = some x → driveIndex x.1 < driveIndex d) :
    (∀ x, best = some x → ∃ y, earlier avail best d = some y ∧ goesBefore y x) ∧
      (∀ t, avail d = some t → ∃ y, earlier avail best d = some y ∧ goesBefore y (d, t)) ∧
      ∀ y, earlier avail best d = some y → driveIndex y.1 ≤ driveIndex d := by
  unfold earlier
  split
  · rename_i none
    exact ⟨fun x has => ⟨x, has, goesBefore_refl x⟩, (fun t has => by rw [none] at has; cases has), fun y has => le_of_lt (later y has)⟩
  · rename_i t found
    exact ⟨nofun, (fun t' has => by rw [found] at has; cases has; exact ⟨_, rfl, goesBefore_refl _⟩), fun y has => by cases has; exact le_refl _⟩
  · rename_i t d' u found
    have before := later (d', u) rfl
    by_cases sooner : t < u
    · rw [if_pos sooner]
      exact ⟨fun x has => by cases has; exact ⟨_, rfl, .inl sooner⟩,
        (fun t' has => by rw [found] at has; cases has; exact ⟨_, rfl, goesBefore_refl _⟩),
        fun y has => by cases has; exact le_refl _⟩
    · rw [if_neg sooner]
      refine ⟨fun x has => ⟨x, has, goesBefore_refl x⟩, fun t' has => ?_, fun y has => le_of_lt (later y has)⟩
      rw [found] at has
      cases has
      refine ⟨(d', u), rfl, ?_⟩
      unfold goesBefore
      simp only at before ⊢
      omega

/-- Of entries looked at in index order the one left in hand goes before all that were available. -/
theorem earlier_foldl {avail : DriveId → Option Nat} (l : List DriveId) (best : Option (DriveId × Nat))
    (sorted : l.Pairwise fun d d' => driveIndex d < driveIndex d') (later : ∀ x, best = some x → ∀ d ∈ l, driveIndex x.1 < driveIndex d) :
    (∀ x, best = some x → ∃ y, l.foldl (earlier avail) best = some y ∧ goesBefore y x) ∧
      ∀ d ∈ l, ∀ t, avail d = some t → ∃ y, l.foldl (earlier avail) best = some y ∧ goesBefore y (d, t) := by
  induction l generalizing best with
  | nil => exact ⟨fun x has => ⟨x, has, goesBefore_refl x⟩, nofun⟩
  | cons d l ih =>
    obtain ⟨first, sorted⟩ := List.pairwise_cons.mp sorted
    obtain ⟨held, taken, place⟩ := earlier_goesBefore (avail := avail) (d := d) fun x has => later x has d List.mem_cons_self
    obtain ⟨ihheld, ihtaken⟩ := ih (earlier avail best d) sorted fun x has d' listed => lt_of_le_of_lt (place x has) (first d' listed)
    have through : ∀ x, (∃ y, earlier avail best d = some y ∧ goesBefore y x) →
        ∃ y, (d :: l).foldl (earlier avail) best = some y ∧ goesBefore y x := fun x ⟨y, has, before⟩ => by
      obtain ⟨z, kept, first⟩ := ihheld y has
      exact ⟨z, kept, goesBefore_trans first before⟩
    refine ⟨fun x has => through x (held x has), fun d' listed t has => ?_⟩
    obtain rfl | listed := List.mem_cons.mp listed
    · exact through _ (taken t has)
    · exact ihtaken d' listed t has

theorem DriveEntry.available_iff (e : DriveEntry) (cls : DriveClass) (since : Nat) :
    e.available cls = some since ↔ e.station ≠ 0 ∧ e.dirty = some { cls := cls, since := since } := by
  unfold DriveEntry.available
  by_cases unmapped : e.station = 0
  · rw [if_pos unmapped]
    exact ⟨nofun, fun ⟨mapped, _⟩ => absurd unmapped mapped⟩
  · rw [if_neg unmapped]
    obtain _ | ⟨cls', since'⟩ := e.dirty
    · simp
    · by_cases same : cls' = cls
      · subst same
        simpa using fun _ => unmapped
      · simp [same]

theorem driveIds_sorted : driveIds.Pairwise fun d d' => driveIndex d < driveIndex d' := by decide

/-- The first of the waiting entries is the first of its class (R22). -/
theorem State.firstDirty_of_first {d : DriveId} {since : Nat} (first : s.FirstWaiting d cls since) :
    s.firstDirty cls = some (d, since) := by
  obtain ⟨waits, before⟩ := first
  rw [State.firstDirty_eq]
  obtain ⟨⟨d', since'⟩, found, goes⟩ := (earlier_foldl (avail := fun d => (s.entry d).available cls) driveIds none driveIds_sorted nofun).2 d
    (List.mem_of_getElem? (driveIds_at d)) since ((DriveEntry.available_iff _ _ _).mpr waits)
  have other := s.firstDirty_waits cls d' since' found
  have back : goesBefore (d, since) (d', since') := by
    obtain lower | ⟨-, sooner | ⟨same, index⟩⟩ := before d' cls since' other
    · exact absurd lower (lt_irrefl _)
    · exact .inl sooner
    · exact .inr ⟨same, index⟩
  rw [found, goesBefore_antisymm goes back]

theorem State.firstDirty_none (idle : ∀ d since, ¬ s.DriveWaits d cls since) : s.firstDirty cls = none := by
  cases found : s.firstDirty cls with
  | none => rfl
  | some x => exact absurd (s.firstDirty_waits cls x.1 x.2 found) (idle _ _)

/-- No entry waits under a class of lower place than the first's. -/
theorem State.FirstWaiting.lower_idle {d : DriveId} {since : Nat} (first : s.FirstWaiting d cls since) {cls' : DriveClass}
    (lower : cls'.rank < cls.rank) : s.firstDirty cls' = none :=
  State.firstDirty_none fun d' since' waits => by
    have := first.2 d' cls' since' waits
    unfold driveBefore at this
    omega

theorem State.startOriginated_drive {d : DriveId} {since : Nat} (first : s.FirstWaiting d cls since)
    (goes : cls.rank ≤ 1 ∨ s.loop.fifo = []) : s.startOriginated = s.startDrive d cls since := by
  have found := State.firstDirty_of_first first
  have lower := fun cls' => first.lower_idle (cls' := cls')
  unfold State.startOriginated State.startLate
  cases cls with
  | safety => rw [found]
  | change => rw [lower .safety (by decide), found]
  | feed => rw [lower .safety (by decide), lower .change (by decide), goes.resolve_left (by decide), found]
  | lights => rw [lower .safety (by decide), lower .change (by decide), goes.resolve_left (by decide), lower .feed (by decide), found]
  | refresh =>
    rw [lower .safety (by decide), lower .change (by decide), goes.resolve_left (by decide), lower .feed (by decide),
      lower .lights (by decide), found]

theorem State.startOriginated_waiting {w : Waiting} {rest : List Waiting} (idle : ∀ d cls since, s.DriveWaits d cls since → 1 < cls.rank)
    (fifo : s.loop.fifo = w :: rest) : s.startOriginated = s.startWaiting w rest := by
  have none : ∀ cls : DriveClass, cls.rank ≤ 1 → s.firstDirty cls = none := fun cls low =>
    State.firstDirty_none fun d since waits => absurd (idle d cls since waits) (by omega)
  unfold State.startOriginated
  rw [none .safety (by decide), none .change (by decide), fifo]

theorem State.startOriginated_idle (idle : ∀ d cls since, ¬ s.DriveWaits d cls since) (empty : s.loop.fifo = []) :
    s.startOriginated = s := by
  have none : ∀ cls : DriveClass, s.firstDirty cls = none := fun cls => State.firstDirty_none fun d since => idle d cls since
  unfold State.startOriginated State.startLate
  rw [none .safety, none .change, empty, none .feed, none .lights, none .refresh]

/-! ### The choice (R22) -/

theorem State.arbitrate_repeat {rest : List Frame} (free : s.loop.state = .held ∧ s.loop.leaveAwaiting = false ∧ s.loop.out = .free)
    (waiting : s.loop.repeats = f :: rest) :
    s.arbitrate = s.setLoop { s.loop with repeats := rest, out := .sending (.repeated f) } := by
  unfold State.arbitrate State.choose
  rw [if_pos free, waiting]

theorem State.arbitrate_full (empty : s.loop.repeats = []) (full : 4 ≤ s.loop.transit.length) : s.arbitrate = s := by
  unfold State.arbitrate State.choose
  rw [empty]
  dsimp only
  rw [if_neg (show ¬ s.loop.transit.length < 4 by omega), ite_self]

theorem State.arbitrate_originates (free : s.loop.state = .held ∧ s.loop.leaveAwaiting = false ∧ s.loop.out = .free)
    (empty : s.loop.repeats = []) (room : s.loop.transit.length < 4) : s.arbitrate = s.startOriginated := by
  unfold State.arbitrate State.choose
  rw [if_pos free, empty]
  exact if_pos room

/-! ### The bytes of a NOTICE and the check of a telegram (R2, R191) -/

theorem Frame.make_sum (dst src kind : Byte) (p : List Byte) (short : p.length ≤ 12) :
    (dst.toNat + src.toNat + kind.toNat + p.length + (p.map BitVec.toNat).sum + (Frame.make dst src kind p).check.toNat) % 256 = 0 :=
  (Frame.checkOk_iff (Frame.make dst src kind p) short).mp (Frame.make_checkOk ..)

/-- Settles O11: the gap's end outside the arbiter's reach, then its choice in order, then the bytes. -/
theorem arbiterOrder : Obligations.ArbiterOrder := by
  refine ⟨fun s dt awake gap => ⟨fun rests => ?_, fun held leave => ?_⟩, fun h => by cases h <;> exact ⟨rfl, rfl, rfl, rfl⟩,
    fun k => by cases k <;> exact ⟨rfl, rfl⟩, ⟨fun _ => rfl, fun _ => rfl, fun _ => rfl, fun _ => rfl, rfl, fun _ => rfl, fun _ => rfl⟩,
    fun c => ?_, fun dst src kind p short => ⟨rfl, rfl, rfl, rfl, Frame.make_sum dst src kind p short⟩⟩
  · have made : (s.elapse dt).outFree = (s.elapse dt).setLoop { s.loop with out := .free } := by
      unfold State.outFree
      rw [State.elapse_loop, gap]
    exact event_rests (f := State.outFree) awake rfl made rfl rfl rfl (rests.imp_right .inl)
  · generalize freed : (s.elapse dt).setLoop { s.loop with out := .free } = u
    have made : (s.elapse dt).outFree = u := by
      unfold State.outFree
      rw [State.elapse_loop, gap, ← freed]
    have calm : u.orders.restart ≠ .requested := by rw [← freed]; exact ne_of_eq_of_ne awake.2 nofun
    have ended : u.conclude (s.elapse dt) = u.arbitrate := by
      have sealed : u.sealFrom (s.elapse dt) = u := by
        unfold State.sealFrom
        rw [if_pos (by rw [← freed]; exact State.setLoop_retained rfl rfl rfl), ← freed]
        rfl
      unfold State.conclude
      dsimp only
      rw [sealed, if_neg calm]
    have free : u.loop.state = .held ∧ u.loop.leaveAwaiting = false ∧ u.loop.out = .free := by rw [← freed]; exact ⟨held, leave, rfl⟩
    have repeats : u.loop.repeats = s.loop.repeats := by rw [← freed]; rfl
    have transit : u.loop.transit = s.loop.transit := by rw [← freed]; rfl
    have fifo : u.loop.fifo = s.loop.fifo := by rw [← freed]; rfl
    have entry : ∀ d, u.entry d = s.entry d := fun d => by rw [← freed]; rfl
    have own : u.orders.own = s.orders.own := by rw [← freed]; rfl
    have console : u.loop.console = s.loop.console := by rw [← freed]; rfl
    have waits : ∀ d cls since, u.DriveWaits d cls since ↔ s.DriveWaits d cls since := fun d cls since => by
      unfold State.DriveWaits
      rw [entry]
    refine ⟨u.arbitrate, ?_, ?_, fun f rest waiting => ?_, fun empty full => ?_, fun empty room => ⟨fun d cls since first goes => ?_,
      fun idle => ⟨fun dst p named rest head => ?_, fun c rest head => ?_⟩, fun idle none => ?_⟩⟩
    · show event dt State.outFree s = _
      rw [event_awake dt _ s awake.1, made, ended]
    · refine u.arbitrate_settles.trans_same ?_ (by rw [← freed]; rfl)
      rw [← freed]
      exact State.setLoop_settled (s.elapse dt) _ rfl
    · rw [State.arbitrate_repeat free (repeats.trans waiting)]
      exact ⟨rfl, rfl, transit⟩
    · rw [State.arbitrate_full (repeats.trans empty) (by rw [transit]; exact full)]
      exact free.2.2
    · have first' : u.FirstWaiting d cls since :=
        ⟨(waits ..).mpr first.1, fun d' cls' since' other => first.2 d' cls' since' ((waits ..).mp other)⟩
      rw [State.arbitrate_originates free (repeats.trans empty) (by rw [transit]; exact room),
        State.startOriginated_drive first' (goes.imp_right fifo.trans)]
      have frame : u.driveFrame d = Frame.make (s.entry d).station s.orders.own 0x30 ((s.entry d).fn :: (s.entry d).value.bytes) := by
        unfold State.driveFrame
        rw [entry, own]
        rfl
      have started : (u.startDrive d cls since).entry d = { s.entry d with dirty := none, lastValue := some (s.entry d).value, lastTime := none } := by
        rw [← entry]
        exact State.setEntry_entry_same u d _
      rw [started, ← frame, ← transit]
      exact ⟨rfl, rfl, rfl, rfl, rfl⟩
    · rw [State.arbitrate_originates free (repeats.trans empty) (by rw [transit]; exact room),
        State.startOriginated_waiting (fun d cls since other => idle d cls since ((waits ..).mp other)) (fifo.trans head), ← own]
      exact ⟨rfl, rfl⟩
    · rw [State.arbitrate_originates free (repeats.trans empty) (by rw [transit]; exact room),
        State.startOriginated_waiting (fun d cls since other => idle d cls since ((waits ..).mp other)) (fifo.trans head), ← own, ← console]
      exact ⟨rfl, rfl⟩
    · rw [State.arbitrate_originates free (repeats.trans empty) (by rw [transit]; exact room),
        State.startOriginated_idle (fun d cls since other => idle d cls since ((waits ..).mp other)) (fifo.trans none)]
      exact free.2.2
  · obtain ⟨pending, event, cause, code, count⟩ := c
    refine ⟨by cases event <;> rfl, fun _ => ?_⟩
    cases event <;> cases cause <;> cases code <;> rfl

end Sys2Proof.Machine
end

section
/-! SUPPORT. The order READ (R184): a page of a section answered or refused, and the bytes of the pages (R191, section 10.7). -/

namespace Sys2Proof.Machine

variable {s t : State} {k : House} {h : Head}

/-! ### A page answered or refused (R184) -/

theorem pageReply_refused {sec page : Byte} {pages : Option (List (List Byte))}
    (outside : pages = none ∨ page.toNat = 0 ∨ ∃ ps, pages = some ps ∧ ps.length < page.toNat) :
    pageReply sec page pages = Reply.plain .badIndex := by
  have none : (if page.toNat = 0 then none else pages.bind fun ps => ps[page.toNat - 1]?) = none := by
    split
    · rfl
    · rename_i positive
      obtain rfl | zero | ⟨ps, rfl, beyond⟩ := outside
      · rfl
      · exact absurd zero positive
      · exact List.getElem?_eq_none (by omega)
  unfold pageReply
  rw [none]

theorem pageReply_answers {sec page : Byte} {pages : Option (List (List Byte))} {ps : List (List Byte)} {bs : List Byte}
    (given : pages = some ps) (positive : 1 ≤ page.toNat) (found : ps[page.toNat - 1]? = some bs) :
    pageReply sec page pages = { result := .done, data := [sec, page] ++ bs } := by
  have content : (if page.toNat = 0 then none else pages.bind fun ps => ps[page.toNat - 1]?) = some bs := by
    rw [if_neg (by omega), given]
    exact found
  unfold pageReply
  rw [content]

/-- A READ whose judgement is a page, with what an accepted one leaves. -/
theorem read_answers {c : Instr} {dt : Nat} {src sec a b page : Byte} {run : State → State × Reply} {pages : Option (List (List Byte))}
    {after : State} (listens : s.Listens src) (row : exec c s = judgedOrder dt src (.read sec a b page) run s)
    (judged : run (s.heard dt) =
      (if (pageReply sec page pages).result = .done then after else s.heard dt, pageReply sec page pages))
    (calm : after.orders.restart = .clear) :
    ((pages = none ∨ page.toNat = 0 ∨ ∃ ps, pages = some ps ∧ ps.length < page.toNat) →
        s.Performs c src 0x01 .badIndex [] (s.heard dt)) ∧
      (∀ ps bs, pages = some ps → 1 ≤ page.toNat → ps[page.toNat - 1]? = some bs →
        s.Performs c src 0x01 .done ([sec, page] ++ bs) after) := by
  have short : (encodeOrder (.read sec a b page)).length ≤ 12 := by simp [encodeOrder, Order.params]
  refine ⟨fun outside => performs_of_judged (.read sec a b page) listens row short ?_ listens.calm,
    fun ps bs given positive found => performs_of_judged (.read sec a b page) listens row short ?_ calm⟩
  · rw [judged, pageReply_refused outside]
    rfl
  · rw [judged, pageReply_answers given positive found]
    rfl

/-- The same of a section that leaves the part as it was. -/
theorem read_answers_same {c : Instr} {dt : Nat} {src sec a b page : Byte} {run : State → State × Reply} {pages : Option (List (List Byte))}
    (listens : s.Listens src) (row : exec c s = judgedOrder dt src (.read sec a b page) run s)
    (judged : run (s.heard dt) = (s.heard dt, pageReply sec page pages)) :
    ((pages = none ∨ page.toNat = 0 ∨ ∃ ps, pages = some ps ∧ ps.length < page.toNat) →
        s.Performs c src 0x01 .badIndex [] (s.heard dt)) ∧
      (∀ ps bs, pages = some ps → 1 ≤ page.toNat → ps[page.toNat - 1]? = some bs →
        s.Performs c src 0x01 .done ([sec, page] ++ bs) (s.heard dt)) :=
  read_answers listens row (by rw [judged, ite_self]) listens.calm

theorem judgeRead_outside {sec : Byte} (outside : sec.toNat < 1 ∨ 13 < sec.toNat) (a b page : Byte) (s : State) :
    judgeRead sec a b page s = (s, Reply.plain .badIndex) := by
  unfold judgeRead
  split
  case h_14 => rfl
  all_goals omega

/-- A telegram of kind ORDER to the part whose payload decodes to an order (R182). -/
theorem telegram_order {p : List Byte} {o : Order} (decoded : decodeOrder p = o) (dt : Nat) (src : Byte) :
    exec (.telegramComplete dt (Frame.make s.orders.own src 0x20 p)) s = orderEvent dt src p (takeOrder src o) s := by
  subst decoded
  rfl

/-! ### The bytes of the pages (R191, section 10.7) -/

theorem flagBits_four (a b c d : Bool) :
    flagBits [a, b, c, d] =
      BitVec.ofNat 8 ((if a then 1 else 0) + (if b then 2 else 0) + (if c then 4 else 0) + (if d then 8 else 0)) := by
  cases a <;> cases b <;> cases c <;> cases d <;> rfl

theorem count16OrNone_eq (n : Option Nat) : count16OrNone n = twoOrNone n := by cases n <;> rfl

theorem reactionPages_eq (s : State) (i : Fin 32) :
    s.reactionPages i =
      [[flagBits [(s.matcher.table.get i).inUse, (s.matcher.table.get i).consume, (s.matcher.table.get i).protect,
            (s.matcher.table.get i).lockMark], (s.matcher.table.get i).source, (s.matcher.table.get i).kind,
          (s.matcher.table.get i).selValue, (s.matcher.table.get i).selMask] ++ (s.matcher.table.get i).action.bytes ++
          (twoBytes (s.matcher.counts.get i)).take 1,
        (twoBytes (s.matcher.counts.get i)).drop 1] := by
  unfold State.reactionPages
  dsimp only
  cases (s.matcher.table.get i).action <;> rfl

theorem DriveVal.threeBytes_eq (v : DriveVal) :
    v.threeBytes =
      match v with
      | .motor b => [yesNo b, 0, 0]
      | .douser b => [yesNo b, 0, 0]
      | .lamp b => [yesNo b, 0, 0]
      | .feed n => twoBytes n ++ [0]
      | .sound none => [0, 0, 0]
      | .sound (some h) => [BitVec.ofNat 8 h.num, 0, 0]
      | .dim t => [BitVec.ofNat 8 t.ceiling, BitVec.ofNat 8 t.wall, BitVec.ofNat 8 t.aisle] := by
  cases v
  case sound h => cases h <;> rfl
  all_goals rfl

/-- Every record from the first of its house's region on through it is non-empty (R90). -/
theorem Programme.inProgramme_iff (p : Programme) (i : Fin 64) :
    p.inProgramme i.val = true ↔
      ∀ j : Fin 64, p.first (p.owner i.val) ≤ j.val → j.val ≤ i.val → (p.reels.get j).last ≠ 0 := by
  unfold Programme.inProgramme
  simp only [List.all_eq_true, List.mem_range, bne_iff_ne]
  constructor
  · intro joined j low high
    have held := joined (j.val - p.first (p.owner i.val)) (by omega)
    rw [show p.first (p.owner i.val) + (j.val - p.first (p.owner i.val)) = j.val by omega, Programme.record_fin] at held
    exact held
  · intro joined j inside
    have held := joined ⟨p.first (p.owner i.val) + j, by omega⟩ (by simp only; omega) (by simp only; omega)
    rw [← Programme.record_fin] at held
    exact held

theorem reelPages_eq (s : State) (i : Fin 64) :
    s.reelPages i =
      let r := s.programme.reels.get i
      let q := r.light.getD { position := 0, fade := 0 }
      [[flagBits [r.side == .b, r.intervalAfter, r.showEnd, r.light.isSome]] ++ twoBytes r.last ++ twoBytes r.motorCue ++
          twoBytes r.changeCue ++ [BitVec.ofNat 8 r.window],
        [BitVec.ofNat 8 q.position, BitVec.ofNat 8 q.fade, BitVec.ofNat 8 (s.programme.owner i.val).num,
          BitVec.ofNat 8 (s.programme.reelNumber i.val), yesNo (s.recordInUse i.val), yesNo (s.programme.inProgramme i.val)]] := by
  unfold State.reelPages
  dsimp only
  rw [Programme.record_fin]
  rfl

theorem LoopState.byte_eq (x : LoopState) : x.byte = placeIn [.search, .held, .listen] x := by cases x <;> rfl
theorem Rate.byte_eq (x : Rate) : x.byte = placeIn [.r19200, .r9600, .r4800, .r2400] x := by cases x <;> rfl
theorem DriveClass.byte_eq (x : DriveClass) : x.byte = placeIn [.safety, .change, .feed, .lights, .refresh] x := by cases x <;> rfl
theorem Motion.byte_eq (x : Motion) : x.byte = placeIn [.stopped, .runup, .locked, .slow] x := by cases x <;> rfl
theorem LampState.byte_eq (x : LampState) : x.byte = placeIn [.dark, .striking, .burning, .failed] x := by cases x <;> rfl
theorem HouseState.byte_eq (x : HouseState) : x.byte = placeIn [.idle, .armed, .running, .interval, .ended, .halted] x := by
  cases x <;> rfl
theorem Role.byte_eq (x : Role) : x.byte = placeIn [.empty, .threaded, .starting, .showing, .tailing] x := by cases x <;> rfl
theorem Purpose.byte_eq (x : Purpose) : x.byte = placeIn [.start, .incoming, .resume] x := by cases x <;> rfl
theorem LightSource.byte_eq (x : LightSource) : x.byte = placeIn [.fire, .fault, .operator, .shown] x := by cases x <;> rfl
theorem FireState.byte_eq (x : FireState) : x.byte = placeIn [.clear, .alert, .fire] x := by cases x <;> rfl
theorem Condition.byte_eq (x : Condition) : x.byte = placeIn [.normal, .pre, .fire, .fault] x := by cases x <;> rfl

theorem Requests.presentByte_eq (r : Requests) :
    r.presentByte =
      BitVec.ofNat 8 ((if r.fire.isSome then 1 else 0) + (if r.fault.isSome then 2 else 0) + (if r.operator.isSome then 4 else 0) + 8) :=
  flagBits_four r.fire.isSome r.fault.isSome r.operator.isSome true

theorem requestBytes_eq (q : Option LightReq) :
    requestBytes q =
      match q with
      | some q => [BitVec.ofNat 8 q.position, BitVec.ofNat 8 q.fade]
      | none => [0, 0] := by
  cases q <;> rfl

theorem NoticeUnit.causePage_eq (n : NoticeUnit) (e : Event) :
    n.causePage e =
      (match (n.causes.get e.num).cause with
        | .none => [0, 0]
        | .head h => [1, BitVec.ofNat 8 h.num]
        | .house k => [2, BitVec.ofNat 8 k.num]
        | .zone z => [3, BitVec.ofNat 8 z.num]) ++
      [match (n.causes.get e.num).code with
        | some x => BitVec.ofNat 8 (e.codes.idxOf x + 1)
        | none => 0, BitVec.ofNat 8 (min (n.causes.get e.num).count 255)] := by
  unfold NoticeUnit.causePage
  dsimp only
  cases (n.causes.get e.num).cause <;> cases (n.causes.get e.num).code <;> rfl

/-! ### The settings items (R185) -/

theorem settingsPages_head {a b : Byte} (low : 5 ≤ a.toNat) (high : a.toNat ≤ 8) :
    s.settingsPages a b = ((headOf b).bind (s.headItem a.toNat)).map fun v => [be16 v] := by
  unfold State.settingsPages
  dsimp only
  rw [if_pos ⟨low, high⟩]

theorem settingsPages_house {a b : Byte} (low : 9 ≤ a.toNat) (high : a.toNat ≤ 16) :
    s.settingsPages a b = ((houseOf b).bind (s.houseItem a.toNat)).map fun v => [be16 v] := by
  unfold State.settingsPages
  dsimp only
  rw [if_neg (by omega), if_pos ⟨low, high⟩]

theorem settingsPages_outside {a b : Byte} (outside : a = 0 ∨ 24 < a.toNat) : s.settingsPages a b = none := by
  obtain rfl | above := outside
  · rfl
  · have none : s.unitItem a.toNat = none := by
      unfold State.unitItem
      split
      case h_13 => rfl
      all_goals omega
    unfold State.settingsPages
    dsimp only
    rw [if_neg (by omega), if_neg (by omega), none]
    rfl

theorem be16_toNat (b : Bool) : [be16 b.toNat] = [twoBytes (if b then 1 else 0)] := by cases b <;> rfl

theorem counterPages_inside {a : Byte} (inside : a.toNat ≤ 45) :
    s.counterPages a = some [((s.counterList.drop a.toNat).take 3).flatMap be16] := if_pos inside

theorem counterPages_outside {a : Byte} (outside : 45 < a.toNat) : s.counterPages a = none := if_neg (by omega)

/-- Settles O41: each section's reading by one course, then the bytes of its pages. -/
theorem readAnswersPages : Obligations.ReadAnswersPages := by
  refine ⟨fun s dt src a b page listens => ⟨?_, ?_, ?_, ?_, ?_, fun k i named index => ?_, fun outside => ?_, ?_, ?_, ?_, ?_, ?_, ?_, ?_,
    fun sec outside => ?_⟩, fun s i => ?_, fun s d => ⟨fun w dirty => ?_, fun clean => ?_⟩, fun s i => ?_, fun s h => ⟨rfl, fun feed value => ?_, ?_⟩,
    fun s k i => ⟨?_, fun a b ha sa hb sb => ?_, ?_⟩, fun s => ⟨?_, ?_⟩, fun s a b => ?_⟩
  · exact read_answers_same (run := judgeReadReaction a page) listens rfl rfl
  · exact read_answers (run := judgeReadMap a page) listens rfl rfl listens.calm
  · exact read_answers_same (run := judgeReadReel a page) listens rfl rfl
  · exact read_answers_same (run := judgeReadLampRecord a page) listens rfl rfl
  · exact read_answers_same (run := judgeReadLampState a page) listens rfl rfl
  · refine read_answers (run := judgeReadCurve a b page) listens rfl ?_ listens.calm
    unfold judgeReadCurve
    rw [named, toIndex_of_eq i index]
    rfl
  · refine read_answers_same (run := judgeReadCurve a b page) listens rfl ?_
    rw [pageReply_refused (.inl rfl)]
    unfold judgeReadCurve
    obtain unnamed | above := outside
    · rw [unnamed]
    · rw [toIndex_of_le above]
      cases houseOf a <;> rfl
  · exact read_answers_same (run := judgeReadSettings a b page) listens rfl rfl
  · exact read_answers_same (run := judgeReadCounters a page) listens rfl rfl
  · exact read_answers_same (run := judgeReadLoop page) listens rfl rfl
  · exact read_answers_same (run := judgeReadHouse a page) listens rfl rfl
  · exact read_answers_same (run := judgeReadMonitor a page) listens rfl rfl
  · exact read_answers_same (run := judgeReadFire a page) listens rfl rfl
  · exact read_answers_same (run := judgeReadNotices page) listens rfl rfl
  · exact performs_of_taken (run := judgeOrder (.read sec a b page)) listens (telegram_order (decodeOrder_cons ..) dt src) (Nat.le_of_ble_eq_true rfl)
      (judgeRead_outside outside a b page _) listens.calm
  · rw [reactionPages_eq, flagBits_four]
    dsimp only
    cases (s.matcher.table.get i).action <;> rfl
  · show [[_, _] ++ (s.entry d).value.threeBytes ++ [flagByte (s.entry d).dirty.isSome, s.classByte (s.entry d)]] = _
    unfold State.classByte
    rw [DriveVal.threeBytes_eq, dirty]
    dsimp only
    rw [DriveClass.byte_eq]
    rfl
  · refine ⟨s.classByte (s.entry d), ?_⟩
    show [[_, _] ++ (s.entry d).value.threeBytes ++ [flagByte (s.entry d).dirty.isSome, s.classByte (s.entry d)]] = _
    rw [DriveVal.threeBytes_eq, clean]
    rfl
  · refine ⟨s.programme.inProgramme i.val, ?_, ?_⟩
    · rw [Programme.inProgramme_iff]
      cases s.programme.owner i.val <;> rfl
    · rw [reelPages_eq]
      dsimp only
      rw [flagBits_four]
      unfold Programme.reelNumber
      cases s.programme.owner i.val <;> cases (s.programme.reels.get i).side <;> rfl
  · unfold State.lampStatePages
    dsimp only
    rw [LampState.byte_eq, value]
    cases (s.lamp h).strikeTimer <;> cases (s.lamp h).sample <;> rfl
  · unfold State.monitorPages
    dsimp only
    rw [Motion.byte_eq, count16OrNone_eq, count16OrNone_eq]
    cases (s.mon h).interval <;> rfl
  · unfold State.curvePages
    dsimp only
    rw [LightSource.byte_eq, Requests.presentByte_eq, requestBytes_eq, requestBytes_eq, requestBytes_eq]
    rfl
  · have left : a = k.head .a := by rw [← ha, ← sa]; exact (Head.house_head a).symm
    have right : b = k.head .b := by rw [← hb, ← sb]; exact (Head.house_head b).symm
    unfold State.housePages Slot.bytes
    dsimp only
    rw [left, right, HouseState.byte_eq, Role.byte_eq, Role.byte_eq]
    unfold runupBytes byteOrNone
    cases (s.eng k).runup
    case none => rfl
    case some r =>
      dsimp only
      rw [Purpose.byte_eq]
      rfl
  · unfold State.firePages
    dsimp only
    rw [FireState.byte_eq]
    refine congrArg _ (List.map_congr_left fun d _ => ?_)
    unfold Detector.bytes
    rw [Condition.byte_eq, count16OrNone_eq]
    rfl
  · unfold State.loopPages
    dsimp only
    rw [LoopState.byte_eq, Rate.byte_eq]
    rfl
  · unfold State.noticePages
    dsimp only
    rw [count16OrNone_eq]
    exact congrArg₂ (· ++ ·) rfl (List.map_congr_left fun e _ => NoticeUnit.causePage_eq s.notices e)
  · refine ⟨?_, ?_, ?_, ?_, ?_, ?_, ?_, ?_, ?_, ?_, ?_, ?_, fun h named => ⟨?_, ?_, ?_, ?_⟩, fun unnamed low high => ?_,
      fun k named => ⟨?_, ?_, ?_, ?_, ?_, ?_, ?_, ?_⟩, fun unnamed low high => ?_, settingsPages_outside, fun inside => ?_, counterPages_outside⟩
    iterate 9 · rintro rfl; rfl
    · rintro rfl; exact congrArg _ (be16_toNat _)
    · rintro rfl; exact congrArg _ (be16_toNat _)
    · rintro rfl; rfl
    · rintro rfl
      rw [settingsPages_head (by decide) (by decide), named]
      exact congrArg _ (be16_toNat _)
    iterate 3
      · rintro rfl
        rw [settingsPages_head (by decide) (by decide), named]
        rfl
    · rw [settingsPages_head low high, unnamed]
      rfl
    iterate 8
      · rintro rfl
        rw [settingsPages_house (by decide) (by decide), named]
        rfl
    · rw [settingsPages_house low high, unnamed]
      rfl
    · rw [counterPages_inside inside]
      unfold State.counterList
      rw [List.append_assoc, List.append_assoc]
      rfl

end Sys2Proof.Machine
end

section
/-! SUPPORT. The lamps' orders and timers: SHOW STRIKE (R67, R68), the strike, stale and idle timers (R60, R71, R77) and WRITE LAMP (R65). -/

namespace Sys2Proof.Machine

variable {s t u : State} {k : House} {h : Head}

/-! ### A strike request (R67, R68) -/

theorem State.inFire_iff : s.inFire k = true ↔ (s.fireOf k).state = .fire := decide_eq_true_iff

theorem State.raise_calm (calm : s.orders.restart = .clear) (e : Event) (c : Cause) (code : Option Code) :
    (s.raise e c code).orders.restart = .clear := by
  rw [State.raise_orders _ _ _ _ (by rw [calm]; nofun), calm]

theorem State.strikeIgnored_iff :
    s.strikeIgnored h = true ↔
      (s.mon h).inService = false ∨ (s.fireOf h.house).state = .fire ∨ (s.lamp h).state = .striking ∨ (s.lamp h).state = .burning := by
  unfold State.strikeIgnored
  rw [Bool.or_eq_true, Bool.or_eq_true, Bool.or_eq_true, Bool.not_eq_true', State.inFire_iff, beq_iff_eq, beq_iff_eq, or_assoc, or_assoc]

/-- A strike request is taken in service, out of FIRE, by a lamp that is not lit (R67). -/
theorem State.strikeIgnored_taken (service : (s.mon h).inService = true) (calm : (s.fireOf h.house).state ≠ .fire)
    (unlit : (s.lamp h).state = .dark ∨ (s.lamp h).state = .failed) : s.strikeIgnored h = false := by
  refine Bool.eq_false_iff.mpr fun ignored => ?_
  obtain out | fire | striking | burning := State.strikeIgnored_iff.mp ignored
  · rw [service] at out; cases out
  · exact calm fire
  · obtain e | e := unlit <;> rw [striking] at e <;> cases e
  · obtain e | e := unlit <;> rw [burning] at e <;> cases e

theorem State.strikeRequest_ignored (ignored : s.strikeIgnored h = true) : s.strikeRequest h = s := if_pos ignored

theorem State.strikeRequest_spent (taken : s.strikeIgnored h = false) (spent : (s.lamp h).rod = 0) :
    s.strikeRequest h =
      ((s.setLamp h { s.lamp h with state := .failed }).setMon h { s.mon h with idleTimer := none }).raise .carbonEnd (.head h)
        (some .rod) := by
  unfold State.strikeRequest
  dsimp only
  rw [if_neg (ne_true_of_eq_false taken), if_pos spent,
    State.rejudgeIdle_not_burning (by rw [State.setLamp_lamp_same]; nofun)]
  rfl

theorem State.strikeRequest_strikes (taken : s.strikeIgnored h = false) (rod : (s.lamp h).rod ≠ 0) :
    s.strikeRequest h =
      ((s.setLamp h
          { s.lamp h with
            state := .striking, contactor := true, strikeTimer := some (s.ms + (s.lamp h).record.strikeLimit * 1000) }).setMon h
        { s.mon h with idleTimer := none }).writeDrive (.lamp h) (.lamp true) := by
  unfold State.strikeRequest
  dsimp only
  rw [if_neg (ne_true_of_eq_false taken), if_neg rod, State.rejudgeIdle_not_burning (by rw [State.setLamp_lamp_same]; nofun)]
  rfl

/-! ### What one head's operation leaves of the others -/

/-- The heads but one stand as they did. -/
theorem State.sameHead_of_sets {l : Lamp} {m : Monitor} (lamps : t.lamps = s.lamps.set h l) (monitors : t.monitors = s.monitors.set h m)
    (slots : t.slots = s.slots) {x : Head} (ne : x ≠ h) : s.SameHead t x := by
  refine ⟨?_, ?_, ?_⟩
  · rw [State.mon, monitors, PerHead.get_set_ne _ _ ne]; rfl
  · rw [State.lamp, lamps, PerHead.get_set_ne _ _ ne]; rfl
  · rw [State.slot, slots]; rfl

theorem headShow_unnamed {target : Byte} (unnamed : headOf target = none) (run : Head → State → State × Result) (s : State) :
    headShow target none run s = (s, Reply.plain .badIndex) := by
  unfold headShow
  rw [unnamed]
  rfl

theorem houseShow_unnamed {target : Byte} (unnamed : houseOf target = none) (run : House → State → State × Result) (s : State) :
    houseShow target none run s = (s, Reply.plain .badIndex) := by
  unfold houseShow
  rw [unnamed]
  rfl

theorem judgeStrike_named {target : Byte} (named : headOf target = some h) (s : State) :
    judgeStrike target none s =
      if s.strikeIgnored h then (s, Reply.plain .badState) else (s.strikeRequest h, Reply.plain .done) := by
  unfold judgeStrike
  rw [headShow_named named]
  split <;> rfl

/-- Settles O21: the request refused, the lamp without rod failed, the lamp struck. -/
theorem strikeRequestJudged : Obligations.StrikeRequestJudged := by
  intro s dt src target listens
  have calm : (s.heard dt).orders.restart = .clear := listens.calm
  have quiet : (s.heard dt).orders.restart ≠ .waiting := by rw [calm]; nofun
  refine ⟨fun unnamed => ?_, fun h named => ⟨fun ignored => ?_, fun service out unlit => ?_⟩⟩
  · exact show_performs (run := judgeStrike target none) listens rfl (headShow_unnamed unnamed _ _) calm
  · refine show_performs (run := judgeStrike target none) listens rfl ?_ calm
    rw [judgeStrike_named named]
    exact if_pos (State.strikeIgnored_iff (s := s.heard dt) |>.mpr ignored)
  have taken : (s.heard dt).strikeIgnored h = false := State.strikeIgnored_taken (s := s.heard dt) service out unlit
  have judged : judgeStrike target none (s.heard dt) = ((s.heard dt).strikeRequest h, Reply.plain .done) := by
    rw [judgeStrike_named named]
    exact if_neg (ne_true_of_eq_false taken)
  refine ⟨fun spent => ?_, fun rod => ?_⟩
  · have made := State.strikeRequest_spent (s := s.heard dt) taken spent
    have away : State.Local h.house (s.heard dt) ((s.heard dt).strikeRequest h) := State.Local.strikeRequest _ rfl
    have still : ((s.heard dt).strikeRequest h).orders.restart = .clear := by rw [away.orders quiet]; exact calm
    obtain ⟨t, ran, settles, answers⟩ := show_performs (c := .showStrike dt src target none) (run := judgeStrike target none) listens rfl judged still
    have lamps : ((s.heard dt).strikeRequest h).lamps = s.lamps.set h { s.lamp h with state := .failed } := by rw [made, State.raise_lamps]; rfl
    have monitors : ((s.heard dt).strikeRequest h).monitors = s.monitors.set h { s.mon h with idleTimer := none } := by
      rw [made, State.raise_monitors]; rfl
    refine ⟨t, ran, answers, ?_, ?_, fun d => ?_, fun x ne => settles.sameHead ?_, settles.sameHouse away.house,
      settles.sameTables (away.sameTables quiet)⟩
    · rw [settles.lamp, State.lamp, lamps, PerHead.get_set_same]
    · rw [settles.notices, made, State.raise_notices]; rfl
    · rw [settles.value, made, State.raise_entry]; rfl
    · exact State.sameHead_of_sets lamps monitors (State.strikeRequest_slots _ h) ne
  · rw [State.strikeRequest_strikes taken rod] at judged
    exact show_performs (run := judgeStrike target none) listens rfl judged calm

/-! ### The lamp timers (R60, R71, R77) -/

theorem due_some {d ms : Nat} {timer : Option Nat} (set_ : timer = some d) (reached : d ≤ ms) : due timer ms = true := by
  rw [set_]
  exact decide_eq_true reached

theorem State.strikeExpiry_due (striking : (s.lamp h).state = .striking) (passed : due (s.lamp h).strikeTimer s.ms = true) :
    s.strikeExpiry h =
      (((s.setLamp h ((s.lamp h).putOut .failed)).setMon h { s.mon h with idleTimer := none }).writeDrive (.lamp h) (.lamp false)).raise
        .arcFail (.head h) (some .strike) := by
  unfold State.strikeExpiry
  dsimp only
  rw [if_pos ⟨striking, passed⟩, State.rejudgeIdle_not_burning (by rw [State.writeDrive_lamp, State.setLamp_lamp_same]; nofun)]
  rfl

/-- The idle timer's expiry on a burning lamp: the lamp put out by a normal shutdown (R60, R75). -/
theorem State.idleExpiry_burning (burning : (s.lamp h).state = .burning) (passed : due (s.mon h).idleTimer s.ms = true) :
    s.idleExpiry h =
      ((((s.writeDrive (.douser h) (.douser false)).writeDrive (.lamp h) (.lamp false)).writeDrive (.feed h) (.feed 0)).setLamp h
        ((s.lamp h).darkAt s.ms)).setMon h { s.mon h with idleTimer := none } := by
  have lit : ((s.setMon h { s.mon h with idleTimer := none }).lamp h).state ≠ .dark := by
    rw [State.setMon_lamp, burning]; nofun
  unfold State.idleExpiry
  dsimp only
  rw [if_pos passed, State.normalShutdown_lit lit]
  unfold State.shutEntries
  rw [if_neg (by rw [State.setMon_lamp, burning]; nofun), State.setMon_mon_same]
  unfold State.setMon
  simp only [State.setLamp, State.writeDrive, State.setEntry, PerHead.set_set]
  rfl

/-- Settles O22: the three expiries, each by the state its effect makes. -/
theorem lampTimersAct : Obligations.LampTimersAct := by
  refine fun s dt d h awake reached => ⟨fun striking timer => ?_, fun burning timer left => ?_, fun timer burning => ?_⟩
  · have quiet : (s.elapse dt).orders.restart ≠ .waiting := ne_of_eq_of_ne awake.2 nofun
    have made := State.strikeExpiry_due (s := s.elapse dt) striking (due_some timer reached)
    obtain ⟨t, ran, settles, -⟩ := event_chose (c := .strikeTimerExpiry dt h) (f := fun t => t.strikeExpiry h) awake rfl made
      (by refine ne_of_eq_of_ne (State.raise_calm ?_ _ _ _) nofun; exact awake.2)
    refine ⟨t, ran, settles.trans_same (State.raise_settled _ _ _ _ quiet) (State.raise_drive ..), ?_⟩
    show t.notices.isPending .arcFail = true
    rw [settles.notices, State.raise_notices, NoticeUnit.raised_isPending]
    simp
  · refine becomes_of_event (f := fun t => t.staleExpiry h) awake rfl ?_ ?_ ?_
    all_goals
      have made : (s.elapse dt).staleExpiry h =
          (s.elapse dt).setLamp h { (s.lamp h).account (s.elapse dt).ms with stale := true, staleTimer := some ((s.elapse dt).ms + 3000) } := by
        unfold State.staleExpiry
        dsimp only
        rw [if_pos ⟨burning, due_some timer reached⟩]
        exact if_neg (show ¬ (s.lamp h).rod - _ = 0 from Nat.sub_ne_zero_of_lt left)
      rw [made]
    · exact ne_of_eq_of_ne awake.2 nofun
    · rfl
    · rfl
  · have made := State.idleExpiry_burning (s := s.elapse dt) burning (due_some timer reached)
    have quiet : (s.elapse dt).orders.restart ≠ .waiting := ne_of_eq_of_ne awake.2 nofun
    have away : State.Local h.house (s.elapse dt) ((s.elapse dt).idleExpiry h) := State.Local.idleExpiry _ h
    obtain ⟨t, ran, settles, -⟩ := event_chose (c := .idleTimerExpiry dt h) (f := fun t => t.idleExpiry h) awake rfl made
      (ne_of_eq_of_ne awake.2 nofun)
    have settled := settles
    rw [← made] at settled
    refine ⟨t, ran, ?_, ⟨?_, ?_, ?_⟩, ?_, settles.notices, settles.slots, (congrArg State.engines settles.rest :), fun x ne => settles.sameHead ?_,
      settled.sameHouse away.house, settled.sameTables (away.sameTables quiet)⟩
    · rw [settles.lamp, State.setMon_lamp, State.setLamp_lamp_same]; rfl
    · rw [settles.value]; simp [State.writeDrive_value]
    · rw [settles.value]; simp [State.writeDrive_value]
    · rw [settles.value]; simp
    · rw [settles.mon, State.setMon_mon_same]; rfl
    · refine State.sameHead_of_sets (l := (s.lamp h).darkAt (s.elapse dt).ms) (m := { s.mon h with idleTimer := none }) ?_ ?_ ?_ ne
      all_goals rfl

/-! ### WRITE LAMP (R65) -/

/-- The lamp under a new Fmax, its consumption accounted (R65, R82). -/
def Lamp.refitted (l : Lamp) (f ms : Nat) : Lamp :=
  Lamp.account { l with record := { l.record with fmax := f, base := min l.record.base f } } ms

theorem State.writeFmax_lowers {f : Nat} (burning : (s.lamp h).state = .burning) (above : f < (s.lamp h).rate)
    (left : ((s.lamp h).refitted f s.ms).rod ≠ 0) :
    s.writeFmax h f = (s.setLamp h { (s.lamp h).refitted f s.ms with rate := f }).writeDrive (.feed h) (.feed f) := by
  refine (if_pos ⟨burning, above⟩).trans ((if_neg left).trans ?_)
  rw [State.setLamp_setLamp]
  rfl

theorem State.writeFmax_ends {f : Nat} (burning : (s.lamp h).state = .burning) (above : f < (s.lamp h).rate)
    (empty : ((s.lamp h).refitted f s.ms).rod = 0) :
    s.writeFmax h f = (s.setLamp h ((s.lamp h).refitted f s.ms)).carbonEnd h false :=
  (if_pos ⟨burning, above⟩).trans (if_pos empty)

theorem judgeWriteLamp_item {head item : Byte} {lo hi : Nat} (named : headOf head = some h)
    (range : (s.lamp h).record.range item.toNat = some (lo, hi)) (other : item.toNat ≠ 5) (value : Word) :
    judgeWriteLamp head item value s =
      (s.setLamp h { s.lamp h with record := (s.lamp h).record.withItem item.toNat (tuned lo hi value.toNat).1 },
        (tuned lo hi value.toNat).2) := by
  unfold judgeWriteLamp
  rw [named]
  dsimp only
  rw [range]
  exact if_neg other

/-- WRITE LAMP, item 5 (R65). -/
theorem judgeWriteLamp_fmax {head : Byte} (named : headOf head = some h) (value : Word) :
    judgeWriteLamp head 5 value s =
      (s.writeFmax h (max 1 (min 511 value.toNat)),
        { result := if 1 ≤ value.toNat ∧ value.toNat ≤ 511 ∧ (s.lamp h).record.base ≤ max 1 (min 511 value.toNat) then .done else .clamped
          data := if 1 ≤ value.toNat ∧ value.toNat ≤ 511 ∧ (s.lamp h).record.base ≤ max 1 (min 511 value.toNat) then []
            else be16 (max 1 (min 511 value.toNat)) }) := by
  have found : judgeWriteLamp head 5 value s =
      (s.writeFmax h (tuned 1 511 value.toNat).1,
        if (tuned 1 511 value.toNat).1 < (s.lamp h).record.base then
          { result := .clamped, data := be16 (tuned 1 511 value.toNat).1 }
        else (tuned 1 511 value.toNat).2) := by
    unfold judgeWriteLamp
    rw [named]
    rfl
  rw [found, tuned_eq]
  dsimp only
  by_cases below : max 1 (min 511 value.toNat) < (s.lamp h).record.base
  · rw [if_pos below, if_neg (by omega), if_neg (by omega)]
  · rw [if_neg below]
    by_cases inside : 1 ≤ value.toNat ∧ value.toNat ≤ 511
    · rw [if_pos inside, if_pos inside, if_pos ⟨inside.1, inside.2, by omega⟩, if_pos ⟨inside.1, inside.2, by omega⟩]
    · rw [if_neg inside, if_neg inside, if_neg fun all => inside ⟨all.1, all.2.1⟩, if_neg fun all => inside ⟨all.1, all.2.1⟩]

theorem judgeWriteLamp_badIndex {head item : Byte} (outside : headOf head = none ∨ ¬ (1 ≤ item.toNat ∧ item.toNat ≤ 9)) (value : Word)
    (s : State) : judgeWriteLamp head item value s = (s, Reply.plain .badIndex) := by
  unfold judgeWriteLamp
  split
  · rfl
  · rename_i h named
    dsimp only
    have none : (s.lamp h).record.range item.toNat = none := by
      have high := outside.resolve_left (by rw [named]; nofun)
      unfold LampRecord.range
      split
      case h_10 => rfl
      all_goals omega
    rw [none]

/-- Settles O23: the items by their ranges, then Fmax below and above the rate in force. -/
theorem writeLampStoresItem : Obligations.WriteLampStoresItem := by
  intro s dt src head item value listens
  have calm : (s.heard dt).orders.restart = .clear := listens.calm
  have short : (encodeOrder (.writeLamp head item value)).length ≤ 12 := by simp [encodeOrder, Order.params]
  refine ⟨fun outside => performs_of_judged (run := judgeWriteLamp head item value) (.writeLamp head item value) listens rfl short
    (judgeWriteLamp_badIndex outside value _) calm, fun h named => ?_⟩
  intro r put
  have puts : ∀ {lo hi f}, r.range item.toNat = some (lo, hi) → item.toNat ≠ 5 → (∀ w, r.withItem item.toNat w = f w) → put lo hi f :=
    fun {lo hi f} range other same => by
      have judged := judgeWriteLamp_item (s := s.heard dt) named range other value
      rw [tuned_eq] at judged
      refine performs_of_judged (run := judgeWriteLamp head item value) (.writeLamp head item value) listens rfl short ?_ calm
      rw [judged]
      exact congrArg (fun r' => ((s.heard dt).setLamp h { s.lamp h with record := r' }, _)) (same _)
  have fmax : ∀ {after}, item = 5 → (s.heard dt).writeFmax h (max 1 (min 511 value.toNat)) = after → after.orders.restart = .clear →
      s.Performs (.writeLamp dt src head item value) src 0x05
        (if 1 ≤ value.toNat ∧ value.toNat ≤ 511 ∧ r.base ≤ max 1 (min 511 value.toNat) then .done else .clamped)
        (if 1 ≤ value.toNat ∧ value.toNat ≤ 511 ∧ r.base ≤ max 1 (min 511 value.toNat) then []
          else be16 (max 1 (min 511 value.toNat))) after := fun five made still => by
    subst five
    refine performs_of_judged (run := judgeWriteLamp head 5 value) (.writeLamp head 5 value) listens rfl short ?_ still
    rw [judgeWriteLamp_fmax named, made]
    rfl
  clear_value put
  refine ⟨?_, ?_, ?_, ?_, ?_, ?_, ?_, ?_, fun five low => fmax five ?_ calm, fun five burning high => ⟨fun left => fmax five ?_ calm, fun ends => ?_⟩⟩
  · rintro rfl; exact puts rfl (by decide) fun _ => rfl
  · rintro rfl; exact puts rfl (by decide) fun _ => rfl
  · rintro rfl; exact puts rfl (by decide) fun _ => rfl
  · rintro rfl; exact puts rfl (by decide) fun _ => rfl
  · rintro rfl; exact puts rfl (by decide) fun _ => rfl
  · rintro rfl; exact puts rfl (by decide) fun _ => rfl
  · rintro rfl; exact puts rfl (by decide) fun _ => rfl
  · rintro rfl; exact puts rfl (by decide) fun _ => rfl
  · refine if_neg fun ⟨burning, above⟩ => ?_
    exact low.elim (absurd burning) fun low => absurd above (by show ¬ _ < (s.lamp h).rate; omega)
  · exact State.writeFmax_lowers (s := s.heard dt) burning high (Nat.sub_ne_zero_of_lt left)
  · have empty : (((s.heard dt).lamp h).refitted (max 1 (min 511 value.toNat)) (s.heard dt).ms).rod = 0 := Nat.sub_eq_zero_of_le ends
    have failed := State.carbonEnd_rod_lampFailed (s := s.heard dt) (h := h)
      (x := ((s.heard dt).lamp h).refitted (max 1 (min 511 value.toNat)) (s.heard dt).ms) calm rfl empty
    rw [← State.writeFmax_ends (s := s.heard dt) burning high empty] at failed
    obtain ⟨t, ran, settles, answers⟩ := fmax five rfl (by rw [failed.orders]; exact calm)
    refine ⟨t, ran, ?_, (failed.of_settles settles).of_putOut ?_⟩
    · by_cases given : 1 ≤ value.toNat ∧ value.toNat ≤ 511 ∧ r.base ≤ max 1 (min 511 value.toNat)
      · rw [if_pos given, if_pos given] at answers ⊢
        exact answers
      · rw [if_neg given, if_neg given] at answers ⊢
        exact answers
    · rw [← empty]
      rfl

end Sys2Proof.Machine
end

section
/-! SUPPORT. ARM (R106), HALT (R129) and the run-up's deadline (R111). -/

namespace Sys2Proof.Machine

variable {s t u : State} {k : House} {h : Head}

/-- A head's idle timer judged anew moves no other monitor. -/
theorem State.rejudgeIdle_mon_ne (s : State) {h x : Head} (ne : x ≠ h) : (s.rejudgeIdle h).mon x = s.mon x := by
  by_cases burning : (s.lamp h).state = .burning
  · rw [State.rejudgeIdle_burning burning]
    exact State.setMon_mon_ne _ _ ne
  · rw [State.rejudgeIdle_not_burning burning]
    exact State.setMon_mon_ne _ _ ne

theorem State.assign_mon_ne (s : State) {h x : Head} (r : Role) (i : Option Nat) (ne : x ≠ h) : (s.assign h r i).mon x = s.mon x :=
  State.rejudgeIdle_mon_ne _ ne

@[simp] theorem State.assign_lights (s : State) (h : Head) (r : Role) (i : Option Nat) : (s.assign h r i).lights = s.lights :=
  (congrArg State.lights (s.assign_frame h r i) :)

@[simp] theorem State.raise_lights (s : State) (e : Event) (c : Cause) (code : Option Code) : (s.raise e c code).lights = s.lights :=
  (congrArg State.lights (s.raise_frame e c code) :)

@[simp] theorem State.writeDrive_lights (s : State) (d : DriveId) (v : DriveVal) : (s.writeDrive d v).lights = s.lights := rfl

/-- A function that names a house answers what it does there. -/
theorem houseShow_answers {target : Byte} {run : House → State → State × Result} {r : Result} (named : houseOf target = some k)
    (ran : run k s = (t, r)) : houseShow target none run s = (t, Reply.plain r) := by
  rw [houseShow_named named, ran]

theorem headShow_answers {target : Byte} {run : Head → State → State × Result} {r : Result} (named : headOf target = some h)
    (ran : run h s = (t, r)) : headShow target none run s = (t, Reply.plain r) := by
  rw [headShow_named named, ran]

/-! ### ARM (R106) -/

section
variable (s : State) (k : House)

theorem State.clearHouse_lamp {x : Head} (e : x.house = k) :
    (s.clearHouse k).lamp x = if s.role x ≠ .empty ∧ (s.lamp x).state ≠ .dark then (s.lamp x).darkAt s.ms else s.lamp x := by
  have ne := k.head_b_ne
  unfold State.clearHouse
  rw [State.writeDrive_lamp]
  obtain rfl | rfl := House.eq_head e <;>
    simp [State.clearHead_lamp, State.clearHead_role_other, State.clearHead_ms, ne, ne.symm]

theorem State.clearHouse_motor {x : Head} (e : x.house = k) :
    ((s.clearHouse k).entry (.motor x)).value = if s.role x = .empty then (s.entry (.motor x)).value else .motor false := by
  have ne := k.head_b_ne
  unfold State.clearHouse
  rw [State.writeDrive_value, if_neg nofun]
  obtain rfl | rfl := House.eq_head e <;>
    simp [State.clearHead_motor, State.clearHead_role_other, ne, ne.symm]

theorem State.clearHouse_sound : ((s.clearHouse k).entry (.sound k)).value = .sound none := by
  rw [State.clearHouse, State.writeDrive_value, if_pos rfl]

variable (i : Nat)

theorem State.armAccepted_slot (x : Head) : (s.armAccepted k i).slot x = (s.clearHouse k).slot x := by
  rw [State.armAccepted_eq]
  simp [State.withdrawClaim_eq]

theorem State.armAccepted_lamp (x : Head) : (s.armAccepted k i).lamp x = (s.clearHouse k).lamp x := by
  rw [State.armAccepted_eq]
  simp [State.withdrawClaim_eq]

theorem State.armAccepted_fireOf (k' : House) : (s.armAccepted k i).fireOf k' = s.fireOf k' := by
  rw [State.armAccepted_eq]
  simp [State.withdrawClaim_eq, State.clearHouse_fireOf]

theorem State.armAccepted_notices : (s.armAccepted k i).notices = s.notices := by
  rw [State.armAccepted_eq]
  simp [State.withdrawClaim_eq, State.clearHouse_notices]

theorem State.armAccepted_requests :
    ((s.armAccepted k i).light k).requests = { (s.light k).requests with fault := none } := by
  rw [State.armAccepted_eq]
  dsimp only
  rw [State.setEng_light, State.withdrawClaim_eq, State.setRequests_requests]
  simp [State.clearHouse_light]

/-- What a head is left with by an accepted ARM: untouched when EMPTY, put away otherwise (R106). -/
theorem State.armAccepted_untouched {x : Head} (e : x.house = k) (empty : s.role x = .empty) :
    (s.armAccepted k i).slot x = s.slot x ∧ (s.armAccepted k i).lamp x = s.lamp x ∧
      ((s.armAccepted k i).entry (.motor x)).value = (s.entry (.motor x)).value ∧
      ((s.armAccepted k i).entry (.douser x)).value = (s.entry (.douser x)).value := by
  refine ⟨?_, ?_, ?_, ?_⟩
  · rw [State.armAccepted_slot, State.clearHouse_slot _ _ e, if_pos empty]
  · rw [State.armAccepted_lamp, State.clearHouse_lamp _ _ e, if_neg fun put => put.1 empty]
  · rw [State.armAccepted_entry (d := .motor x) _ _ _ nofun, State.clearHouse_motor _ _ e, if_pos empty]
  · rw [State.armAccepted_entry (d := .douser x) _ _ _ nofun, State.clearHouse_douser _ _ e, if_pos empty]

theorem State.armAccepted_putAway {x : Head} (e : x.house = k) (held : s.role x ≠ .empty) :
    (s.armAccepted k i).slot x = { role := .empty, held := none } ∧
      ((s.armAccepted k i).entry (.motor x)).value = .motor false ∧
      ((s.armAccepted k i).entry (.douser x)).value = .douser false ∧
      (s.armAccepted k i).lamp x = if (s.lamp x).state = .dark then s.lamp x else (s.lamp x).darkAt s.ms := by
  refine ⟨?_, ?_, ?_, ?_⟩
  · rw [State.armAccepted_slot, State.clearHouse_slot _ _ e, if_neg held]
  · rw [State.armAccepted_entry (d := .motor x) _ _ _ nofun, State.clearHouse_motor _ _ e, if_neg held]
  · rw [State.armAccepted_entry (d := .douser x) _ _ _ nofun, State.clearHouse_douser _ _ e, if_neg held]
  · rw [State.armAccepted_lamp, State.clearHouse_lamp _ _ e]
    by_cases dark : (s.lamp x).state = .dark <;> simp [held, dark]

end

theorem judgeArm_named {target : Byte} (named : houseOf target = some k) {start : Option Byte} {r : Result}
    (armed : s.arm k (start.map BitVec.toNat) = (t, r)) : judgeArm target start s = (t, Reply.plain r) := by
  unfold judgeArm
  rw [named]
  dsimp only
  rw [armed]

theorem judgeArm_unnamed {target : Byte} (unnamed : houseOf target = none) (start : Option Byte) (s : State) :
    judgeArm target start s = (s, Reply.plain .badIndex) := by
  unfold judgeArm
  rw [unnamed]

/-- Both heads of a house are in service (R106). -/
theorem State.served_iff (s : State) (k : House) :
    ((s.mon (k.head .a)).inService && (s.mon (k.head .b)).inService) = true ↔ ∀ h, h.house = k → (s.mon h).inService = true := by
  rw [Bool.and_eq_true]
  refine ⟨fun ⟨a, b⟩ h e => ?_, fun all => ⟨all _ (by cases k <;> rfl), all _ (by cases k <;> rfl)⟩⟩
  obtain rfl | rfl := House.eq_head e
  · exact a
  · exact b

section
variable {start : Option Nat} {i : Nat} (index : start.getD (s.programme.first k) = i)
include index

/-- What ARM answers, its checks in order (R106). -/
theorem State.arm_eq :
    s.arm k start =
      if ¬ s.programme.inRegion k i = true then (s, .badIndex)
      else if ¬ ((s.eng k).state = .idle ∨ (s.eng k).state = .ended ∨ (s.eng k).state = .halted) then (s, .badState)
      else if (s.fireOf k).state = .fire then (s, .badState)
      else if ¬ ((s.mon (k.head .a)).inService && (s.mon (k.head .b)).inService) = true then (s, .badState)
      else if (s.programme.record i).last = 0 then (s, .noReel)
      else (s.armAccepted k i, .done) := by
  subst index
  unfold State.arm
  simp only [← State.inFire_iff, Bool.or_eq_true, beq_iff_eq, or_assoc, Bool.not_eq_eq_eq_not, Bool.not_true, ← Bool.not_eq_true]

theorem State.arm_outside (outside : ¬ s.programme.inRegion k i = true) : s.arm k start = (s, .badIndex) := by
  rw [State.arm_eq index, if_pos outside]

variable (inside : s.programme.inRegion k i = true)
include inside

theorem State.arm_busy (busy : ¬ ((s.eng k).state = .idle ∨ (s.eng k).state = .ended ∨ (s.eng k).state = .halted)) :
    s.arm k start = (s, .badState) := by
  rw [State.arm_eq index, if_neg (not_not.mpr inside), if_pos busy]

variable (rests : (s.eng k).state = .idle ∨ (s.eng k).state = .ended ∨ (s.eng k).state = .halted)
include rests

theorem State.arm_inFire (fire : (s.fireOf k).state = .fire) : s.arm k start = (s, .badState) := by
  rw [State.arm_eq index, if_neg (not_not.mpr inside), if_neg (not_not.mpr rests), if_pos fire]

variable (safe : (s.fireOf k).state ≠ .fire)
include safe

theorem State.arm_unserved (unserved : ¬ ∀ h, h.house = k → (s.mon h).inService = true) : s.arm k start = (s, .badState) := by
  rw [State.arm_eq index, if_neg (not_not.mpr inside), if_neg (not_not.mpr rests), if_neg safe, if_pos (mt (s.served_iff k).mp unserved)]

variable (served : ∀ h, h.house = k → (s.mon h).inService = true)
include served

theorem State.arm_vacant (vacant : (s.programme.record i).last = 0) : s.arm k start = (s, .noReel) := by
  rw [State.arm_eq index, if_neg (not_not.mpr inside), if_neg (not_not.mpr rests), if_neg safe,
    if_neg (not_not.mpr ((s.served_iff k).mpr served)), if_pos vacant]

theorem State.arm_accepts (reel : (s.programme.record i).last ≠ 0) : s.arm k start = (s.armAccepted k i, .done) := by
  rw [State.arm_eq index, if_neg (not_not.mpr inside), if_neg (not_not.mpr rests), if_neg safe,
    if_neg (not_not.mpr ((s.served_iff k).mpr served)), if_neg reel]

end

theorem Programme.inRegion_of (p : Programme) (k : House) (i : Nat) :
    p.inRegion k i = true ↔
      match k with
      | .one => i < p.split
      | .two => p.split ≤ i ∧ i < 64 := by
  cases k <;> exact decide_eq_true_iff

/-- Settles O28: the checks of ARM in order, then both heads put away and the engine made ready. -/
theorem armPreparesHouse : Obligations.ArmPreparesHouse := by
  intro s dt src target start listens
  have calm : (s.heard dt).orders.restart = .clear := listens.calm
  have quiet : (s.heard dt).orders.restart ≠ .waiting := by rw [calm]; nofun
  refine ⟨fun unnamed => ?_, fun k named => ?_⟩
  · exact show_performs (run := judgeArm target start) listens rfl (judgeArm_unnamed unnamed _ _) calm
  intro i region open_ served
  have index : (start.map BitVec.toNat).getD ((s.heard dt).programme.first k) = i := by cases k <;> rfl
  have inside : (s.heard dt).programme.inRegion k i = true ↔ region := Programme.inRegion_of _ k i
  have refused : ∀ {r}, (s.heard dt).arm k (start.map BitVec.toNat) = (s.heard dt, r) →
      s.Performs (.showArm dt src target start) src 0x0E r [] (s.heard dt) := fun e =>
    show_performs (run := judgeArm target start) listens rfl (judgeArm_named named e) calm
  refine ⟨fun out => refused (State.arm_outside index (mt inside.mp out)), fun inn busy => refused (State.arm_busy index (inside.mpr inn) busy),
    fun inn rest fire => refused (State.arm_inFire index (inside.mpr inn) rest fire),
    fun inn rest safe unserved => refused (State.arm_unserved index (inside.mpr inn) rest safe unserved),
    fun j e inn rest safe all => ⟨fun vacant => refused (State.arm_vacant index (inside.mpr inn) rest safe all ?_), fun reel => ?_⟩⟩
  · rw [← e, Programme.record_fin]; exact vacant
  · have record : (s.programme.record i).last ≠ 0 := by rw [← e, Programme.record_fin]; exact reel
    have judged := judgeArm_named named (State.arm_accepts (s := s.heard dt) index (inside.mpr inn) rest safe all record)
    have away : State.Local k (s.heard dt) ((s.heard dt).armAccepted k i) := State.Local.armAccepted k _ i
    obtain ⟨t, ran, settles, answers⟩ := show_performs (c := .showArm dt src target start) (run := judgeArm target start) listens rfl
      judged (by rw [away.orders quiet]; exact calm)
    refine ⟨t, ran, answers, fun h house => ⟨fun empty => ?_, fun held => ?_⟩, ?_, ?_, ?_, ?_, ?_, settles.sameHouse away.house,
      settles.sameTables (away.sameTables quiet)⟩
    · rw [settles.slot, settles.lamp, settles.value, settles.value]
      exact (s.heard dt).armAccepted_untouched k i house empty
    · rw [settles.slot, settles.lamp, settles.value, settles.value]
      exact (s.heard dt).armAccepted_putAway k i house held
    · rw [settles.value, State.armAccepted_entry (d := .sound k) _ _ _ nofun, State.clearHouse_sound]
    · rw [settles.eng, State.armAccepted_eng]; rfl
    · rw [settles.light, State.armAccepted_requests]; rfl
    · rw [settles.notices, State.armAccepted_notices]; rfl
    · rw [settles.fireOf, State.armAccepted_fireOf]; rfl

/-! ### HALT (R129) -/

theorem State.HouseHalted.of_settles (halted : s.HouseHalted u k) (settles : t.Settles u) : s.HouseHalted t k where
  heads h e := by
    rw [settles.value, settles.value, settles.slot, settles.mon]
    exact halted.heads h e
  lamps h e := by rw [settles.lamp]; exact halted.lamps h e
  sound := by rw [settles.value]; exact halted.sound
  engine := by rw [settles.eng]; exact halted.engine
  lights := by rw [settles.light]; exact halted.lights
  elsewhere := ⟨settles.sameHouse halted.elsewhere.1, settles.sameTables halted.elsewhere.2⟩

theorem State.halt_normal_notices (s : State) (k : House) : (s.halt k false).notices = s.notices := by
  rw [State.halt_normal, State.setEng_notices, State.setClaim_notices, State.haltBase_notices]

theorem State.halt_normal_fire (s : State) (k : House) : (s.halt k false).fire = s.fire := by
  rw [State.halt_normal, State.setEng_fire, State.setClaim_fire, State.haltBase_fire]

theorem State.haltFunction_halts (shows : (s.eng k).state = .armed ∨ (s.eng k).state = .running ∨ (s.eng k).state = .interval) :
    s.haltFunction k = (s.halt k false, .done) := by
  unfold State.haltFunction
  simp only [Bool.or_eq_true, beq_iff_eq, or_assoc]
  exact if_pos shows

theorem State.haltFunction_refused (rests : (s.eng k).state = .idle ∨ (s.eng k).state = .ended ∨ (s.eng k).state = .halted) :
    s.haltFunction k = (s, .badState) := by
  unfold State.haltFunction
  obtain e | e | e := rests <;> rw [e] <;> rfl

/-! ### The run-up's deadline (R111) -/

/-- A head whose run-up has failed: its motor stopped and RUNUP_FAIL raised, the run-up ended (R111). -/
def State.runupFailed (s : State) (k : House) (r : Runup) : State :=
  ((s.writeDrive (.motor r.head) (.motor false)).raise .runupFail (.head r.head) (some r.purpose.toCode)).runupIdle k

theorem State.runupExpiry_due {r : Runup} (runup : (s.eng k).runup = some r) (reached : r.deadline ≤ s.ms) :
    s.runupExpiry k =
      if s.role r.head = .starting then (s.runupFailed k r).setRole r.head .threaded else s.runupFailed k r := by
  have role : (s.runupFailed k r).role r.head = s.role r.head := by simp [State.runupFailed, State.runupIdle]
  unfold State.runupExpiry
  rw [runup]
  dsimp only
  rw [if_pos reached, ← role]
  rfl

/-- What a run-up's deadline moves: the role of its head, the engine's run-up, the motor, the notice (R111). -/
theorem State.runupExpiry_effects {r : Runup} (runup : (s.eng k).runup = some r) (reached : r.deadline ≤ s.ms) :
    (∀ x, (s.runupExpiry k).slot x =
      if x = r.head then { s.slot r.head with role := if s.role r.head = .starting then .threaded else s.role r.head } else s.slot x) ∧
    (∀ x, x ≠ r.head → (s.runupExpiry k).mon x = s.mon x) ∧
    (s.runupExpiry k).eng k = { s.eng k with runup := none } ∧
    (∀ d, ((s.runupExpiry k).entry d).value = if d = .motor r.head then .motor false else (s.entry d).value) ∧
    (s.runupExpiry k).lamps = s.lamps ∧ (s.runupExpiry k).lights = s.lights ∧ (s.runupExpiry k).fire = s.fire ∧
    (s.runupExpiry k).notices = s.notices.raised .runupFail (.head r.head) (some r.purpose.toCode) := by
  have keeps : (s.runupFailed k r).slots = s.slots := by simp [State.runupFailed, State.runupIdle]
  have mon : ∀ x, (s.runupFailed k r).mon x = s.mon x := by simp [State.runupFailed, State.runupIdle]
  rw [State.runupExpiry_due runup reached]
  split
  · rename_i starting
    refine ⟨fun x => ?_, fun x ne => ?_, ?_, fun d => ?_, ?_, ?_, ?_, ?_⟩
    · rw [State.setRole_slot, State.slot, State.slot, keeps]; rfl
    · rw [State.setRole, State.assign_mon_ne _ _ _ ne, mon]
    all_goals simp [State.runupFailed, State.runupIdle, State.setRole, State.writeDrive_value]
  · refine ⟨fun x => ?_, fun x _ => mon x, ?_, fun d => ?_, ?_, ?_, ?_, ?_⟩
    · have same : (s.runupFailed k r).slot x = s.slot x := by rw [State.slot, keeps]; rfl
      rw [same]
      split
      · rename_i e
        rw [e]; rfl
      · rfl
    all_goals simp [State.runupFailed, State.runupIdle, State.writeDrive_value]

theorem State.runupExpiry_early (early : ∀ r, (s.eng k).runup = some r → s.ms < r.deadline) : s.runupExpiry k = s := by
  unfold State.runupExpiry
  split
  · rfl
  · rename_i r runup
    exact if_neg (Nat.not_le.mpr (early r runup))

/-- Settles O32: HALT by the house's halt; the deadline by the run-up it finds. -/
theorem haltAndRunupDeadline : Obligations.HaltAndRunupDeadline := by
  refine ⟨fun s dt src target listens => ?_, fun s dt k awake => ⟨fun r runup own reached => ?_, fun early => ?_⟩⟩
  · have calm : (s.heard dt).orders.restart = .clear := listens.calm
    have quiet : (s.heard dt).orders.restart ≠ .waiting := by rw [calm]; nofun
    refine ⟨fun unnamed => ?_, fun k named => ⟨fun running => ?_, fun resting => ?_⟩⟩
    · exact show_performs (run := judgeHalt target none) listens rfl (houseShow_unnamed unnamed _ _) calm
    · have judged : judgeHalt target none (s.heard dt) = _ := houseShow_answers named (State.haltFunction_halts (s := s.heard dt) running)
      have halted := State.halt_houseHalted (s := s.heard dt) (k := k) quiet
      obtain ⟨t, ran, settles, answers⟩ := show_performs (c := .showHalt dt src target none) (run := judgeHalt target none) listens rfl
        judged (by rw [(State.Local.halt k (s.heard dt) false).orders quiet]; exact calm)
      refine ⟨t, ran, answers, halted.of_settles settles, ?_, ?_⟩
      · rw [settles.notices, State.halt_normal_notices]; rfl
      · rw [settles.fire, State.halt_normal_fire]; rfl
    · exact show_performs (run := judgeHalt target none) listens rfl
        (houseShow_answers named (State.haltFunction_refused (s := s.heard dt) resting)) calm
  · have quiet : (s.elapse dt).orders.restart ≠ .waiting := ne_of_eq_of_ne awake.2 nofun
    have made := State.runupExpiry_due (s := s.elapse dt) runup reached
    have away : State.Local k (s.elapse dt) ((s.elapse dt).runupExpiry k) :=
      State.Local.runupExpiry fun r' runup' => by
        obtain rfl : r = r' := Option.some.inj (runup.symm.trans runup')
        exact own
    obtain ⟨t, ran, settles, -⟩ := event_chose (c := .runupDeadlineExpiry dt k) (f := fun t => t.runupExpiry k) awake rfl rfl
      (by rw [away.orders quiet]; exact ne_of_eq_of_ne awake.2 nofun)
    obtain ⟨slot, mon, eng, values, lamps, lights, fire, notices⟩ := State.runupExpiry_effects (s := s.elapse dt) runup reached
    refine ⟨t, ran, ?_, ?_, ?_, ?_, ?_, ?_, ?_, fun d ne => ?_, fun h ne => settles.sameHead ⟨?_, ?_, ?_⟩, settles.sameHouse away.house,
      settles.sameTables (away.sameTables quiet)⟩
    · rw [settles.value, values, if_pos rfl]
    · rw [settles.slot, slot, if_pos rfl]; rfl
    · rw [settles.eng, eng]; rfl
    · exact (congrArg State.lamps settles.rest :).trans lamps
    · exact (congrArg State.lights settles.rest :).trans lights
    · rw [settles.fire, fire]; rfl
    · rw [settles.notices, notices]; rfl
    · rw [settles.value, values, if_neg ne]; rfl
    · rw [mon h ne]; rfl
    · rw [State.lamp, lamps]; rfl
    · rw [slot, if_neg ne]; rfl
  · have made := State.runupExpiry_early (s := s.elapse dt) early
    refine becomes_of_event (f := fun t => t.runupExpiry k) awake rfl ?_ ?_ ?_
    · rw [made]; exact ne_of_eq_of_ne awake.2 nofun
    · rw [made]
    · rw [made]

end Sys2Proof.Machine
end

section
/-! SUPPORT. A monitor's move and its report to the engine (R53 to R58, R125, R126, R128): the slow and stop timers and the service
flag. -/

namespace Sys2Proof.Machine

variable {s t u : State} {k : House} {h : Head}

/-! ### A monitor moved (R55, R56, R60) -/

/-- The idle timer as it is judged anew (R60). -/
theorem State.rejudgeIdle_mon_same (s : State) (h : Head) :
    (s.rejudgeIdle h).mon h =
      { s.mon h with
        idleTimer :=
          if (s.lamp h).state = .burning ∧ (s.mon h).motion = .stopped ∧ s.role h ≠ .showing then
            some ((s.mon h).idleTimer.getD (s.ms + (s.mon h).idleLimit * 1000))
          else none } := by
  by_cases burning : (s.lamp h).state = .burning
  · rw [State.rejudgeIdle_burning burning, State.setMon_mon_same]
    simp only [burning, true_and]
  · rw [State.rejudgeIdle_not_burning burning, State.setMon_mon_same, if_neg fun c => burning c.1]

/-- A head's monitor set, and its hold line and idle timer judged anew: what the engine is told of (R55). -/
def State.moved (s : State) (h : Head) (m : Monitor) : State := ((s.setMon h m).rejudgeHold h).rejudgeIdle h

section
variable (s : State) (h : Head) (m : Monitor)

theorem State.reportMotion_moved : (s.setMon h m).reportMotion h = (s.moved h m).motionReport h := rfl

theorem State.moved_frame :
    { s.moved h m with monitors := s.monitors, notices := s.notices, loop := s.loop, orders := s.orders } = s :=
  (congrArg (fun t : State => { t with monitors := s.monitors, notices := s.notices, loop := s.loop, orders := s.orders })
    (((s.setMon h m).rejudgeHold h).rejudgeIdle_frame h) :).trans
    (congrArg (fun t : State => { t with monitors := s.monitors, notices := s.notices, loop := s.loop, orders := s.orders })
      ((s.setMon h m).rejudgeHold_frame h) :)

@[simp] theorem State.moved_now : (s.moved h m).now = s.now := (congrArg State.now (s.moved_frame h m) :)
@[simp] theorem State.moved_ms : (s.moved h m).ms = s.ms := (congrArg State.ms (s.moved_frame h m) :)
@[simp] theorem State.moved_fire : (s.moved h m).fire = s.fire := (congrArg State.fire (s.moved_frame h m) :)
@[simp] theorem State.moved_slots : (s.moved h m).slots = s.slots := (congrArg State.slots (s.moved_frame h m) :)
@[simp] theorem State.moved_lamps : (s.moved h m).lamps = s.lamps := (congrArg State.lamps (s.moved_frame h m) :)
@[simp] theorem State.moved_lights : (s.moved h m).lights = s.lights := (congrArg State.lights (s.moved_frame h m) :)
@[simp] theorem State.moved_engines : (s.moved h m).engines = s.engines := (congrArg State.engines (s.moved_frame h m) :)
@[simp] theorem State.moved_lamp (x : Head) : (s.moved h m).lamp x = s.lamp x := (congrArg (fun t => t.lamp x) (s.moved_frame h m) :)
@[simp] theorem State.moved_slot (x : Head) : (s.moved h m).slot x = s.slot x := (congrArg (fun t => t.slot x) (s.moved_frame h m) :)
@[simp] theorem State.moved_role (x : Head) : (s.moved h m).role x = s.role x := (congrArg (fun t => t.role x) (s.moved_frame h m) :)
@[simp] theorem State.moved_eng (k : House) : (s.moved h m).eng k = s.eng k := (congrArg (fun t => t.eng k) (s.moved_frame h m) :)
@[simp] theorem State.moved_light (k : House) : (s.moved h m).light k = s.light k := (congrArg (fun t => t.light k) (s.moved_frame h m) :)
@[simp] theorem State.moved_fireOf (k : House) : (s.moved h m).fireOf k = s.fireOf k :=
  (congrArg (fun t => t.fireOf k) (s.moved_frame h m) :)
@[simp] theorem State.moved_entry (d : DriveId) : (s.moved h m).entry d = s.entry d := (congrArg (fun t => t.entry d) (s.moved_frame h m) :)

/-- The monitor moved: the hold line follows the motion, the service and the gate, the idle timer the lamp, the motion and the role. -/
theorem State.moved_mon :
    (s.moved h m).mon h =
      { m with
        hold := decide (m.motion = .locked) && m.inService && (s.fireOf h.house).gate
        idleTimer :=
          if (s.lamp h).state = .burning ∧ m.motion = .stopped ∧ s.role h ≠ .showing then
            some (m.idleTimer.getD (s.ms + m.idleLimit * 1000))
          else none } := by
  rw [State.moved, State.rejudgeIdle_mon_same, State.rejudgeHold_mon, if_pos rfl]
  simp [State.holdCondition, State.ms]

theorem State.moved_mon_ne {x : Head} (ne : x ≠ h) : (s.moved h m).mon x = s.mon x := by
  rw [State.moved, State.rejudgeIdle_mon_ne _ ne, State.rejudgeHold_mon, if_neg ne, State.setMon_mon_ne _ _ ne]

/-- A hold line that the move releases on a SHOWING head raises SHUTTER (R57). -/
theorem State.moved_notices :
    (s.moved h m).notices =
      if m.hold = true ∧ (decide (m.motion = .locked) && m.inService && (s.fireOf h.house).gate) = false ∧ s.role h = .showing then
        s.notices.raised .shutter (.head h) none
      else s.notices := by
  rw [State.moved, State.rejudgeIdle_notices, State.rejudgeHold_notices]
  simp [State.holdCondition]

theorem State.Local.moved : State.Local h.house s (s.moved h m) :=
  ((State.Local.setMonAt s h m).trans (State.Local.rejudgeHold _ rfl)).trans (State.Local.rejudgeIdle _ rfl)

end

/-! ### The report of SLOW and of STOPPED (R125, R126, R128) -/

theorem State.motionReport_slow (slow : (s.mon h).motion = .slow) :
    s.motionReport h = if s.judged h then (s.raise .pictureLost (.head h) (some .slow)).setClaim h.house else s := by
  unfold State.motionReport
  rw [slow]

theorem State.motionReport_stopped (stopped : (s.mon h).motion = .stopped) :
    s.motionReport h = if s.judged h then s.halt h.house false else if s.role h = .tailing then s.tailEnd h else s := by
  unfold State.motionReport
  rw [stopped]

theorem State.not_judged_of_role (role : s.role h ≠ .showing) : ¬ s.judged h = true := fun judged => role (State.judged_iff.mp judged).2

/-! ### The end of a tail (R125) -/

section
variable (s : State) (h : Head)

theorem State.tailEnd_frame :
    { s.tailEnd h with monitors := s.monitors, lamps := s.lamps, drive := s.drive, slots := s.slots } = s :=
  (congrArg (fun t : State => { t with monitors := s.monitors, lamps := s.lamps, drive := s.drive, slots := s.slots })
    (State.assign_frame _ h .empty none) :).trans
    (congrArg (fun t : State => { t with monitors := s.monitors, lamps := s.lamps, drive := s.drive, slots := s.slots })
      (State.normalShutdown_frame _ h) :)

theorem State.tailEnd_notices : (s.tailEnd h).notices = s.notices := (congrArg State.notices (s.tailEnd_frame h) :)

theorem State.tailEnd_slot : (s.tailEnd h).slot h = { role := .empty, held := none } := by
  rw [State.tailEnd, State.assign_slot, if_pos rfl]

theorem State.tailEnd_lamp (x : Head) :
    (s.tailEnd h).lamp x = if x = h ∧ (s.lamp h).state ≠ .dark then (s.lamp h).darkAt s.ms else s.lamp x := by
  rw [State.tailEnd, State.assign_lamp, State.normalShutdown_lamp]
  rfl

theorem State.tailEnd_dark : ((s.tailEnd h).lamp h).state = .dark := by
  rw [State.tailEnd_lamp]
  split
  · rfl
  · rename_i dark
    simpa using dark

theorem State.tailEnd_contactor :
    ((s.tailEnd h).lamp h).contactor = ((s.lamp h).contactor && decide ((s.lamp h).state = .dark)) := by
  rw [State.tailEnd_lamp]
  by_cases dark : (s.lamp h).state = .dark <;> simp [dark]

theorem State.tailEnd_motor : ((s.tailEnd h).entry (.motor h)).value = .motor false := by
  rw [State.tailEnd, State.assign_entry, State.normalShutdown_value_ne (d := .motor h) _ nofun nofun nofun, State.writeDrive_value,
    if_pos rfl]

theorem State.tailEnd_mon (x : Head) : { (s.tailEnd h).mon x with idleTimer := (s.mon x).idleTimer } = s.mon x := by
  have shut : { ((s.writeDrive (.motor h) (.motor false)).normalShutdown h).mon x with idleTimer := (s.mon x).idleTimer } = s.mon x := by
    rw [State.normalShutdown_mon]
    split
    · rename_i same
      rw [same.1]; rfl
    · rfl
  exact (congrArg (fun m : Monitor => { m with idleTimer := (s.mon x).idleTimer })
    (State.assign_mon ((s.writeDrive (.motor h) (.motor false)).normalShutdown h) h x .empty none) :).trans shut

theorem State.tailEnd_idle : ((s.tailEnd h).mon h).idleTimer = none := by
  have dark := s.tailEnd_dark h
  unfold State.tailEnd State.assign at dark ⊢
  rw [State.rejudgeIdle_mon_same, if_neg]
  rw [State.rejudgeIdle_lamp] at dark
  rw [dark]
  exact fun lit => nomatch lit.1

end

/-! ### The slow and the stop timer (R53, R54) -/

/-- A halt found by a monitor's move is a halt of the house with the monitor as the move left it. -/
theorem State.HouseHalted.of_moved {m : Monitor} (house : h.house = k) (halted : (s.moved h m).HouseHalted t k)
    (others : s.SameHouse t (otherHouse k)) (tables : s.SameTables t) :
    (s.setMon h { t.mon h with idleTimer := (s.mon h).idleTimer }).HouseHalted t k where
  heads x e := by
    obtain ⟨motor, douser, slot, mon⟩ := halted.heads x e
    refine ⟨motor, douser, ?_, ?_⟩
    · rw [slot, State.moved_slot, State.moved_role]; rfl
    · by_cases same : x = h
      · subst same
        rw [State.setMon_mon_same]
      · rw [State.moved_mon_ne _ _ _ same] at mon
        rw [State.setMon_mon_ne _ _ same]
        exact mon
  lamps x e := by rw [halted.lamps x e, State.moved_lamp, State.moved_ms]; rfl
  sound := halted.sound
  engine := by rw [halted.engine, State.moved_eng]; rfl
  lights := by rw [halted.lights, State.moved_light]; rfl
  elsewhere := by
    obtain ⟨heads, rest⟩ := others
    refine ⟨⟨fun x e => ?_, rest⟩, tables⟩
    have ne : x ≠ h := fun same => by rw [same, house] at e; cases k <;> cases e
    obtain ⟨mon, lamp, slot⟩ := heads x e
    exact ⟨mon.trans (State.setMon_mon_ne _ _ ne).symm, lamp, slot⟩

/-- A report of SLOW moves no head, and of the drive table the DIM entry alone. -/
theorem State.motionReport_slow_keeps (slow : (s.mon h).motion = .slow) :
    (s.motionReport h).monitors = s.monitors ∧ (s.motionReport h).lamps = s.lamps ∧ (s.motionReport h).slots = s.slots ∧
      ∀ d, d ≠ .dim h.house → (s.motionReport h).entry d = s.entry d := by
  rw [State.motionReport_slow slow]
  split
  · refine ⟨by simp, by simp, by simp, fun d ne => ?_⟩
    rw [State.setClaim_entry_ne _ _ ne, State.raise_entry]
  · exact ⟨rfl, rfl, rfl, fun _ _ => rfl⟩

/-- The picture lost with the frames of the SHOWING head of a RUNNING house (R126). -/
theorem State.motionReport_lost (slow : (s.mon h).motion = .slow) (running : (s.eng h.house).state = .running)
    (showing : s.role h = .showing) :
    s.motionReport h = (s.raise .pictureLost (.head h) (some .slow)).setClaim h.house := by
  rw [State.motionReport_slow slow, if_pos (State.judged_iff.mpr ⟨running, showing⟩)]

/-- A monitor's move to SLOW keeps what is pending. -/
theorem State.motionReport_slow_pending (slow : (s.mon h).motion = .slow) {e : Event} (pending : s.notices.isPending e = true) :
    (s.motionReport h).notices.isPending e = true := by
  rw [State.motionReport_slow slow]
  split
  · rw [State.setClaim_notices, State.raise_notices, NoticeUnit.raised_isPending, pending, Bool.true_or]
  · exact pending

theorem State.slowExpiry_due {d : Nat} (locked : (s.mon h).motion = .locked) (timer : (s.mon h).slowTimer = some d) (reached : d ≤ s.now) :
    s.slowExpiry h = (s.moved h { s.mon h with motion := .slow, streak := 0, slowTimer := none }).motionReport h :=
  if_pos ⟨locked, due_some timer reached⟩

theorem State.stopExpiry_due {d : Nat} (moving : (s.mon h).motion = .runup ∨ (s.mon h).motion = .slow)
    (timer : (s.mon h).stopTimer = some d) (reached : d ≤ s.now) :
    s.stopExpiry h = (s.moved h (s.mon h).stopped).motionReport h :=
  if_pos ⟨moving, due_some timer reached⟩

/-- A report of STOPPED raises nothing. -/
theorem State.motionReport_stopped_notices (stopped : (s.mon h).motion = .stopped) : (s.motionReport h).notices = s.notices := by
  rw [State.motionReport_stopped stopped]
  split
  · exact State.halt_normal_notices _ _
  · split
    · exact State.tailEnd_notices _ _
    · rfl

/-- A report of STOPPED moves no more of the head's monitor than its idle timer. -/
theorem State.motionReport_stopped_mon (stopped : (s.mon h).motion = .stopped) :
    { (s.motionReport h).mon h with idleTimer := (s.mon h).idleTimer } = s.mon h := by
  rw [State.motionReport_stopped stopped]
  split
  · rw [State.halt_normal, State.setEng_mon, State.mon, State.setClaim_monitors]
    exact State.haltBase_mon s h.house false rfl
  · split
    · exact State.tailEnd_mon s h h
    · rfl

/-- Settles O18: each timer by its monitor's move and what the engine makes of the report. -/
theorem motionTimersExpire : Obligations.MotionTimersExpire := by
  refine ⟨fun s dt d h awake locked timer reached => ?_, fun s dt d h awake moving timer reached => ?_⟩
  · have quiet : (s.elapse dt).orders.restart ≠ .waiting := ne_of_eq_of_ne awake.2 nofun
    have made := State.slowExpiry_due (s := s.elapse dt) locked timer reached
    have away : State.Local h.house (s.elapse dt) ((s.elapse dt).slowExpiry h) := State.Local.slowExpiry _ h
    obtain ⟨t, ran, settles, -⟩ := event_chose (c := .slowTimerExpiry dt h) (f := fun t => t.slowExpiry h) awake rfl rfl
      (by rw [away.orders quiet]; exact ne_of_eq_of_ne awake.2 nofun)
    have sameHouse := settles.sameHouse away.house
    have sameTables := settles.sameTables (away.sameTables quiet)
    have moved := (s.elapse dt).moved_mon h { (s.elapse dt).mon h with motion := .slow, streak := 0, slowTimer := none }
    have notices := (s.elapse dt).moved_notices h { (s.elapse dt).mon h with motion := .slow, streak := 0, slowTimer := none }
    have others := fun x ne => (s.elapse dt).moved_mon_ne (x := x) h { (s.elapse dt).mon h with motion := .slow, streak := 0, slowTimer := none } ne
    rw [made] at settles
    have slow : (((s.elapse dt).moved h { (s.elapse dt).mon h with motion := .slow, streak := 0, slowTimer := none }).mon h).motion = .slow := by
      rw [moved]
    obtain ⟨monitors, lamps, slots, entries⟩ := State.motionReport_slow_keeps slow
    refine ⟨t, ran, ?_, fun hold showing => ?_, fun running showing => ?_, fun hidden => ?_, fun x => ⟨?_, ?_, fun ne => ?_⟩, fun d => ?_,
      sameHouse, sameTables⟩
    · rw [settles.mon, State.mon, monitors]
      exact moved.trans (by simp)
    · rw [settles.notices]
      refine State.motionReport_slow_pending slow ?_
      rw [notices, if_pos ⟨hold, rfl, showing⟩, NoticeUnit.raised_isPending]
      simp
    · rw [settles.notices, settles.eng, settles.light,
        State.motionReport_lost slow (by rw [State.moved_eng]; exact running) (by rw [State.moved_role]; exact showing)]
      refine ⟨?_, ?_, ?_⟩
      · rw [State.setClaim_notices, State.raise_notices, NoticeUnit.raised_isPending]
        simp
      · rw [State.setClaim_eng]
      · rw [State.setClaim_requests, State.raise_light, State.moved_light]
        rfl
    · rw [State.motionReport_slow slow, if_neg (State.not_judged_of_role (by rw [State.moved_role]; exact hidden))] at settles
      refine ⟨?_, ?_, ?_⟩
      · rw [settles.notices, notices, if_neg fun c => hidden c.2.2]; rfl
      · rw [settles.eng, State.moved_eng]; rfl
      · rw [settles.light, State.moved_light]; rfl
    · rw [settles.slot, State.slot, slots, State.moved_slots]; rfl
    · rw [settles.lamp, State.lamp, lamps, State.moved_lamps]; rfl
    · rw [settles.mon, State.mon, monitors]
      exact others x ne
    · by_cases dim : d = .dim h.house
      · exact .inr dim
      · left
        rw [settles.value, entries d dim, State.moved_entry]
        rfl
  · have quiet : (s.elapse dt).orders.restart ≠ .waiting := ne_of_eq_of_ne awake.2 nofun
    have made := State.stopExpiry_due (s := s.elapse dt) moving timer reached
    have away : State.Local h.house (s.elapse dt) ((s.elapse dt).stopExpiry h) := State.Local.stopExpiry _ h
    obtain ⟨t, ran, settles, -⟩ := event_chose (c := .stopTimerExpiry dt h) (f := fun t => t.stopExpiry h) awake rfl rfl
      (by rw [away.orders quiet]; exact ne_of_eq_of_ne awake.2 nofun)
    have sameHouse := settles.sameHouse away.house
    have sameTables := settles.sameTables (away.sameTables quiet)
    rw [made] at settles
    have moved := (s.elapse dt).moved_mon h ((s.elapse dt).mon h).stopped
    have stopped : (((s.elapse dt).moved h ((s.elapse dt).mon h).stopped).mon h).motion = .stopped := by rw [moved]; rfl
    have report := State.motionReport_stopped stopped
    refine ⟨t, ran, ?_, fun running showing => ?_, fun tailing => ?_, fun hidden untailed => ?_, sameHouse, sameTables⟩
    · rw [settles.mon]
      have kept := congrArg (fun m : Monitor => { m with idleTimer := (s.mon h).idleTimer }) (State.motionReport_stopped_mon stopped)
      rw [moved] at kept
      exact kept
    · have judged : ((s.elapse dt).moved h ((s.elapse dt).mon h).stopped).judged h = true :=
        State.judged_iff.mpr ⟨by rw [State.moved_eng]; exact running, by rw [State.moved_role]; exact showing⟩
      rw [report, if_pos judged] at settles
      have still : ((s.elapse dt).moved h ((s.elapse dt).mon h).stopped).orders.restart ≠ .waiting := by
        rw [(State.Local.moved (s.elapse dt) h ((s.elapse dt).mon h).stopped).orders quiet]
        exact quiet
      exact ((State.halt_houseHalted _ _ still).of_settles settles).of_moved rfl sameHouse sameTables
    · have unjudged := State.not_judged_of_role (s := (s.elapse dt).moved h ((s.elapse dt).mon h).stopped) (h := h)
        (by rw [State.moved_role]; show s.role h ≠ _; rw [tailing]; nofun)
      rw [report, if_neg unjudged, if_pos (by rw [State.moved_role]; exact tailing)] at settles
      refine ⟨?_, ?_, ?_, ?_, ?_⟩
      · rw [settles.slot, State.tailEnd_slot]
      · rw [settles.value, State.tailEnd_motor]
      · rw [settles.lamp, State.tailEnd_dark]
      · rw [settles.lamp, State.tailEnd_contactor, State.moved_lamp]; rfl
      · rw [settles.mon, State.tailEnd_idle]
    · have unjudged := State.not_judged_of_role (s := (s.elapse dt).moved h ((s.elapse dt).mon h).stopped) (h := h)
        (by rw [State.moved_role]; exact hidden)
      rw [report, if_neg unjudged, if_neg (by rw [State.moved_role]; exact untailed)] at settles
      refine ⟨?_, ?_, ?_, ?_⟩
      · rw [settles.lamp, State.moved_lamp]; rfl
      · rw [settles.slot, State.moved_slot]; rfl
      · rw [settles.notices, State.moved_notices, if_neg fun c => hidden c.2.2]; rfl
      · rw [settles.mon, moved]
        exact if_congr ⟨fun c => c.1, fun burning => ⟨burning, rfl, hidden⟩⟩ rfl rfl

/-! ### The service flag (R58, R59) -/

/-- A hold line that stands as its condition is left alone. -/
theorem State.rejudgeHold_same (same : (s.mon h).hold = s.holdCondition h) : s.rejudgeHold h = s := by
  unfold State.rejudgeHold
  dsimp only
  rw [if_neg (by rw [← same]; cases (s.mon h).hold <;> simp), ← same]
  exact s.setMon_self h

theorem State.rejudgeIdle_same (unlit : (s.lamp h).state ≠ .burning) (idle : (s.mon h).idleTimer = none) : s.rejudgeIdle h = s := by
  rw [State.rejudgeIdle_not_burning unlit, ← idle]
  exact s.setMon_self h

theorem State.enterService_eq (stopped : (s.mon h).motion = .stopped) (released : (s.mon h).hold = false)
    (idle : (s.mon h).idleTimer = none) (dark : (s.lamp h).state = .dark) :
    s.enterService h = s.setMon h { s.mon h with inService := true } := by
  have held : (s.setMon h { s.mon h with inService := true }).rejudgeHold h = s.setMon h { s.mon h with inService := true } :=
    State.rejudgeHold_same (by rw [State.setMon_mon_same]; simp [State.holdCondition, stopped, released])
  unfold State.enterService
  rw [held]
  exact State.rejudgeIdle_same (by rw [State.setMon_lamp, dark]; nofun) (by rw [State.setMon_mon_same]; exact idle)

/-- A head's monitor as it leaves service, before the engine is told (R58). -/
def State.withdrawn (s : State) (h : Head) : State :=
  (s.setMon h { (s.mon h).stopped with inService := false, lastPulse := none, idleTimer := none }).rejudgeHold h

section
variable (s : State) (h : Head)

theorem State.leaveService_eq :
    s.leaveService h =
      (if (s.mon h).motion = .stopped then s.withdrawn h else (s.withdrawn h).motionReport h).overrideShutdown h := rfl

theorem State.withdrawn_mon :
    (s.withdrawn h).mon h =
      { (s.mon h).stopped with inService := false, lastPulse := none, idleTimer := none, hold := false } := by
  rw [State.withdrawn, State.rejudgeHold_mon, if_pos rfl]
  simp [State.holdCondition]

theorem State.withdrawn_stopped : ((s.withdrawn h).mon h).motion = .stopped := by
  rw [State.withdrawn_mon]
  rfl

@[simp] theorem State.withdrawn_eng (k : House) : (s.withdrawn h).eng k = s.eng k := by simp [State.withdrawn]
@[simp] theorem State.withdrawn_role (x : Head) : (s.withdrawn h).role x = s.role x := by simp [State.withdrawn]

theorem State.withdrawn_shutter (hold : (s.mon h).hold = true) (showing : s.role h = .showing) :
    (s.withdrawn h).notices.isPending .shutter = true := by
  rw [State.withdrawn, State.rejudgeHold_shutter]
  refine .inr ⟨?_, ?_, showing⟩
  · rw [State.setMon_mon_same]; exact hold
  · simp [State.holdCondition, Monitor.stopped]

/-- A head that leaves service, told to the engine unless it stood already: its monitor is cleared, and nothing more is raised. -/
theorem State.withdrawn_told :
    let told := if (s.mon h).motion = .stopped then s.withdrawn h else (s.withdrawn h).motionReport h
    { told.mon h with idleTimer := none } = (s.withdrawn h).mon h ∧ told.notices = (s.withdrawn h).notices := by
  intro told
  have idle : ((s.withdrawn h).mon h).idleTimer = none := by rw [State.withdrawn_mon]
  have stopped := s.withdrawn_stopped h
  unfold told
  split
  · refine ⟨?_, rfl⟩
    rw [← idle]
  · have kept := State.motionReport_stopped_mon stopped
    rw [idle] at kept
    exact ⟨kept, State.motionReport_stopped_notices stopped⟩

end

theorem judgeSetupService_named {index : Byte} {value : Word} {v : Bool} (named : headOf index = some h) (flag : flagOf value.toNat = some v)
    (s : State) : judgeSetupService index value s = (s.setService h v, Reply.plain .done) := by
  unfold judgeSetupService
  rw [named]
  dsimp only
  rw [flag]

theorem setService_performs {dt : Nat} {src index : Byte} {value : Word} {after : State} {r : Result} (listens : s.Listens src)
    (judged : judgeSetupService index value (s.heard dt) = (after, Reply.plain r)) (calm : after.orders.restart = .clear) :
    s.Performs (.setupServiceFlag dt src index value) src 0x06 r [] after :=
  performs_of_judged (run := judgeSetupService index value) (.setup 5 index value) listens rfl (by simp [encodeOrder, Order.params]) judged calm

/-- Settles O19: the value, then the head taken out by what the engine makes of the report, or brought back by its flag alone. -/
theorem serviceFlagTakesHead : Obligations.ServiceFlagTakesHead := by
  intro s dt src index value listens
  have calm : (s.heard dt).orders.restart = .clear := listens.calm
  have quiet : (s.heard dt).orders.restart ≠ .waiting := by rw [calm]; nofun
  refine ⟨fun unnamed => ?_, fun h named => ⟨fun wrong => ?_, fun same => ?_, fun zero service => ?_, fun one out stopped released idle dark => ?_⟩⟩
  · refine setService_performs listens ?_ calm
    unfold judgeSetupService
    rw [unnamed]
  · refine setService_performs listens ?_ calm
    have none := flagOf_above wrong
    unfold judgeSetupService
    rw [named]
    dsimp only
    rw [none]
  · have flag : flagOf value.toNat = some (s.mon h).inService := by rw [same]; cases (s.mon h).inService <;> rfl
    refine setService_performs listens ((judgeSetupService_named named flag _).trans ?_) calm
    exact congrArg (fun t => (t, Reply.plain .done)) (if_pos rfl)
  · have flag : flagOf value.toNat = some false := by rw [zero]; rfl
    have away : State.Local h.house (s.heard dt) ((s.heard dt).setService h false) := State.Local.setService _ h false
    obtain ⟨t, ran, settles, answers⟩ := setService_performs listens (judgeSetupService_named named flag (s.heard dt))
      (by rw [away.orders quiet]; exact calm)
    have sameHouse := settles.sameHouse away.house
    have sameTables := settles.sameTables (away.sameTables quiet)
    have made : (s.heard dt).setService h false = (s.heard dt).leaveService h :=
      (if_neg (show (s.mon h).inService ≠ false by rw [service]; nofun)).trans (if_neg Bool.false_ne_true)
    rw [made, State.leaveService_eq] at settles
    obtain ⟨mon, notices⟩ := (s.heard dt).withdrawn_told h
    have stopped := (s.heard dt).withdrawn_stopped h
    refine ⟨t, ran, answers, ?_, ?_, ?_, ?_, ⟨?_, ?_, ?_⟩, fun hold showing => ?_, fun moving running showing => ?_, fun moving tailing => ?_,
      sameHouse, sameTables⟩
    · rw [settles.mon, State.overrideShutdown_mon, if_pos rfl, mon, State.withdrawn_mon]
      rfl
    · rw [settles.lamp, State.overrideShutdown_lamp, if_pos rfl]; rfl
    · rw [settles.lamp, State.overrideShutdown_lamp, if_pos rfl]; rfl
    · rw [settles.lamp, State.overrideShutdown_lamp, if_pos rfl]; rfl
    · rw [settles.value, State.overrideShutdown_value]; simp
    · rw [settles.value, State.overrideShutdown_value]; simp
    · rw [settles.value, State.overrideShutdown_value]; simp
    · rw [settles.notices, State.overrideShutdown_notices, notices]
      exact State.withdrawn_shutter (s.heard dt) h hold showing
    · have judged : ((s.heard dt).withdrawn h).judged h = true :=
        State.judged_iff.mpr ⟨by rw [State.withdrawn_eng]; exact running, by rw [State.withdrawn_role]; exact showing⟩
      rw [settles.eng, State.overrideShutdown_eng, if_neg (show ((s.heard dt).mon h).motion ≠ _ from moving), State.motionReport_stopped stopped,
        if_pos judged, State.halt_normal, State.setEng_eng_same, State.setClaim_eng]
      exact ⟨rfl, rfl⟩
    · have unjudged := State.not_judged_of_role (s := (s.heard dt).withdrawn h) (h := h)
        (by rw [State.withdrawn_role]; show s.role h ≠ _; rw [tailing]; nofun)
      rw [settles.slot, State.overrideShutdown_slot, if_neg (show ((s.heard dt).mon h).motion ≠ _ from moving),
        State.motionReport_stopped stopped, if_neg unjudged, if_pos (by rw [State.withdrawn_role]; exact tailing), State.tailEnd_slot]
  · have flag : flagOf value.toNat = some true := by rw [one]; rfl
    have made : (s.heard dt).setService h true = (s.heard dt).setMon h { s.mon h with inService := true } :=
      ((if_neg (show (s.mon h).inService ≠ true by rw [out]; nofun)).trans (if_pos rfl)).trans
        (State.enterService_eq (s := s.heard dt) stopped released idle dark)
    exact setService_performs listens ((judgeSetupService_named named flag _).trans (congrArg (fun t => (t, Reply.plain .done)) made)) calm

end Sys2Proof.Machine
end

section
/-! SUPPORT. What the changeover engine leaves of the frames: `EngineSide`, kept by every operation of the engine to any depth. -/

namespace Sys2Proof.Machine

/-- What the engine leaves: the moment, the fire unit, and of each monitor all but the idle timer. -/
structure State.EngineSide (s t : State) : Prop where
  now : t.now = s.now
  fire : t.fire = s.fire
  monitors : ∀ h, { t.mon h with idleTimer := (s.mon h).idleTimer } = s.mon h

namespace State.EngineSide

variable {s t u : State} {k : House} {h : Head}

theorem trans (a : EngineSide s t) (b : EngineSide t u) : EngineSide s u where
  now := b.now.trans a.now
  fire := b.fire.trans a.fire
  monitors h := by
    rw [← a.monitors h, ← b.monitors h]

/-- A state with the moment, the fire unit and the monitors it had. -/
theorem of_monitors (now : t.now = s.now) (fire : t.fire = s.fire) (mons : ∀ x, t.mon x = s.mon x) : EngineSide s t where
  now := now
  fire := fire
  monitors x := by rw [mons x]

theorem refl (s : State) : EngineSide s s := of_monitors rfl rfl fun _ => rfl

theorem mon (a : EngineSide s t) (h : Head) : t.mon h = { s.mon h with idleTimer := (t.mon h).idleTimer } := by
  rw [← a.monitors h]

theorem counter (a : EngineSide s t) (h : Head) : (t.mon h).counter = (s.mon h).counter := (congrArg Monitor.counter (a.monitors h) :)
theorem fps (a : EngineSide s t) (h : Head) : (t.mon h).fps = (s.mon h).fps := (congrArg Monitor.fps (a.monitors h) :)
theorem motion (a : EngineSide s t) (h : Head) : (t.mon h).motion = (s.mon h).motion := (congrArg Monitor.motion (a.monitors h) :)

theorem fireOf (a : EngineSide s t) (k : House) : t.fireOf k = s.fireOf k := by
  unfold State.fireOf
  rw [a.fire]

/-! ### The state's operations -/

theorem setSlot (s : State) (h : Head) (x : Slot) : EngineSide s (s.setSlot h x) := of_monitors rfl rfl fun _ => rfl
theorem setEng (s : State) (k : House) (e : Engine) : EngineSide s (s.setEng k e) := of_monitors rfl rfl fun _ => rfl
theorem setLamp (s : State) (h : Head) (l : Lamp) : EngineSide s (s.setLamp h l) := of_monitors rfl rfl fun _ => rfl
theorem writeDrive (s : State) (d : DriveId) (v : DriveVal) : EngineSide s (s.writeDrive d v) := of_monitors rfl rfl fun _ => rfl

theorem setRequests (s : State) (k : House) (r : Requests) : EngineSide s (s.setRequests k r) :=
  of_monitors (by simp) (by simp) fun x => by simp

theorem raise (s : State) (e : Event) (c : Cause) (code : Option Code) : EngineSide s (s.raise e c code) :=
  of_monitors (by simp) (by simp) fun x => by simp

theorem rejudgeIdle (s : State) (h : Head) : EngineSide s (s.rejudgeIdle h) where
  now := by simp
  fire := by simp
  monitors := s.rejudgeIdle_mon h

theorem assign (s : State) (h : Head) (r : Role) (i : Option Nat) : EngineSide s (s.assign h r i) :=
  (setSlot s h _).trans (rejudgeIdle _ h)

theorem setRole (s : State) (h : Head) (r : Role) : EngineSide s (s.setRole h r) := assign s h r _

theorem normalShutdown (s : State) (h : Head) : EngineSide s (s.normalShutdown h) where
  now := by simp
  fire := by simp
  monitors x := by
    rw [State.normalShutdown_mon]
    split
    · rename_i same
      rw [same.1]
    · rfl

theorem strikeRequest (s : State) (h : Head) : EngineSide s (s.strikeRequest h) := by
  unfold State.strikeRequest
  dsimp only
  split
  · exact refl s
  · split
    · exact ((setLamp s h _).trans (rejudgeIdle _ h)).trans (raise ..)
    · exact ((writeDrive s _ _).trans (setLamp _ h _)).trans (rejudgeIdle _ h)

/-! ### The engine's parts -/

theorem setClaim (k : House) (s : State) : EngineSide s (s.setClaim k) := (setEng s k _).trans (setRequests _ k _)

theorem withdrawClaim (k : House) (s : State) : EngineSide s (s.withdrawClaim k) := (setEng s k _).trans (setRequests _ k _)

theorem placeCue (k : House) (s : State) : EngineSide s (s.placeCue k) := by
  unfold State.placeCue
  split
  · exact setRequests s k _
  · exact refl s

theorem tailEnd (s : State) (h : Head) : EngineSide s (s.tailEnd h) :=
  ((writeDrive s _ _).trans (normalShutdown _ h)).trans (assign _ h _ _)

theorem tailJudge (s : State) (h : Head) : EngineSide s (s.tailJudge h) := by
  unfold State.tailJudge
  split
  · split
    · exact tailEnd s h
    · exact refl s
  · exact refl s

theorem endPicture (s : State) (h : Head) : EngineSide s (s.endPicture h) :=
  ((writeDrive s _ _).trans (writeDrive _ _ _)).trans (setRole _ h _)

theorem darken (s : State) (h : Head) : EngineSide s (s.darken h) :=
  ((((endPicture s h).trans (setEng _ _ _)).trans (raise ..)).trans (setClaim _ _)).trans (tailJudge _ h)

theorem endReelInterval (s : State) (h : Head) : EngineSide s (s.endReelInterval h) :=
  ((((endPicture s h).trans (setRequests _ _ _)).trans (setEng _ _ _)).trans (raise ..)).trans (tailJudge _ h)

theorem endReelShow (s : State) (h : Head) : EngineSide s (s.endReelShow h) :=
  ((((endPicture s h).trans (setRequests _ _ _)).trans (setEng _ _ _)).trans (raise ..)).trans (tailJudge _ h)

theorem showPicture (s : State) (h : Head) : EngineSide s (s.showPicture h) := (writeDrive s _ _).trans (writeDrive _ _ _)

theorem runupIdle (k : House) (s : State) : EngineSide s (s.runupIdle k) := setEng s k _

theorem startHeadBase (s : State) (h : Head) (p : Purpose) : EngineSide s (s.startHeadBase h p) := by
  have asked := (strikeRequest s h).trans (writeDrive _ (.motor h) (.motor true))
  unfold State.startHeadBase
  dsimp only
  split
  · exact asked.trans (setEng _ _ _)
  · exact (asked.trans (setRole _ h _)).trans (setEng _ _ _)

/-! ### The engine, to any depth -/

/-- A judgement leaves what the engine leaves. -/
def Stays (J : Judge) : Prop := ∀ (h : Head) (s : State), EngineSide s (J h s)

theorem swap {J : Judge} (j : Stays J) (s : State) (h : Head) : EngineSide s (Machine.swap J h s) := by
  have up := ((writeDrive s (.douser h.partner) (.douser false)).trans (showPicture _ h)).trans (setRole _ h .showing)
  unfold Machine.swap
  dsimp only
  split
  · exact ((((((up.trans (setRole _ _ _)).trans (setEng _ _ _)).trans (placeCue _ _)).trans (setEng _ _ _)).trans
      (withdrawClaim _ _)).trans (j _ _)).trans (tailJudge _ _)
  · exact (((((up.trans (setEng _ _ _)).trans (placeCue _ _)).trans (setEng _ _ _)).trans (withdrawClaim _ _)).trans
      (j _ _)).trans (tailJudge _ _)

theorem enterRunning {J : Judge} (j : Stays J) (s : State) (h : Head) : EngineSide s (Machine.enterRunning J h s) :=
  ((((((showPicture s h).trans (setRole _ _ _)).trans (setEng _ _ _)).trans (withdrawClaim _ _)).trans (placeCue _ _)).trans
    (setEng _ _ _)).trans (j _ _)

theorem incomingReady {J : Judge} (j : Stays J) (s : State) (h : Head) : EngineSide s (Machine.incomingReady J h s) := by
  unfold Machine.incomingReady
  dsimp only
  split
  · exact (runupIdle _ s).trans (swap j _ h)
  · exact runupIdle _ s

theorem startIncoming {J : Judge} (j : Stays J) (s : State) (h : Head) : EngineSide s (Machine.startIncoming J h s) := by
  unfold Machine.startIncoming
  dsimp only
  split
  · exact (startHeadBase s h _).trans (incomingReady j _ h)
  · exact startHeadBase s h _

theorem resumeReady {J : Judge} (j : Stays J) (s : State) (h : Head) : EngineSide s (Machine.resumeReady J h s) := by
  have up := ((runupIdle h.house s).trans (showPicture _ h)).trans (withdrawClaim h.house _)
  have back := fun e => (up.trans (setEng _ h.house e)).trans (j h _)
  unfold Machine.resumeReady
  dsimp only
  split
  · exact (back _).trans (startIncoming j _ _)
  · exact back _

theorem headReady {J : Judge} (j : Stays J) (s : State) (h : Head) : EngineSide s (Machine.headReady J h s) := by
  unfold Machine.headReady
  dsimp only
  split
  · split
    · exact (runupIdle _ s).trans (enterRunning j _ h)
    · exact incomingReady j s h
    · exact resumeReady j s h
    · exact (setEng s _ _).trans (swap j _ h)
    · exact refl s
  · split
    · exact (showPicture s h).trans (withdrawClaim _ _)
    · split
      · exact swap j s h
      · exact refl s
    · exact refl s

theorem takeMotor {J : Judge} (j : Stays J) (k : House) (s : State) : EngineSide s (Machine.takeMotor J k s) := by
  unfold Machine.takeMotor
  dsimp only
  split
  · exact (setEng s k _).trans (startIncoming j _ _)
  · exact (setEng s k _).trans (raise ..)
  · exact (setEng s k _).trans (raise ..)
  · exact setEng s k _

theorem takeChange {J : Judge} (j : Stays J) (k : House) (s : State) : EngineSide s (Machine.takeChange J k s) := by
  unfold Machine.takeChange
  dsimp only
  split
  · exact (setEng s k _).trans (swap j _ _)
  · exact ((setEng s k _).trans (setEng _ k _)).trans (raise ..)

theorem strikeStep (s : State) (h : Head) : EngineSide s (Machine.strikeStep h s) := by
  unfold Machine.strikeStep
  dsimp only
  split
  · split
    · exact (setEng s _ _).trans (strikeRequest _ _)
    · exact (setEng s _ _).trans (raise ..)
    · exact (setEng s _ _).trans (raise ..)
    · exact setEng s _ _
  · exact refl s

theorem motorStep {J : Judge} (j : Stays J) (s : State) (h : Head) : EngineSide s (Machine.motorStep J h s) := by
  unfold Machine.motorStep
  dsimp only
  split
  · exact (raise ..).trans (takeMotor j _ _)
  · exact refl s

theorem changeStep {J : Judge} (j : Stays J) (s : State) (h : Head) : EngineSide s (Machine.changeStep J h s) := by
  unfold Machine.changeStep
  dsimp only
  split
  · exact (raise ..).trans (takeChange j _ _)
  · exact refl s

theorem lastStep (s : State) (h : Head) : EngineSide s (Machine.lastStep h s) := by
  unfold Machine.lastStep
  dsimp only
  split
  · split
    · exact endReelShow s h
    · split
      · exact endReelInterval s h
      · exact darken s h
  · exact refl s

theorem judgeStep {f : State → State} (h : Head) (l : ∀ s, EngineSide s (f s)) (s : State) : EngineSide s (Machine.judgeStep h f s) := by
  unfold Machine.judgeStep
  split
  · exact l s
  · exact refl s

theorem judgeWith {J : Judge} (j : Stays J) : Stays (Machine.judgeWith J) := fun h s =>
  (((judgeStep h (fun s => strikeStep s h) s).trans (judgeStep h (fun s => motorStep j s h) _)).trans
    (judgeStep h (fun s => changeStep j s h) _)).trans (judgeStep h (fun s => lastStep s h) _)

theorem judge : ∀ n, Stays (Machine.judge n)
  | 0 => fun _ s => refl s
  | n + 1 => judgeWith (judge n)

theorem judgeFrames : Stays Machine.judgeFrames := judge 4

/-! ### The engine's events -/

theorem frameEvent (s : State) (h : Head) : EngineSide s (s.frameEvent h) := by
  unfold State.frameEvent
  split
  · exact judgeFrames h s
  · exact tailJudge s h
  · exact refl s

theorem halt (s : State) (k : House) : EngineSide s (s.halt k false) := by
  have stop : ∀ (s : State) h, EngineSide s ((s.writeDrive (.douser h) (.douser false)).writeDrive (.motor h) (.motor false)) :=
    fun s h => (writeDrive s _ _).trans (writeDrive _ _ _)
  have unstart : ∀ (s : State) h, EngineSide s (s.unstart h) := fun s h => by
    unfold State.unstart
    split
    · exact setRole s h _
    · exact refl s
  rw [State.halt_eq]
  exact ((((((((stop s _).trans (stop _ _)).trans (writeDrive _ _ _)).trans (normalShutdown _ _)).trans (normalShutdown _ _)).trans
    (runupIdle k _)).trans (unstart _ _)).trans (unstart _ _)).trans ((setClaim k _).trans (setEng _ k _))

theorem motionReport (s : State) (h : Head) : EngineSide s (s.motionReport h) := by
  unfold State.motionReport
  split
  · split
    · exact headReady judgeFrames s h
    · exact refl s
  · split
    · exact (raise ..).trans (setClaim _ _)
    · exact refl s
  · split
    · exact halt s _
    · split
      · exact tailEnd s h
      · exact refl s
  · exact refl s

end State.EngineSide

end Sys2Proof.Machine
end

section
/-! SUPPORT. A frame pulse (R47 to R52): accepted, judged as a frame event, and then by the motion state it finds. -/

namespace Sys2Proof.Machine

variable {s t u : State} {k : House} {h : Head}

/-! ### A raise moves no monitor, and no monitor a raise -/

theorem State.countLoop_setMon (s : State) (h : Head) (m : Monitor) (f : LoopCounters → LoopCounters) :
    (s.setMon h m).countLoop f = (s.countLoop f).setMon h m := by
  unfold State.countLoop
  by_cases search : s.loop.state = .search
  · exact (if_pos search).trans (congrArg (fun t : State => t.setMon h m) (if_pos search).symm)
  · refine (if_neg search).trans (Eq.trans ?_ (congrArg (fun t : State => t.setMon h m) (if_neg search).symm))
    rfl

theorem State.requestStart_setMon (s : State) (h : Head) (m : Monitor) : (s.setMon h m).requestStart = s.requestStart.setMon h m := by
  unfold State.requestStart
  by_cases waiting : s.orders.restart = .waiting
  · refine (if_pos waiting).trans (Eq.trans ?_ (congrArg (fun t : State => t.setMon h m) (if_pos waiting).symm))
    rfl
  · exact (if_neg waiting).trans (congrArg (fun t : State => t.setMon h m) (if_neg waiting).symm)

theorem State.makeRoom_setMon (s : State) (h : Head) (m : Monitor) : (s.setMon h m).makeRoom = s.makeRoom.setMon h m := by
  have dropped : ∀ (l : LoopUnit) f, ((s.setMon h m).setLoop l).countLoop f = ((s.setLoop l).countLoop f).setMon h m :=
    fun l f => State.countLoop_setMon (s.setLoop l) h m f
  unfold State.makeRoom
  simp only [State.setMon_loop, dropped, State.requestStart_setMon]
  split
  · rfl
  · split <;> rfl

theorem State.queueNotice_setMon (s : State) (h : Head) (m : Monitor) (c : NoticeContents) :
    (s.setMon h m).queueNotice c = (s.queueNotice c).setMon h m := by
  unfold State.queueNotice State.enqueue
  simp only [State.setMon_loop, State.makeRoom_setMon]
  split <;> rfl

theorem State.raise_setMon (s : State) (h : Head) (m : Monitor) (e : Event) (c : Cause) (code : Option Code) :
    (s.setMon h m).raise e c code = (s.raise e c code).setMon h m := by
  have queued : ∀ (n : NoticeUnit) x, ((s.setMon h m).setNotices n).queueNotice x = ((s.setNotices n).queueNotice x).setMon h m :=
    fun n x => State.queueNotice_setMon (s.setNotices n) h m x
  unfold State.raise
  simp only [State.setMon_notices, queued]
  split <;> rfl

theorem State.setMon_setMon (s : State) (h : Head) (m n : Monitor) : (s.setMon h m).setMon h n = s.setMon h n := by
  unfold State.setMon
  rw [PerHead.set_set]

/-- A monitor's move: the monitor as it stands then, and SHUTTER when its hold line releases a SHOWING head. -/
theorem State.moved_eq (s : State) (h : Head) (m : Monitor) :
    s.moved h m =
      if m.hold = true ∧ (decide (m.motion = .locked) && m.inService && (s.fireOf h.house).gate) = false ∧ s.role h = .showing then
        (s.setMon h ((s.moved h m).mon h)).raise .shutter (.head h) none
      else s.setMon h ((s.moved h m).mon h) := by
  have idle : ∀ t : State, t.rejudgeIdle h = t.setMon h ((t.rejudgeIdle h).mon h) := fun t => by
    by_cases burning : (t.lamp h).state = .burning
    · rw [State.rejudgeIdle_burning burning, State.setMon_mon_same]
    · rw [State.rejudgeIdle_not_burning burning, State.setMon_mon_same]
  conv_lhs => rw [State.moved, idle]
  rw [← State.moved]
  unfold State.rejudgeHold
  dsimp only
  simp only [State.setMon_mon_same, State.setMon_role, State.setMon_setMon, Bool.and_eq_true, Bool.not_eq_true', beq_iff_eq, and_assoc]
  have cond : (s.setMon h m).holdCondition h = (decide (m.motion = .locked) && m.inService && (s.fireOf h.house).gate) := by
    simp [State.holdCondition]
  rw [cond]
  split
  · rw [State.raise_setMon, State.setMon_setMon, ← State.raise_setMon]
  · rw [State.setMon_setMon]

/-! ### An accepted pulse (R47, R48, R50 to R52) -/

/-- A monitor after a pulse accepted and judged, its hold line and idle timer aside. -/
def Monitor.pulsed (m : Monitor) (now : Nat) : Monitor := (m.accepted now).judgePulse now (m.pulseInterval now)

/-- The state after a pulse's frame event, the pulse accepted (R48; log entry 18). -/
def State.framed (s : State) (h : Head) : State := (s.setMon h ((s.mon h).accepted s.now)).frameEvent h

theorem Monitor.judgePulse_idle (m : Monitor) (i : Option Nat) (now iv : Nat) :
    Monitor.judgePulse { m with idleTimer := i } now iv = { m.judgePulse now iv with idleTimer := i } := by
  unfold Monitor.judgePulse
  dsimp only
  split
  · rfl
  · unfold Monitor.pulseRising
    split
    · split <;> rfl
    · rfl
  · unfold Monitor.pulseRising
    split
    · split <;> rfl
    · rfl
  · unfold Monitor.pulseLocked
    split <;> rfl

theorem State.framed_side (s : State) (h : Head) : State.EngineSide (s.setMon h ((s.mon h).accepted s.now)) (s.framed h) :=
  .frameEvent _ h

theorem State.framed_mon (s : State) (h : Head) :
    (s.framed h).mon h = { (s.mon h).accepted s.now with idleTimer := ((s.framed h).mon h).idleTimer } := by
  have kept := (s.framed_side h).mon h
  rw [State.setMon_mon_same] at kept
  exact kept

theorem State.framed_judged (s : State) (h : Head) :
    ((s.framed h).mon h).judgePulse s.now ((s.mon h).pulseInterval s.now) =
      { (s.mon h).pulsed s.now with idleTimer := ((s.framed h).mon h).idleTimer } := by
  rw [State.framed_mon, Monitor.judgePulse_idle]
  rfl

theorem State.framed_motion (s : State) (h : Head) : ((s.framed h).mon h).motion = (s.mon h).motion := by
  rw [State.framed_mon]
  rfl

/-- A pulse that leaves the motion state alone brings nothing after its frame event but the monitor's own. -/
theorem State.acceptPulse_still (still : ((s.mon h).pulsed s.now).motion = (s.mon h).motion) :
    s.acceptPulse h =
      (s.framed h).setMon h { (s.mon h).pulsed s.now with idleTimer := ((s.framed h).mon h).idleTimer } := by
  rw [← State.framed_judged]
  refine if_pos ?_
  show (((s.framed h).mon h).judgePulse s.now ((s.mon h).pulseInterval s.now)).motion = ((s.framed h).mon h).motion
  rw [State.framed_judged, State.framed_motion]
  exact still

/-- A pulse that moves the motion state is reported to the engine after its frame event. -/
theorem State.acceptPulse_moves (moves : ((s.mon h).pulsed s.now).motion ≠ (s.mon h).motion) :
    s.acceptPulse h =
      ((s.framed h).moved h { (s.mon h).pulsed s.now with idleTimer := ((s.framed h).mon h).idleTimer }).motionReport h := by
  rw [← State.framed_judged]
  refine if_neg ?_
  show ¬ (((s.framed h).mon h).judgePulse s.now ((s.mon h).pulseInterval s.now)).motion = ((s.framed h).mon h).motion
  rw [State.framed_judged, State.framed_motion]
  exact moves

/-- The monitor after an accepted pulse: judged, its hold line judged anew when the motion state has moved. -/
theorem State.acceptPulse_mon (s : State) (h : Head) :
    ∃ idle, (s.acceptPulse h).mon h =
      { (s.mon h).pulsed s.now with
        hold :=
          if ((s.mon h).pulsed s.now).motion = (s.mon h).motion then ((s.mon h).pulsed s.now).hold
          else decide (((s.mon h).pulsed s.now).motion = .locked) && ((s.mon h).pulsed s.now).inService && (s.fireOf h.house).gate
        idleTimer := idle } := by
  by_cases still : ((s.mon h).pulsed s.now).motion = (s.mon h).motion
  · rw [State.acceptPulse_still still, State.setMon_mon_same, if_pos still]
    exact ⟨_, rfl⟩
  · rw [State.acceptPulse_moves still, if_neg still, (State.EngineSide.motionReport _ h).mon h, State.moved_mon, (s.framed_side h).fireOf]
    exact ⟨_, rfl⟩

/-- An accepted pulse leaves of the other heads' monitors all but the idle timers. -/
theorem State.acceptPulse_mon_ne (s : State) {h x : Head} (ne : x ≠ h) :
    { (s.acceptPulse h).mon x with idleTimer := (s.mon x).idleTimer } = s.mon x := by
  have framed := (s.framed_side h).monitors x
  rw [State.setMon_mon_ne _ _ ne] at framed
  by_cases still : ((s.mon h).pulsed s.now).motion = (s.mon h).motion
  · rw [State.acceptPulse_still still, State.setMon_mon_ne _ _ ne]
    exact framed
  · rw [State.acceptPulse_moves still]
    have report := (State.EngineSide.motionReport
      ((s.framed h).moved h { (s.mon h).pulsed s.now with idleTimer := ((s.framed h).mon h).idleTimer }) h).monitors x
    rw [State.moved_mon_ne _ _ _ ne] at report
    rw [← framed, ← report]

/-- A pulse on a STOPPED head leaves no idle timer running (R60). -/
theorem State.acceptPulse_stopped_idle (stopped : (s.mon h).motion = .stopped) : ((s.acceptPulse h).mon h).idleTimer = none := by
  have pulsed : ((s.mon h).pulsed s.now).motion = .runup := by
    unfold Monitor.pulsed Monitor.judgePulse
    rw [show ((s.mon h).accepted s.now).motion = .stopped from stopped]
    rfl
  have moved := State.moved_mon (s.framed h) h { (s.mon h).pulsed s.now with idleTimer := ((s.framed h).mon h).idleTimer }
  have runup : (((s.framed h).moved h
      { (s.mon h).pulsed s.now with idleTimer := ((s.framed h).mon h).idleTimer }).mon h).motion = .runup := by
    rw [moved]; exact pulsed
  rw [State.acceptPulse_moves (by rw [pulsed, stopped]; nofun)]
  unfold State.motionReport
  rw [runup]
  dsimp only
  rw [moved]
  exact if_neg fun c => by rw [show ((s.mon h).pulsed s.now).motion = _ from pulsed] at c; cases c.2.1

/-! ### What a pulse makes of its monitor (R50 to R52) -/

section
variable {m : Monitor} {now p : Nat}

theorem Monitor.pulseInterval_some (last : m.lastPulse = some p) : m.pulseInterval now = now - p := by
  unfold Monitor.pulseInterval
  rw [last]

/-- In STOPPED a pulse begins the run-up (R50). -/
theorem Monitor.pulsed_stopped (stopped : m.motion = .stopped) (now : Nat) :
    m.pulsed now =
      { m with
        lastPulse := some now, counter := min (m.counter + 1) Config.maxFrames, motion := .runup, streak := 0, slowTimer := none
        stopTimer := some (now + m.stopLimit * 10) } := by
  unfold Monitor.pulsed Monitor.judgePulse
  rw [show (m.accepted now).motion = .stopped from stopped]
  rfl

/-- In RUNUP and SLOW a pulse is judged against the band (R51). -/
theorem Monitor.pulsed_rising (rising : m.motion = .runup ∨ m.motion = .slow) (last : m.lastPulse = some p) :
    m.pulsed now = (m.accepted now).pulseRising now (now - p) := by
  unfold Monitor.pulsed Monitor.judgePulse
  rw [Monitor.pulseInterval_some last]
  obtain e | e := rising <;> rw [show (m.accepted now).motion = _ from e]

/-- In LOCKED a pulse is judged against the band's upper end (R52). -/
theorem Monitor.pulsed_locked (locked : m.motion = .locked) (last : m.lastPulse = some p) :
    m.pulsed now = (m.accepted now).pulseLocked now (now - p) := by
  unfold Monitor.pulsed Monitor.judgePulse
  rw [Monitor.pulseInterval_some last, show (m.accepted now).motion = .locked from locked]

theorem inBand_iff {fps iv : Nat} :
    inBand fps iv = true ↔ 10000 / fps - 10000 / fps / 20 ≤ iv ∧ iv ≤ 10000 / fps + 10000 / fps / 20 := decide_eq_true_iff

theorem aboveBand_iff {fps iv : Nat} : aboveBand fps iv = true ↔ 10000 / fps + 10000 / fps / 20 < iv := decide_eq_true_iff

/-- A pulse in RUNUP or SLOW, by its interval (R51). -/
theorem Monitor.pulsed_rising_effects (rising : m.motion = .runup ∨ m.motion = .slow) (last : m.lastPulse = some p) :
    let tn := 10000 / m.fps
    let band := tn - tn / 20 ≤ now - p ∧ now - p ≤ tn + tn / 20
    (m.pulsed now).interval = some (now - p) ∧ (m.pulsed now).overspeed = m.overspeed ∧
      (band → m.streak + 1 ≠ 8 → (m.pulsed now).motion = m.motion ∧ (m.pulsed now).streak = m.streak + 1 ∧
        (m.pulsed now).slowTimer = m.slowTimer) ∧
      (band → m.streak + 1 = 8 → (m.pulsed now).motion = .locked ∧ (m.pulsed now).streak = 8 ∧
        (m.pulsed now).slowTimer = some (now + (tn + tn / 4))) ∧
      (¬ band → (m.pulsed now).motion = m.motion ∧ (m.pulsed now).streak = 0 ∧ (m.pulsed now).slowTimer = m.slowTimer) := by
  intro tn band
  have same : inBand (m.accepted now).fps (now - p) = true ↔ band := inBand_iff
  rw [Monitor.pulsed_rising rising last]
  unfold Monitor.pulseRising
  by_cases inside : band
  · rw [if_pos (same.mpr inside)]
    by_cases full : m.streak + 1 = 8
    · rw [if_pos (show (m.accepted now).streak + 1 = 8 from full)]
      exact ⟨rfl, rfl, fun _ short => absurd full short, fun _ _ => ⟨rfl, rfl, rfl⟩, fun outside => absurd inside outside⟩
    · rw [if_neg (show ¬ (m.accepted now).streak + 1 = 8 from full)]
      exact ⟨rfl, rfl, fun _ _ => ⟨rfl, rfl, rfl⟩, fun _ other => absurd other full, fun outside => absurd inside outside⟩
  · rw [if_neg (mt same.mp inside)]
    exact ⟨rfl, rfl, fun within => absurd within inside, fun within => absurd within inside, fun _ => ⟨rfl, rfl, rfl⟩⟩

/-- A pulse in LOCKED, by its interval (R52). -/
theorem Monitor.pulsed_locked_effects (locked : m.motion = .locked) (last : m.lastPulse = some p) :
    let tn := 10000 / m.fps
    let band := tn - tn / 20 ≤ now - p ∧ now - p ≤ tn + tn / 20
    (m.pulsed now).interval = some (now - p) ∧
      (tn + tn / 20 < now - p → (m.pulsed now).motion = .slow ∧ (m.pulsed now).streak = 0 ∧ (m.pulsed now).slowTimer = none ∧
        (m.pulsed now).overspeed = m.overspeed) ∧
      (¬ tn + tn / 20 < now - p → (m.pulsed now).motion = .locked ∧ (m.pulsed now).streak = m.streak ∧
        (m.pulsed now).slowTimer = some (now + (tn + tn / 4)) ∧
        (m.pulsed now).overspeed = if band then m.overspeed else min (m.overspeed + 1) 65535) := by
  intro tn band
  have same : aboveBand (m.accepted now).fps (now - p) = true ↔ tn + tn / 20 < now - p := aboveBand_iff
  have inside : inBand (m.accepted now).fps (now - p) = true ↔ band := inBand_iff
  rw [Monitor.pulsed_locked locked last]
  unfold Monitor.pulseLocked
  by_cases above : tn + tn / 20 < now - p
  · rw [if_pos (same.mpr above)]
    exact ⟨rfl, fun _ => ⟨rfl, rfl, rfl, rfl⟩, fun below => absurd above below⟩
  · rw [if_neg (mt same.mp above)]
    exact ⟨rfl, fun beyond => absurd beyond above, fun _ => ⟨locked, rfl, rfl, if_congr inside rfl rfl⟩⟩

/-- What no pulse moves, and what every accepted pulse makes. -/
theorem Monitor.pulsed_kept (m : Monitor) (now : Nat) :
    (m.pulsed now).counter = min (m.counter + 1) Config.maxFrames ∧ (m.pulsed now).lastPulse = some now ∧
      (m.pulsed now).stopTimer = some (now + m.stopLimit * 10) ∧ (m.pulsed now).hold = m.hold ∧
      (m.pulsed now).inService = m.inService ∧ (m.pulsed now).fps = m.fps ∧ (m.pulsed now).stopLimit = m.stopLimit ∧
      (m.pulsed now).idleLimit = m.idleLimit := by
  have rising : ∀ iv, let r := (m.accepted now).pulseRising now iv
      r.counter = min (m.counter + 1) Config.maxFrames ∧ r.lastPulse = some now ∧ r.stopTimer = some (now + m.stopLimit * 10) ∧
        r.hold = m.hold ∧ r.inService = m.inService ∧ r.fps = m.fps ∧ r.stopLimit = m.stopLimit ∧ r.idleLimit = m.idleLimit := fun iv => by
    unfold Monitor.pulseRising
    dsimp only
    split
    · split <;> exact ⟨rfl, rfl, rfl, rfl, rfl, rfl, rfl, rfl⟩
    · exact ⟨rfl, rfl, rfl, rfl, rfl, rfl, rfl, rfl⟩
  unfold Monitor.pulsed Monitor.judgePulse
  split
  · exact ⟨rfl, rfl, rfl, rfl, rfl, rfl, rfl, rfl⟩
  · exact rising _
  · exact rising _
  · unfold Monitor.pulseLocked
    split <;> exact ⟨rfl, rfl, rfl, rfl, rfl, rfl, rfl, rfl⟩

end

/-- A pulse on a head out of service, or too soon after the last, is bounce (R47, R58). -/
theorem State.pulse_ignored (ignored : (s.mon h).inService = false ∨ ∃ p, (s.mon h).lastPulse = some p ∧ s.now - p < 100) :
    s.pulse h = s := by
  refine if_pos ?_
  obtain out | ⟨p, last, soon⟩ := ignored
  · rw [out]; rfl
  · unfold Monitor.isBounce
    rw [last]
    simp only [Bool.or_eq_true, decide_eq_true_eq]
    exact .inr soon

theorem State.pulse_accepted (service : (s.mon h).inService = true) (apart : ∀ p, (s.mon h).lastPulse = some p → 100 ≤ s.now - p) :
    s.pulse h = s.acceptPulse h := by
  refine if_neg ?_
  unfold Monitor.isBounce
  rw [service]
  split
  · rename_i p last
    simp [Config.bounceTenths, Nat.not_lt.mpr (apart p last)]
  · nofun

/-- Settles O17: the monitor by the judgement of the pulse, the rest by what an accepted pulse leaves. -/
theorem framePulseMovesMonitor : Obligations.FramePulseMovesMonitor := by
  intro s dt h awake now m tn band above
  have quiet : (s.elapse dt).orders.restart ≠ .waiting := ne_of_eq_of_ne awake.2 nofun
  refine ⟨fun ignored => ?_, fun service apart => ?_⟩
  · have made := State.pulse_ignored (s := s.elapse dt) ignored
    refine becomes_of_event (f := fun t => t.pulse h) awake rfl ?_ ?_ ?_
    · rw [made]; exact ne_of_eq_of_ne awake.2 nofun
    · rw [made]
    · rw [made]
  have made := State.pulse_accepted (s := s.elapse dt) service apart
  have away : State.Local h.house (s.elapse dt) ((s.elapse dt).pulse h) := State.Local.pulse _ h
  obtain ⟨t, ran, settles, -⟩ := event_chose (c := .framePulse dt h) (f := fun t => t.pulse h) awake rfl rfl
    (by rw [away.orders quiet]; exact ne_of_eq_of_ne awake.2 nofun)
  have sameHouse := settles.sameHouse away.house
  have sameTables := settles.sameTables (away.sameTables quiet)
  rw [made] at settles
  obtain ⟨idle, mon⟩ := (s.elapse dt).acceptPulse_mon h
  obtain ⟨counter, last, stop, hold, inService, fps, stopLimit, idleLimit⟩ := Monitor.pulsed_kept m now
  have moment : (s.elapse dt).now = now := rfl
  have found : (s.elapse dt).mon h = m := rfl
  rw [moment, found] at mon
  rw [← settles.mon] at mon
  refine ⟨t, ran, ?_, ?_, ?_, fun stopped => ?_, fun p last rising => ?_, fun p last locked => ?_, ?_, ?_, ?_, ?_, ?_, fun x ne => ?_,
    sameHouse, sameTables⟩
  · rw [mon]; exact counter
  · rw [mon]; exact last
  · rw [mon]; exact stop
  · have none := State.acceptPulse_stopped_idle (s := s.elapse dt) stopped
    rw [← settles.mon] at none
    rw [mon] at none ⊢
    rw [Monitor.pulsed_stopped stopped]
    exact ⟨rfl, rfl, rfl, rfl, rfl, none⟩
  · rw [mon]
    exact Monitor.pulsed_rising_effects rising last
  · rw [mon]
    exact Monitor.pulsed_locked_effects locked last
  · rw [mon]
    dsimp only
    rw [hold, inService, show m.inService = true from service, Bool.and_true]
    rfl
  · rw [mon]; exact inService.trans service
  · rw [mon]; exact fps
  · rw [mon]; exact stopLimit
  · rw [mon]; exact idleLimit
  · rw [settles.mon]; exact (s.elapse dt).acceptPulse_mon_ne ne

end Sys2Proof.Machine
end

section
/-! SUPPORT. The steps of R119, each by what makes it due, and the swap after which nothing more is due (R114 to R120). -/

namespace Sys2Proof.Machine

variable {J : Judge} {s t u : State} {k : House} {h inc : Head} {n : Nat}

/-! ### What a picture brought up leaves alone -/

/-- A state with another's pictures: its monitors, slots, engines, lights and drive table. -/
def State.picturesOf (t s : State) : State :=
  { t with monitors := s.monitors, slots := s.slots, engines := s.engines, lights := s.lights, drive := s.drive }

section
variable (s t : State)

theorem State.setRequests_picturesOf (k : House) (r : Requests) : (t.setRequests k r).picturesOf s = t.picturesOf s :=
  (congrArg (fun u : State => u.picturesOf s) (t.setRequests_frame k r) :)

theorem State.setRole_picturesOf (h : Head) (r : Role) : (t.setRole h r).picturesOf s = t.picturesOf s :=
  (congrArg (fun u : State => u.picturesOf s) (t.assign_frame h r (t.slot h).held) :)

theorem State.setEng_picturesOf (k : House) (e : Engine) : (t.setEng k e).picturesOf s = t.picturesOf s := rfl

theorem State.writeDrive_picturesOf (d : DriveId) (v : DriveVal) : (t.writeDrive d v).picturesOf s = t.picturesOf s := rfl

theorem State.swapShown_picturesOf (inc : Head) : (s.swapShown inc).picturesOf s = s := by
  unfold State.swapShown State.showPicture
  simp only [State.placeCue_eq, State.withdrawClaim_eq, State.setRequests_picturesOf, State.setEng_picturesOf]
  split
  · simp only [State.setRole_picturesOf, State.writeDrive_picturesOf]
    rfl
  · simp only [State.setRole_picturesOf, State.writeDrive_picturesOf]
    rfl

end

section
variable (s : State) (inc : Head)

theorem State.swapShown_programme : (s.swapShown inc).programme = s.programme := (congrArg State.programme (s.swapShown_picturesOf inc) :)
theorem State.swapShown_notices : (s.swapShown inc).notices = s.notices := (congrArg State.notices (s.swapShown_picturesOf inc) :)
theorem State.swapShown_orders : (s.swapShown inc).orders = s.orders := (congrArg State.orders (s.swapShown_picturesOf inc) :)
theorem State.swapShown_lamps : (s.swapShown inc).lamps = s.lamps := (congrArg State.lamps (s.swapShown_picturesOf inc) :)
theorem State.swapShown_fire : (s.swapShown inc).fire = s.fire := (congrArg State.fire (s.swapShown_picturesOf inc) :)

theorem State.EngineSide.swapShown : State.EngineSide s (s.swapShown inc) := by
  have up := ((writeDrive s (.douser inc.partner) (.douser false)).trans (showPicture _ inc)).trans (setRole _ inc .showing)
  unfold State.swapShown
  dsimp only
  split
  · exact ((((up.trans (setRole _ _ _)).trans (setEng _ _ _)).trans (placeCue _ _)).trans (setEng _ _ _)).trans (withdrawClaim _ _)
  · exact (((up.trans (setEng _ _ _)).trans (placeCue _ _)).trans (setEng _ _ _)).trans (withdrawClaim _ _)

/-- What stays within a house leaves the tables, where the orders are known to stay. -/
theorem State.Local.sameTables_of {s t : State} (l : State.Local k s t) (orders : t.orders = s.orders) : s.SameTables t :=
  ⟨l.matcher, l.programme, l.panel, l.holdTime, l.confirmWindow, l.refreshPeriod, orders, l.starter, l.pending, l.map⟩

theorem State.swapShown_requests :
    ((s.swapShown inc).light inc.house).requests =
      (s.light inc.house).requests.withCue (s.programme.record ((s.eng inc.house).cur + 1)).light := by
  unfold State.swapShown State.showPicture State.setRole
  simp only [State.placeCue_eq, State.withdrawClaim_eq, State.setRequests_requests, State.setEng_light, State.curReel]
  split <;> simp [Requests.withCue, Requests.shownFrom] <;> rfl

/-- The effects of a swap (R120). -/
theorem State.swapShown_swapped : s.Swapped (s.swapShown inc) inc where
  dousers := by
    rw [s.swapShown_value inc (d := .douser inc.partner) nofun, s.swapShown_value inc (d := .douser inc) nofun]
    simp [Head.partner_ne]
  sound := by rw [s.swapShown_value inc (d := .sound inc.house) nofun, if_pos rfl]
  shows := by rw [s.swapShown_slots, if_pos rfl]
  leaves := by rw [s.swapShown_slots, if_neg (Head.partner_ne inc), if_pos rfl]
  engine := s.swapShown_eng inc
  requests := s.swapShown_requests inc
  rest :=
    { monitors := (State.EngineSide.swapShown s inc).monitors
      lamps := s.swapShown_lamps inc
      fire := s.swapShown_fire inc
      notices := s.swapShown_notices inc
      elsewhere := ⟨(State.Local.swapShown s inc).house, (State.Local.swapShown s inc).sameTables_of (s.swapShown_orders inc)⟩ }

end

/-! ### What makes each step due (R114 to R118, R122) -/

/-- The strike point is due for a head (R114). -/
def State.StrikeDue (s : State) (h : Head) : Prop :=
  (s.curReel h.house).isChangeover = true ∧ (s.eng h.house).strikeDone = false ∧
    (s.curReel h.house).motorCue ≤ (s.mon h).counter + (s.eng h.house).strikeLead * (s.mon h).fps

/-- The motor cue by footage is due for a head (R115). -/
def State.MotorDue (s : State) (h : Head) : Prop :=
  (s.curReel h.house).isChangeover = true ∧ (s.eng h.house).motorTaken = false ∧
    (s.curReel h.house).motorCue + (s.curReel h.house).window ≤ (s.mon h).counter

/-- The change cue by footage is due for a head (R117). -/
def State.ChangeDue (s : State) (h : Head) : Prop :=
  (s.curReel h.house).isChangeover = true ∧ (s.eng h.house).changeTaken = false ∧
    (s.curReel h.house).changeCue + (s.curReel h.house).window ≤ (s.mon h).counter

/-- The last picture frame is reached (R122). -/
def State.LastDue (s : State) (h : Head) : Prop := (s.curReel h.house).last ≤ (s.mon h).counter

theorem State.strikeDue_iff :
    ((s.curReel h.house).isChangeover && !(s.eng h.house).strikeDone &&
      decide (strikePoint (s.curReel h.house) (s.eng h.house).strikeLead (s.mon h).fps ≤ (s.mon h).counter)) = true ↔ s.StrikeDue h := by
  unfold State.StrikeDue strikePoint
  simp only [Bool.and_eq_true, Bool.not_eq_true', decide_eq_true_eq, Nat.sub_le_iff_le_add, and_assoc]

theorem State.motorDue_iff :
    ((s.curReel h.house).isChangeover && !(s.eng h.house).motorTaken &&
      decide ((s.curReel h.house).motorCue + (s.curReel h.house).window ≤ (s.mon h).counter)) = true ↔ s.MotorDue h := by
  unfold State.MotorDue
  simp only [Bool.and_eq_true, Bool.not_eq_true', decide_eq_true_eq, and_assoc]

theorem State.changeDue_iff :
    ((s.curReel h.house).isChangeover && !(s.eng h.house).changeTaken &&
      decide ((s.curReel h.house).changeCue + (s.curReel h.house).window ≤ (s.mon h).counter)) = true ↔ s.ChangeDue h := by
  unfold State.ChangeDue
  simp only [Bool.and_eq_true, Bool.not_eq_true', decide_eq_true_eq, and_assoc]

theorem strikeStep_rests (undue : ¬ s.StrikeDue h) : strikeStep h s = s := if_neg (mt State.strikeDue_iff.mp undue)
theorem motorStep_rests (undue : ¬ s.MotorDue h) : motorStep J h s = s := if_neg (mt State.motorDue_iff.mp undue)
theorem changeStep_rests (undue : ¬ s.ChangeDue h) : changeStep J h s = s := if_neg (mt State.changeDue_iff.mp undue)
theorem lastStep_rests (undue : ¬ s.LastDue h) : lastStep h s = s := if_neg undue

theorem motorStep_due (due : s.MotorDue h) : motorStep J h s = takeMotor J h.house (s.raise .cueMissed (.head h) (some .motor)) :=
  if_pos (State.motorDue_iff.mpr due)

theorem changeStep_due (due : s.ChangeDue h) : changeStep J h s = takeChange J h.house (s.raise .cueMissed (.head h) (some .change)) :=
  if_pos (State.changeDue_iff.mpr due)

/-! ### The judgement, step by step (R119) -/

theorem judgeStep_made {f : State → State} (judged : s.judged h = true) : judgeStep h f s = f s := if_pos judged

theorem judgeStep_rests {f : State → State} (rests : f s = s) : judgeStep h f s = s := by
  unfold judgeStep
  rw [rests, ite_self]

theorem judge_succ (n : Nat) (h : Head) (s : State) :
    judge (n + 1) h s =
      judgeStep h (lastStep h) (judgeStep h (changeStep (judge n) h) (judgeStep h (motorStep (judge n) h) (judgeStep h (strikeStep h) s))) :=
  rfl

/-- The judgement from its second step on. -/
theorem judge_afterStrike (rests : strikeStep h s = s) :
    judge (n + 1) h s =
      judgeStep h (lastStep h) (judgeStep h (changeStep (judge n) h) (judgeStep h (motorStep (judge n) h) s)) := by
  rw [judge_succ, judgeStep_rests rests]

/-- The judgement from its third step on. -/
theorem judge_afterMotor (strike : strikeStep h s = s) (motor : motorStep (judge n) h s = s) :
    judge (n + 1) h s = judgeStep h (lastStep h) (judgeStep h (changeStep (judge n) h) s) := by
  rw [judge_afterStrike strike, judgeStep_rests motor]

/-- The judgement of the last picture frame alone. -/
theorem judge_afterChange (strike : strikeStep h s = s) (motor : motorStep (judge n) h s = s) (change : changeStep (judge n) h s = s) :
    judge (n + 1) h s = judgeStep h (lastStep h) s := by
  rw [judge_afterMotor strike motor, judgeStep_rests change]

theorem judge_unjudged (unjudged : s.judged h ≠ true) : ∀ n, judge n h s = s
  | 0 => rfl
  | n + 1 => by
    have rests : ∀ f, judgeStep h f s = s := fun f => if_neg unjudged
    rw [judge_succ, rests, rests, rests, rests]

/-- A head for which nothing is due. -/
theorem judge_rests (strike : ¬ s.StrikeDue h) (motor : ¬ s.MotorDue h) (change : ¬ s.ChangeDue h) (last : ¬ s.LastDue h) :
    ∀ n, judge n h s = s
  | 0 => rfl
  | n + 1 => by
    rw [judge_afterChange (strikeStep_rests strike) (motorStep_rests motor) (changeStep_rests change),
      judgeStep_rests (lastStep_rests last)]

theorem State.frameEvent_showing (showing : s.role h = .showing) : s.frameEvent h = judge 4 h s := by
  unfold State.frameEvent
  rw [showing]
  rfl

theorem State.frameEvent_tailing (tailing : s.role h = .tailing) : s.frameEvent h = s.tailJudge h := by
  unfold State.frameEvent
  rw [tailing]

/-! ### The swap after which nothing more is due (R120) -/

/-- A tail that is not at its end goes on (R125). -/
theorem State.tailJudge_runs
    (runs : ∀ i, (s.slot h).held = some i → (s.mon h).counter < (s.programme.record i).last + (s.eng h.house).runout) : s.tailJudge h = s := by
  unfold State.tailJudge
  split
  · rename_i n length
    obtain ⟨i, held, -, rfl, -⟩ := State.heldLength_some length
    exact if_neg fun ends => absurd ends.2 (Nat.not_le.mpr (runs i held))
  · rfl

/-- Nothing is due for the head that a swap brings up. -/
theorem swapShown_judged (ends : s.SwapEnds inc) (n : Nat) : judge n inc (s.swapShown inc) = s.swapShown inc := by
  obtain ⟨⟨last, cues⟩, -⟩ := ends
  have side := State.EngineSide.swapShown s inc
  have eng := s.swapShown_eng inc
  have reel : (s.swapShown inc).curReel inc.house = s.programme.record ((s.eng inc.house).cur + 1) := by
    rw [State.curReel, eng, s.swapShown_programme]
  have lead : ((s.swapShown inc).eng inc.house).strikeLead = (s.eng inc.house).strikeLead := by rw [eng]; rfl
  have changeover : (s.programme.record ((s.eng inc.house).cur + 1)).isChangeover = true →
      (s.programme.record ((s.eng inc.house).cur + 1)).intervalAfter = false ∧
        (s.programme.record ((s.eng inc.house).cur + 1)).showEnd = false := fun c => by
    simpa [Reel.isChangeover] using c
  refine judge_rests (fun due => ?_) (fun due => ?_) (fun due => ?_) (fun due => ?_) n
  · obtain ⟨c, -, reached⟩ := due
    rw [reel] at c reached
    rw [side.counter, side.fps, lead] at reached
    exact absurd reached (Nat.not_le.mpr (cues (changeover c).1 (changeover c).2).1)
  · obtain ⟨c, -, reached⟩ := due
    rw [reel] at c reached
    rw [side.counter] at reached
    exact absurd reached (Nat.not_le.mpr (cues (changeover c).1 (changeover c).2).2.1)
  · obtain ⟨c, -, reached⟩ := due
    rw [reel] at c reached
    rw [side.counter] at reached
    exact absurd reached (Nat.not_le.mpr (cues (changeover c).1 (changeover c).2).2.2)
  · unfold State.LastDue at due
    rw [reel, side.counter] at due
    exact absurd due (Nat.not_le.mpr last)

theorem swap_ends (ends : s.SwapEnds inc) (n : Nat) : swap (judge n) inc s = s.swapShown inc := by
  have side := State.EngineSide.swapShown s inc
  rw [swap_eq, swapShown_judged ends]
  refine State.tailJudge_runs fun i held => ?_
  rw [s.swapShown_slots, if_neg (Head.partner_ne inc), if_pos rfl] at held
  have runout : ((s.swapShown inc).eng inc.partner.house).runout = (s.eng inc.house).runout := by
    rw [Head.partner_house, s.swapShown_eng]
    rfl
  rw [side.counter, s.swapShown_programme, runout]
  exact ends.2 i held

theorem swap_swapped (ends : s.SwapEnds inc) (n : Nat) : s.Swapped (swap (judge n) inc s) inc := by
  rw [swap_ends ends]
  exact s.swapShown_swapped inc

/-! ### The change cue (R118) -/

theorem Head.eq_incoming {side : Side} (house : inc.house = k) (other : inc.side ≠ side) : (k.head side).partner = inc := by
  have partners : ∀ (inc : Head) (side : Side), inc.side ≠ side → (inc.house.head side).partner = inc := fun inc side => by
    cases inc <;> cases side <;> decide
  subst house
  exact partners inc side other

theorem State.incoming_of (house : inc.house = k) (side : inc.side ≠ (s.curReel k).side) : s.incoming k = inc := Head.eq_incoming house side

end Sys2Proof.Machine
end

section
/-! SUPPORT. The cues and the footage of the SHOWING head (R113 to R119), and what an accepted pulse brings after its frame event. -/

namespace Sys2Proof.Machine

variable {J : Judge} {s t u : State} {k : House} {h inc : Head} {n : Nat}

/-! ### Strike point (R114) -/

/-- The strike point taken (R114). -/
def State.strikeTaken (s : State) (h inc : Head) : State :=
  let t := s.setEng h.house { s.eng h.house with strikeDone := true }
  if s.role inc = .threaded then t.strikeRequest inc
  else if s.role inc = .empty ∨ s.role inc = .tailing then t.raise .notThreaded (.head inc) (some .strike)
  else t

theorem strikeStep_due (due : s.StrikeDue h) (incoming : s.incoming h.house = inc) : strikeStep h s = s.strikeTaken h inc := by
  have kept : (s.setEng h.house { s.eng h.house with strikeDone := true }).incoming h.house = inc := by
    rw [← incoming]
    simp [State.incoming, State.outgoing, State.curReel]
  unfold strikeStep State.strikeTaken
  dsimp only
  rw [if_pos (State.strikeDue_iff.mpr due), kept, State.setEng_role]
  cases role : s.role inc <;> rfl

theorem State.strikeTaken_eng (s : State) (h inc : Head) :
    (s.strikeTaken h inc).eng h.house = { s.eng h.house with strikeDone := true } := by
  unfold State.strikeTaken
  dsimp only
  split
  · simp
  · split <;> simp

/-- The judgement after the strike point is taken. -/
theorem judge_strike (judged : s.judged h = true) (due : s.StrikeDue h) (incoming : s.incoming h.house = inc) :
    judge (n + 1) h s = judge (n + 1) h (s.strikeTaken h inc) := by
  have done : ¬ (s.strikeTaken h inc).StrikeDue h := fun again => by
    have undone := again.2.1
    rw [State.strikeTaken_eng] at undone
    cases undone
  rw [judge_succ, judgeStep_made judged, strikeStep_due due incoming, judge_afterStrike (strikeStep_rests done)]

/-! ### What a step taken leaves due -/

/-- A house whose engine has moved in no more than marks, flags and run-up, its frames and its programme as they were. -/
structure State.SameFrames (s t : State) (h : Head) : Prop where
  side : s.EngineSide t
  programme : t.programme = s.programme
  cur : (t.eng h.house).cur = (s.eng h.house).cur
  lead : (t.eng h.house).strikeLead = (s.eng h.house).strikeLead

theorem State.SameFrames.reel (same : s.SameFrames t h) : t.curReel h.house = s.curReel h.house := by
  unfold State.curReel
  rw [same.programme, same.cur]

theorem State.SameFrames.strikeDue (same : s.SameFrames t h) (mark : (t.eng h.house).strikeDone = (s.eng h.house).strikeDone)
    (due : t.StrikeDue h) : s.StrikeDue h := by
  unfold State.StrikeDue at due ⊢
  rwa [same.reel, mark, same.side.counter, same.lead, same.side.fps] at due

theorem State.SameFrames.motorDue (same : s.SameFrames t h) (mark : (t.eng h.house).motorTaken = (s.eng h.house).motorTaken)
    (due : t.MotorDue h) : s.MotorDue h := by
  unfold State.MotorDue at due ⊢
  rwa [same.reel, mark, same.side.counter] at due

/-! ### Motor cue (R115, R116) -/

theorem State.motorTaken_eng (s : State) (inc : Head) :
    ∃ runup, (s.motorTaken inc).eng inc.house = { s.eng inc.house with motorTaken := true, runup := runup } := by
  unfold State.motorTaken State.incomingStarted
  dsimp only
  split
  · simp [State.setRole]
  · split
    · exact ⟨(s.eng inc.house).runup, by simp⟩
    · exact ⟨(s.eng inc.house).runup, by simp⟩

/-- The motor cue taken leaves a SHOWING head so. -/
theorem State.motorTaken_showing (s : State) {h : Head} (inc : Head) (showing : s.role h = .showing) : (s.motorTaken inc).role h = .showing := by
  unfold State.motorTaken State.incomingStarted
  dsimp only
  split
  · rename_i threaded
    have ne : h ≠ inc := fun same => by rw [← same, showing] at threaded; cases threaded
    simp [State.setRole, State.assign_role, ne, showing]
  · split <;> simpa using showing

theorem State.EngineSide.motorTaken (s : State) (inc : Head) : s.EngineSide (s.motorTaken inc) := by
  unfold State.motorTaken State.incomingStarted
  dsimp only
  split
  · exact ((((setEng s _ _).trans (strikeRequest _ inc)).trans (writeDrive _ _ _)).trans (setRole _ inc _)).trans (setEng _ _ _)
  · split
    · exact (setEng s _ _).trans (raise ..)
    · exact setEng s _ _

theorem State.motorTaken_programme (s : State) (inc : Head) : (s.motorTaken inc).programme = s.programme := by
  unfold State.motorTaken State.incomingStarted
  dsimp only
  split
  · simp [State.setRole]
  · split <;> simp

theorem State.motorTaken_sameFrames (house : inc.house = h.house) : s.SameFrames (s.motorTaken inc) h := by
  obtain ⟨runup, eng⟩ := s.motorTaken_eng inc
  rw [house] at eng
  exact ⟨.motorTaken s inc, s.motorTaken_programme inc, by rw [eng], by rw [eng]⟩

theorem State.raise_sameFrames (s : State) (h : Head) (e : Event) (c : Cause) (code : Option Code) : s.SameFrames (s.raise e c code) h :=
  ⟨.raise s e c code, by simp, by simp, by simp⟩

theorem State.SameFrames.trans (a : s.SameFrames t h) (b : t.SameFrames u h) : s.SameFrames u h :=
  ⟨a.side.trans b.side, b.programme.trans a.programme, b.cur.trans a.cur, b.lead.trans a.lead⟩

theorem State.raise_incoming (s : State) (k : House) (e : Event) (c : Cause) (code : Option Code) :
    (s.raise e c code).incoming k = s.incoming k := by
  simp [State.incoming, State.outgoing, State.curReel]

/-- The judgement after the motor cue is taken by footage. -/
theorem judge_motor (judged : s.judged h = true) (strike : ¬ s.StrikeDue h) (due : s.MotorDue h) (calm : (s.eng h.house).changePending = false)
    (incoming : s.incoming h.house = inc) :
    judge (n + 1) h s = judge (n + 1) h ((s.raise .cueMissed (.head h) (some .motor)).motorTaken inc) := by
  have house : inc.house = h.house := by rw [← incoming]; exact State.Local.incoming_house s h.house
  have same := (s.raise_sameFrames h .cueMissed (.head h) (some .motor)).trans (State.motorTaken_sameFrames house)
  obtain ⟨runup, eng⟩ := (s.raise .cueMissed (.head h) (some .motor)).motorTaken_eng inc
  rw [house, State.raise_eng] at eng
  have taken : motorStep (judge n) h s = (s.raise .cueMissed (.head h) (some .motor)).motorTaken inc := by
    rw [motorStep_due due, takeMotor_eq (by rw [State.raise_eng]; exact calm), State.raise_incoming, incoming]
  rw [judge_afterStrike (strikeStep_rests strike), judgeStep_made judged, taken,
    judge_afterMotor (strikeStep_rests fun again => strike (same.strikeDue (by rw [eng]) again))
      (motorStep_rests fun again => by have untaken := again.2.1; rw [eng] at untaken; cases untaken)]

/-! ### Change cue (R117, R118) -/

theorem takeChange_held (incoming : s.incoming k = inc) (unready : ¬ (s.role inc = .starting ∧ s.ready inc = true)) :
    takeChange J k s = s.changeHeld inc := by
  have house : inc.house = k := by rw [← incoming]; exact State.Local.incoming_house s k
  have kept : (s.setEng k { s.eng k with changeTaken := true }).incoming k = inc := by
    rw [← incoming]
    simp [State.incoming, State.outgoing, State.curReel]
  unfold takeChange State.changeHeld
  dsimp only
  rw [kept]
  refine (if_neg unready).trans ?_
  rw [house, State.setEng_setEng, State.setEng_eng_same]

theorem takeChange_swaps (incoming : s.incoming k = inc) (starting : s.role inc = .starting) (ready : s.ready inc = true) :
    takeChange J k s = swap J inc (s.setEng k { s.eng k with changeTaken := true }) := by
  have kept : (s.setEng k { s.eng k with changeTaken := true }).incoming k = inc := by
    rw [← incoming]
    simp [State.incoming, State.outgoing, State.curReel]
  unfold takeChange
  dsimp only
  rw [kept]
  exact if_pos ⟨starting, ready⟩

theorem State.ready_iff : s.ready h = true ↔ (s.mon h).motion = .locked ∧ (s.lamp h).state = .burning := decide_eq_true_iff

theorem State.raise_ready (s : State) (h : Head) (e : Event) (c : Cause) (code : Option Code) : (s.raise e c code).ready h = s.ready h := by
  simp [State.ready]

theorem State.changeHeld_eng (s : State) (inc : Head) :
    (s.changeHeld inc).eng inc.house = { s.eng inc.house with changeTaken := true, changePending := true } := by
  simp [State.changeHeld]

theorem State.changeHeld_sameFrames (house : inc.house = h.house) : s.SameFrames (s.changeHeld inc) h := by
  have eng := s.changeHeld_eng inc
  rw [house] at eng
  refine ⟨(State.EngineSide.setEng s _ _).trans (.raise ..), by simp [State.changeHeld], by rw [eng], by rw [eng]⟩

/-- The judgement after the change cue is taken with the incoming head not ready. -/
theorem judge_change_held (judged : s.judged h = true) (strike : ¬ s.StrikeDue h) (motor : ¬ s.MotorDue h) (due : s.ChangeDue h)
    (incoming : s.incoming h.house = inc) (unready : ¬ (s.role inc = .starting ∧ s.ready inc = true)) :
    judge (n + 1) h s = judge (n + 1) h ((s.raise .cueMissed (.head h) (some .change)).changeHeld inc) := by
  have house : inc.house = h.house := by rw [← incoming]; exact State.Local.incoming_house s h.house
  have same := (s.raise_sameFrames h .cueMissed (.head h) (some .change)).trans (State.changeHeld_sameFrames house)
  have eng := (s.raise .cueMissed (.head h) (some .change)).changeHeld_eng inc
  rw [house, State.raise_eng] at eng
  have taken : changeStep (judge n) h s = (s.raise .cueMissed (.head h) (some .change)).changeHeld inc := by
    rw [changeStep_due due, takeChange_held (inc := inc) (by rw [State.raise_incoming, incoming])
      (by rw [State.raise_role, State.raise_ready]; exact unready)]
  rw [judge_afterMotor (strikeStep_rests strike) (motorStep_rests motor), judgeStep_made judged, taken,
    judge_afterChange (strikeStep_rests fun again => strike (same.strikeDue (by rw [eng]) again))
      (motorStep_rests fun again => motor (same.motorDue (by rw [eng]) again))
      (changeStep_rests fun again => by have untaken := again.2.1; rw [eng] at untaken; cases untaken)]

/-- A swap is that of any engine with the same marks gone. -/
theorem State.Swapped.of_setEng {e : Engine} (swapped : (s.setEng inc.house e).Swapped t inc) (fresh : e.fresh = (s.eng inc.house).fresh) :
    s.Swapped t inc := by
  obtain ⟨dousers, sound, shows, leaves, engine, requests, ⟨monitors, lamps, fire, notices, others, tables⟩⟩ := swapped
  have cur : e.cur = (s.eng inc.house).cur := (congrArg Engine.cur fresh :)
  rw [State.setEng_eng_same] at engine requests
  refine ⟨dousers, sound, shows, leaves, ?_, ?_, ⟨monitors, lamps, fire, notices, ?_, tables⟩⟩
  · rw [engine, fresh, cur]
  · rw [requests, cur]; rfl
  · exact State.Local.sameHouse_trans (State.Local.setEng s inc.house e).house others

theorem State.SwapEnds.setEng {e : Engine} (ends : s.SwapEnds inc) (cur : e.cur = (s.eng inc.house).cur)
    (lead : e.strikeLead = (s.eng inc.house).strikeLead) (runout : e.runout = (s.eng inc.house).runout) :
    (s.setEng inc.house e).SwapEnds inc := by
  unfold State.SwapEnds at ends ⊢
  dsimp only at ends ⊢
  rw [State.setEng_eng_same, cur, lead, runout]
  exact ends

theorem State.SwapEnds.raise (ends : s.SwapEnds inc) (e : Event) (c : Cause) (code : Option Code) : (s.raise e c code).SwapEnds inc := by
  unfold State.SwapEnds at ends ⊢
  simpa using ends

/-- The change cue taken with the incoming head ready: the swap, and nothing more. -/
theorem takeChange_swapShown (incoming : s.incoming k = inc) (starting : s.role inc = .starting) (ready : s.ready inc = true)
    (ends : s.SwapEnds inc) (n : Nat) :
    takeChange (judge n) k s = (s.setEng k { s.eng k with changeTaken := true }).swapShown inc ∧
      s.Swapped (takeChange (judge n) k s) inc := by
  have house : inc.house = k := by rw [← incoming]; exact State.Local.incoming_house s k
  subst house
  have kept : (s.setEng inc.house { s.eng inc.house with changeTaken := true }).SwapEnds inc := ends.setEng rfl rfl rfl
  rw [takeChange_swaps incoming starting ready, swap_ends kept]
  exact ⟨rfl, (State.swapShown_swapped _ inc).of_setEng rfl⟩

theorem judge_change_swaps (judged : s.judged h = true) (strike : ¬ s.StrikeDue h) (motor : ¬ s.MotorDue h) (due : s.ChangeDue h)
    (incoming : s.incoming h.house = inc) (starting : s.role inc = .starting) (ready : s.ready inc = true) (ends : s.SwapEnds inc) :
    (s.raise .cueMissed (.head h) (some .change)).Swapped (judge (n + 1) h s) inc := by
  have house : inc.house = h.house := by rw [← incoming]; exact State.Local.incoming_house s h.house
  have showing := (State.judged_iff.mp judged).2
  obtain ⟨made, swapped⟩ := takeChange_swapShown (s := s.raise .cueMissed (.head h) (some .change)) (k := h.house) (inc := inc)
    (by rw [State.raise_incoming, incoming]) (by rw [State.raise_role]; exact starting) (by rw [State.raise_ready]; exact ready)
    (ends.raise ..) n
  have partner : h = inc.partner := by
    obtain rfl | partner := Head.eq_or_partner house.symm
    · rw [starting] at showing; cases showing
    · exact partner
  have tails : (takeChange (judge n) h.house (s.raise .cueMissed (.head h) (some .change))).judged h ≠ true := by
    refine State.not_judged_of_role ?_
    have leaves := swapped.leaves
    rw [← partner, State.raise_role, showing] at leaves
    rw [State.role, leaves]
    nofun
  rw [judge_afterMotor (strikeStep_rests strike) (motorStep_rests motor), judgeStep_made judged, changeStep_due due]
  unfold judgeStep
  rw [if_neg tails]
  exact swapped

/-! ### Cues from a reader (R113) -/

theorem Reel.isChangeover_iff {r : Reel} : r.isChangeover = true ↔ r.intervalAfter = false ∧ r.showEnd = false := by
  unfold Reel.isChangeover
  rw [Bool.and_eq_true, Bool.not_eq_true', Bool.not_eq_true']

theorem State.motorInOrder_iff :
    s.motorInOrder h = true ↔
      (s.eng h.house).state = .running ∧ s.role h = .showing ∧ (s.curReel h.house).intervalAfter = false ∧
        (s.curReel h.house).showEnd = false ∧ (s.eng h.house).motorTaken = false ∧
        (s.curReel h.house).motorCue ≤ (s.mon h).counter + (s.curReel h.house).window ∧
        (s.mon h).counter ≤ (s.curReel h.house).motorCue + (s.curReel h.house).window := by
  unfold State.motorInOrder inWindow
  simp only [Bool.and_eq_true, State.judged_iff, Reel.isChangeover_iff, Bool.not_eq_true', decide_eq_true_eq, and_assoc]

theorem State.changeInOrder_iff :
    s.changeInOrder h = true ↔
      (s.eng h.house).state = .running ∧ s.role h = .showing ∧ (s.curReel h.house).intervalAfter = false ∧
        (s.curReel h.house).showEnd = false ∧ (s.eng h.house).changeTaken = false ∧
        (s.curReel h.house).changeCue ≤ (s.mon h).counter + (s.curReel h.house).window ∧
        (s.mon h).counter ≤ (s.curReel h.house).changeCue + (s.curReel h.house).window := by
  unfold State.changeInOrder inWindow
  simp only [Bool.and_eq_true, State.judged_iff, Reel.isChangeover_iff, Bool.not_eq_true', decide_eq_true_eq, and_assoc]

/-- A pulse above the band in LOCKED slows the head (R52). -/
theorem Monitor.pulsed_slows {m : Monitor} {now p : Nat} (locked : m.motion = .locked) (last : m.lastPulse = some p)
    (above : 10000 / m.fps + 10000 / m.fps / 20 < now - p) :
    m.pulsed now =
      { m with
        lastPulse := some now, counter := min (m.counter + 1) Config.maxFrames, interval := some (now - p)
        stopTimer := some (now + m.stopLimit * 10), motion := .slow, streak := 0, slowTimer := none } := by
  rw [Monitor.pulsed_locked locked last]
  exact if_pos (aboveBand_iff.mpr above)

/-! ### What follows the frame event of a pulse (log entry 18) -/

/-- A pulse's command becomes what the pulse makes. -/
theorem framePulse_becomes {dt : Nat} {after : State} (awake : s.Awake) (made : (s.elapse dt).pulse h = after) :
    s.Becomes (.framePulse dt h) after := by
  have quiet : (s.elapse dt).orders.restart ≠ .waiting := ne_of_eq_of_ne awake.2 nofun
  have away : State.Local h.house (s.elapse dt) ((s.elapse dt).pulse h) := State.Local.pulse _ h
  refine becomes_of_event (f := fun t => t.pulse h) awake rfl ?_ ?_ ?_
  · rw [away.orders quiet]; exact ne_of_eq_of_ne awake.2 nofun
  · rw [made]
  · rw [made]

/-- A monitor's move to RUNUP or SLOW: the hold line is released and the idle timer is none. -/
theorem State.moved_unlocked {m : Monitor} (unlocked : m.motion ≠ .locked) (moving : m.motion ≠ .stopped) :
    s.moved h m =
      if m.hold = true ∧ s.role h = .showing then
        (s.setMon h { m with hold := false, idleTimer := none }).raise .shutter (.head h) none
      else s.setMon h { m with hold := false, idleTimer := none } := by
  have mon : (s.moved h m).mon h = { m with hold := false, idleTimer := none } := by
    rw [State.moved_mon, if_neg fun c => moving c.2.1, decide_eq_false unlocked]
    rfl
  have cond : (decide (m.motion = .locked) && m.inService && (s.fireOf h.house).gate) = false := by rw [decide_eq_false unlocked]; rfl
  rw [State.moved_eq, mon, cond]
  simp only [true_and]

/-- A move to RUNUP brings nothing at the engine. -/
theorem State.motionReport_runup (runup : (s.mon h).motion = .runup) : s.motionReport h = s := by
  unfold State.motionReport
  rw [runup]

/-- A pulse on a STOPPED head with its hold line released begins the run-up (R50). -/
theorem State.acceptPulse_starts (stopped : (s.mon h).motion = .stopped) (released : (s.mon h).hold = false) :
    s.acceptPulse h =
      (s.framed h).setMon h
        { (s.framed h).mon h with
          motion := .runup, streak := 0, slowTimer := none, stopTimer := some (s.now + (s.mon h).stopLimit * 10), idleTimer := none } := by
  have pulsed := Monitor.pulsed_stopped stopped s.now
  have moves : ((s.mon h).pulsed s.now).motion ≠ (s.mon h).motion := by rw [pulsed, stopped]; nofun
  rw [State.acceptPulse_moves moves, State.moved_unlocked (by rw [pulsed]; nofun) (by rw [pulsed]; nofun),
    if_neg fun c => by rw [pulsed, show (s.mon h).hold = false from released] at c; cases c.1]
  rw [State.motionReport_runup (by rw [State.setMon_mon_same, pulsed]), pulsed, State.framed_mon]
  simp only [Monitor.accepted, released]

/-- A pulse too late for a LOCKED head slows it, and the engine is told (R52, R57, R126). -/
theorem State.acceptPulse_slows {p : Nat} (locked : (s.mon h).motion = .locked) (last : (s.mon h).lastPulse = some p)
    (above : 10000 / (s.mon h).fps + 10000 / (s.mon h).fps / 20 < s.now - p) :
    s.acceptPulse h =
      (if (s.mon h).hold = true ∧ (s.framed h).role h = .showing then
        ((s.framed h).setMon h
          { (s.framed h).mon h with
            motion := .slow, streak := 0, interval := some (s.now - p), slowTimer := none
            stopTimer := some (s.now + (s.mon h).stopLimit * 10), hold := false, idleTimer := none }).raise .shutter (.head h) none
      else
        (s.framed h).setMon h
          { (s.framed h).mon h with
            motion := .slow, streak := 0, interval := some (s.now - p), slowTimer := none
            stopTimer := some (s.now + (s.mon h).stopLimit * 10), hold := false, idleTimer := none }).motionReport h := by
  have pulsed := Monitor.pulsed_slows locked last above
  have moves : ((s.mon h).pulsed s.now).motion ≠ (s.mon h).motion := by rw [pulsed, locked]; nofun
  rw [State.acceptPulse_moves moves, State.moved_unlocked (by rw [pulsed]; nofun) (by rw [pulsed]; nofun), pulsed, State.framed_mon]
  rfl

/-- Settles O4: the steps of the judgement one by one, the cues in order and stray, and what a pulse brings after its frame event. -/
theorem cuesAndFootageTaken : Obligations.CuesAndFootageTaken := by
  refine ⟨fun s h inc => ?_, fun s h inc => ?_, fun s dt p h awake => ?_, fun s dt h awake => ?_⟩
  · intro e r n changeover strikeDue motorDue changeDue showing running house side
    have incoming : s.incoming h.house = inc := State.incoming_of house side
    have judged : s.judged h = true := State.judged_iff.mpr ⟨running, showing⟩
    have strikes : s.StrikeDue h ↔ strikeDue := and_congr Reel.isChangeover_iff Iff.rfl
    have motors : s.MotorDue h ↔ motorDue := and_congr Reel.isChangeover_iff Iff.rfl
    have changes : s.ChangeDue h ↔ changeDue := and_congr Reel.isChangeover_iff Iff.rfl
    rw [s.frameEvent_showing showing, ← strikes, ← motors, ← changes]
    refine ⟨fun strike motor change last => judge_rests strike motor change (Nat.not_le.mpr last) 4, fun due => ?_,
      fun strike due calm => ?_, fun strike motor due => ?_⟩
    · have taken := judge_strike (n := 3) judged due incoming
      unfold State.strikeTaken at taken
      refine ⟨fun threaded => ?_, fun away => ?_, fun up => ?_⟩
      · rw [taken, if_pos threaded]
        exact (State.frameEvent_showing (by simpa using showing)).symm
      · rw [taken, if_neg (by obtain e | e := away <;> rw [e] <;> nofun), if_pos away]
        exact (State.frameEvent_showing (by simpa using showing)).symm
      · rw [taken, if_neg (by obtain e | e := up <;> rw [e] <;> nofun), if_neg (by obtain e | e := up <;> rw [e] <;> simp)]
        exact (State.frameEvent_showing (by exact showing)).symm
    · rw [judge_motor judged strike due calm incoming]
      exact (State.frameEvent_showing (State.motorTaken_showing _ inc (by rw [State.raise_role]; exact showing))).symm
    · have ready : (s.mon inc).motion = .locked ∧ (s.lamp inc).state = .burning ↔ s.ready inc = true := State.ready_iff.symm
      rw [ready]
      refine ⟨fun unready => ?_, fun ready ends => ?_⟩
      · rw [judge_change_held judged strike motor due incoming unready, State.frameEvent_showing]
        simpa [State.changeHeld] using showing
      · exact judge_change_swaps judged strike motor due incoming ready.1 ready.2 ends
  · intro e r n stray inOrder house side
    have incoming : s.incoming h.house = inc := State.incoming_of house side
    refine ⟨fun out => ?_, fun order calm => ?_, fun out => ?_, fun order => ?_⟩
    · exact if_neg (mt State.motorInOrder_iff.mp out)
    · refine (if_pos (State.motorInOrder_iff.mpr order)).trans ?_
      rw [takeMotor_eq calm, incoming]
    · exact if_neg (mt State.changeInOrder_iff.mp out)
    · have ready : (s.mon inc).motion = .locked ∧ (s.lamp inc).state = .burning ↔ s.ready inc = true := State.ready_iff.symm
      have taken : s.changeCue h = takeChange judgeFrames h.house s := if_pos (State.changeInOrder_iff.mpr order)
      rw [ready, taken]
      refine ⟨fun unready => takeChange_held incoming unready, fun ready ends => ?_⟩
      exact (takeChange_swapShown incoming ready.1 ready.2 ends 4).2
  · intro now m tn band service last apart cases_ framed
    have made := State.pulse_accepted (s := s.elapse dt) service fun p' last' => by
      obtain rfl : p = p' := Option.some.inj (last.symm.trans last')
      exact apart
    refine ⟨_, framePulse_becomes awake (made.trans (State.acceptPulse_still ?_))⟩
    show (m.pulsed now).motion = m.motion
    obtain ⟨locked, below⟩ | ⟨rising, short⟩ := cases_
    · rw [((Monitor.pulsed_locked_effects locked last).2.2 (Nat.not_lt.mpr below)).1, locked]
    · obtain ⟨-, -, inside, -, outside⟩ := Monitor.pulsed_rising_effects (now := now) rising last
      by_cases within : band
      · exact (inside within fun full => short ⟨within, full⟩).1
      · exact (outside within).1
  · intro now m tn framed service
    refine ⟨fun stopped released apart => ?_, fun p locked last apart above => ?_⟩
    · have made := State.pulse_accepted (s := s.elapse dt) service apart
      exact framePulse_becomes awake (made.trans (State.acceptPulse_starts stopped released))
    · have made := State.pulse_accepted (s := s.elapse dt) service fun p' last' => by
        obtain rfl : p = p' := Option.some.inj (last.symm.trans last')
        exact apart
      have slows := made.trans (State.acceptPulse_slows locked last above)
      intro slowed held lost k
      replace slows : (s.elapse dt).pulse h = held.motionReport h := slows
      have slow : (held.mon h).motion = .slow := by
        unfold held slowed
        split <;> simp
      have eng : held.eng k = framed.eng k := by unfold held slowed; split <;> simp
      have role : held.role h = framed.role h := by unfold held slowed; split <;> simp
      have light : held.light k = framed.light k := by unfold held slowed; split <;> simp
      refine ⟨fun running showing => ?_, fun unjudged => ?_⟩
      · refine framePulse_becomes awake (slows.trans ?_)
        rw [State.motionReport_lost slow (by rw [eng]; exact running) (by rw [role]; exact showing), ← light]
        unfold State.setClaim State.placeLight lost
        rw [State.setEng_light, State.raise_light]
        rfl
      · refine framePulse_becomes awake (slows.trans ?_)
        rw [State.motionReport_slow slow, if_neg]
        rw [State.judged_iff, eng, role]
        exact fun both => unjudged.elim (absurd both.1) (absurd both.2)

end Sys2Proof.Machine
end

section
/-! SUPPORT. The last picture frame and the end of a tail (R122 to R125). -/

namespace Sys2Proof.Machine

variable {J : Judge} {s t u : State} {k : House} {h inc : Head} {n : Nat}

/-! ### The end of a tail, head by head and entry by entry -/

section
variable (s : State) (h : Head)

theorem State.tailEnd_others {x : Head} (ne : x ≠ h) : s.SameHead (s.tailEnd h) x := by
  refine ⟨?_, ?_, ?_⟩
  · rw [State.tailEnd, State.assign_mon_ne _ _ _ ne, State.normalShutdown_mon, if_neg fun c => ne c.1]
    rfl
  · rw [State.tailEnd_lamp, if_neg fun c => ne c.1]
  · rw [State.tailEnd, State.assign_slot, if_neg ne, State.normalShutdown_slot]
    rfl

theorem State.tailEnd_douser :
    ((s.tailEnd h).entry (.douser h)).value = if (s.lamp h).state ≠ .dark then .douser false else (s.entry (.douser h)).value := by
  rw [State.tailEnd, State.assign_entry, State.normalShutdown_douser]
  simp [State.writeDrive_value]

theorem State.tailEnd_sound (k : House) : ((s.tailEnd h).entry (.sound k)).value = (s.entry (.sound k)).value := by
  rw [State.tailEnd, State.assign_entry, State.normalShutdown_value_ne (d := .sound k) _ nofun nofun nofun, State.writeDrive_value,
    if_neg nofun]

theorem State.tailEnd_lampEntry (lit : (s.lamp h).state ≠ .dark) : ((s.tailEnd h).entry (.lamp h)).value = .lamp false := by
  rw [State.tailEnd, State.assign_entry, State.normalShutdown_lit (s := s.writeDrive (.motor h) (.motor false)) lit, State.setMon_entry,
    State.setLamp_entry, State.shutEntries]
  split <;> simp [State.writeDrive_value]

end

/-! ### A tail judged (R99, R125) -/

theorem State.tailJudge_ends {i : Nat} (held : (s.slot h).held = some i) (tailing : s.role h = .tailing)
    (inside : s.programme.inRegion h.house i = true) (reel : (s.programme.record i).last ≠ 0)
    (ends : (s.programme.record i).last + (s.eng h.house).runout ≤ (s.mon h).counter) : s.tailJudge h = s.tailEnd h := by
  have length : s.heldLength h = some (s.programme.record i).last := by
    unfold State.heldLength
    rw [held]
    exact if_pos (by simp [inside, reel])
  unfold State.tailJudge
  rw [length]
  exact if_pos ⟨tailing, ends⟩

/-- A lookup that answers no length leaves the tail to run (log entry 31). -/
theorem State.tailJudge_unknown (unknown : s.heldLength h = none) : s.tailJudge h = s := by
  unfold State.tailJudge
  rw [unknown]

theorem Programme.record_beyond (p : Programme) {i : Nat} (beyond : ¬ i < 64) : (p.record i).last = 0 := by
  have none : p.reels.get? i = none := by
    unfold Table.get? toIndex
    rw [dif_neg beyond]
    rfl
  rw [Programme.record, none]
  rfl

theorem State.heldLength_none
    (unknown : ∀ i : Fin 64, (s.slot h).held = some i.val → s.programme.owner i ≠ h.house ∨ (s.programme.reels.get i).last = 0) :
    s.heldLength h = none := by
  cases length : s.heldLength h with
  | none => rfl
  | some n =>
    obtain ⟨i, held, inside, last, some⟩ := State.heldLength_some length
    by_cases below : i < 64
    · obtain outside | vacant := unknown ⟨i, below⟩ held
      · exact absurd ((s.programme.inRegion_iff h.house ⟨i, below⟩).mp inside) outside
      · rw [← Programme.record_fin] at vacant
        exact absurd (last.symm.trans vacant) some
    · rw [s.programme.record_beyond below] at last
      exact absurd last.symm some

theorem State.tailJudge_frame (s : State) (h : Head) :
    { s.tailJudge h with monitors := s.monitors, lamps := s.lamps, drive := s.drive, slots := s.slots } = s := by
  unfold State.tailJudge
  split
  · split
    · exact s.tailEnd_frame h
    · rfl
  · rfl

theorem State.tailJudge_notices (s : State) (h : Head) : (s.tailJudge h).notices = s.notices := (congrArg State.notices (s.tailJudge_frame h) :)
theorem State.tailJudge_eng (s : State) (h : Head) (k : House) : (s.tailJudge h).eng k = s.eng k :=
  (congrArg (fun t => t.eng k) (s.tailJudge_frame h) :)
theorem State.tailJudge_light (s : State) (h : Head) (k : House) : (s.tailJudge h).light k = s.light k :=
  (congrArg (fun t => t.light k) (s.tailJudge_frame h) :)

/-! ### A picture that has ended (R122 to R125) -/

/-- The picture and the sound have ended on a head, which is TAILING. -/
structure State.PictureEnded (s t : State) (h : Head) : Prop where
  side : s.EngineSide t
  within : State.Local h.house s t
  lamps : t.lamps = s.lamps
  douser : (t.entry (.douser h)).value = .douser false
  sound : (t.entry (.sound h.house)).value = .sound none
  motor : (t.entry (.motor h)).value = (s.entry (.motor h)).value
  slot : t.slot h = { s.slot h with role := .tailing }
  runout : (t.eng h.house).runout = (s.eng h.house).runout
  others : ∀ x, x ≠ h → s.SameHead t x

theorem State.endPicture_ended (s : State) (h : Head) : s.PictureEnded (s.endPicture h) h where
  side := .endPicture s h
  within := .endPicture s rfl
  lamps := by simp [State.endPicture, State.setRole]
  douser := by simp [State.endPicture, State.setRole, State.writeDrive_value]
  sound := by simp [State.endPicture, State.setRole]
  motor := by simp [State.endPicture, State.setRole, State.writeDrive_value]
  slot := by rw [State.endPicture, State.setRole_slot, if_pos rfl]; rfl
  runout := by simp [State.endPicture, State.setRole]
  others x ne := by
    refine ⟨?_, ?_, ?_⟩
    · rw [State.endPicture, State.setRole, State.assign_mon_ne _ _ _ ne]; rfl
    · simp [State.endPicture, State.setRole]
    · rw [State.endPicture, State.setRole_slot, if_neg ne]; rfl

/-- An ended picture stays so while engine, lights and notices move. -/
theorem State.PictureEnded.then (ended : s.PictureEnded t h) (side : t.EngineSide u) (stays : State.Local h.house t u)
    (lamps : u.lamps = t.lamps) (slots : u.slots = t.slots) (mons : u.monitors = t.monitors)
    (entries : ∀ d, d ≠ .dim h.house → u.entry d = t.entry d) (runout : (u.eng h.house).runout = (t.eng h.house).runout) :
    s.PictureEnded u h where
  side := ended.side.trans side
  within := ended.within.trans stays
  lamps := lamps.trans ended.lamps
  douser := by rw [entries (.douser h) nofun]; exact ended.douser
  sound := by rw [entries (.sound h.house) nofun]; exact ended.sound
  motor := by rw [entries (.motor h) nofun]; exact ended.motor
  slot := by rw [State.slot, slots]; exact ended.slot
  runout := runout.trans ended.runout
  others x ne := by
    obtain ⟨mon, lamp, slot⟩ := ended.others x ne
    exact ⟨by rw [State.mon, mons]; exact mon, by rw [State.lamp, lamps]; exact lamp, by rw [State.slot, slots]; exact slot⟩

theorem State.PictureEnded.setEng (ended : s.PictureEnded t h) {e : Engine} (runout : e.runout = (t.eng h.house).runout) :
    s.PictureEnded (t.setEng h.house e) h :=
  ended.then (.setEng t _ _) (.setEng t _ _) rfl rfl rfl (fun _ _ => rfl) (by rw [State.setEng_eng_same]; exact runout)

theorem State.PictureEnded.raise (ended : s.PictureEnded t h) (e : Event) (c : Cause) (code : Option Code) :
    s.PictureEnded (t.raise e c code) h :=
  ended.then (.raise ..) (.raise ..) (by simp) (by simp) (by simp) (fun _ _ => by simp) (by simp)

theorem State.PictureEnded.setRequests (ended : s.PictureEnded t h) (r : Requests) : s.PictureEnded (t.setRequests h.house r) h :=
  ended.then (.setRequests t _ _) (.setRequests _ t _) (by simp) (by simp) (by simp)
    (fun _ ne => State.setRequests_entry_ne _ _ _ ne) (by simp)

/-- A picture that has ended, its tail judged at once: the reel is over. -/
theorem State.PictureEnded.reelOver (ended : s.PictureEnded t h) (calm : s.orders.restart ≠ .waiting) : s.ReelOver (t.tailJudge h) h := by
  have stays := ended.within.trans (State.Local.tailJudge t rfl)
  have side := ended.side.trans (State.EngineSide.tailJudge t h)
  have tailing : t.role h = .tailing := by rw [State.role, ended.slot]
  have held : (t.slot h).held = (s.slot h).held := by rw [ended.slot]
  have programme := ended.within.programme
  have lamp : ∀ x, t.lamp x = s.lamp x := fun x => by rw [State.lamp, ended.lamps]; rfl
  have fire := side.fire
  constructor
  case douser =>
    unfold State.tailJudge
    split
    · split
      · rw [State.tailEnd_douser]
        split
        · rfl
        · exact ended.douser
      · exact ended.douser
    · exact ended.douser
  case sound =>
    unfold State.tailJudge
    split
    · split
      · rw [State.tailEnd_sound]; exact ended.sound
      · exact ended.sound
    · exact ended.sound
  case runs =>
    intro i holds own before
    rw [State.tailJudge_runs fun j holds' => by
      rw [held, holds] at holds'
      cases holds'
      rw [ended.side.counter, programme, ended.runout]
      exact before]
    refine ⟨?_, lamp h, ended.motor⟩
    rw [ended.slot, ← holds]
  case done =>
    intro i holds own reel after
    rw [← Programme.record_fin] at reel after
    rw [State.tailJudge_ends (i := i.val) (by rw [held, holds]) tailing
      (by rw [programme]; exact (s.programme.inRegion_iff h.house i).mpr own) (by rw [programme]; exact reel)
      (by rw [programme, ended.runout, ended.side.counter]; exact after)]
    refine ⟨State.tailEnd_slot t h, State.tailEnd_motor t h, ?_⟩
    rw [State.tailEnd_lamp, lamp, show t.ms = s.ms by rw [State.ms, ended.side.now]; rfl]
    by_cases dark : (s.lamp h).state = .dark <;> simp [dark]
  case unknown =>
    intro unknown
    rw [State.tailJudge_unknown (State.heldLength_none fun i holds => by
      rw [programme]
      exact unknown i (by rw [← held, holds]))]
    exact ⟨ended.slot, lamp h⟩
  case monitors => exact side.monitors
  case others =>
    refine ⟨fire, fun x ne => ?_, stays.house, stays.sameTables calm⟩
    obtain ⟨mon, lamp, slot⟩ := ended.others x ne
    unfold State.tailJudge
    split
    · split
      · obtain ⟨mon', lamp', slot'⟩ := t.tailEnd_others h ne
        exact ⟨mon'.trans mon, lamp'.trans lamp, slot'.trans slot⟩
      · exact ⟨mon, lamp, slot⟩
    · exact ⟨mon, lamp, slot⟩

/-! ### The three ends of a reel -/

/-- The judgement of the SHOWING head when the last picture frame alone is due. -/
theorem judge_last (judged : s.judged h = true) (strike : ¬ s.StrikeDue h) (motor : ¬ s.MotorDue h) (change : ¬ s.ChangeDue h)
    (due : s.LastDue h) :
    judge (n + 1) h s =
      if (s.curReel h.house).showEnd then s.endReelShow h
      else if (s.curReel h.house).intervalAfter then s.endReelInterval h
      else s.darken h := by
  rw [judge_afterChange (strikeStep_rests strike) (motorStep_rests motor) (changeStep_rests change), judgeStep_made judged]
  exact if_pos due

theorem State.undue_of_last (last : (s.curReel h.house).isChangeover = false) : ¬ s.StrikeDue h ∧ ¬ s.MotorDue h ∧ ¬ s.ChangeDue h :=
  ⟨fun due => Bool.false_ne_true (last.symm.trans due.1), fun due => Bool.false_ne_true (last.symm.trans due.1),
    fun due => Bool.false_ne_true (last.symm.trans due.1)⟩

section
variable (s : State) (h : Head)

theorem State.endPicture_eng (k : House) : (s.endPicture h).eng k = s.eng k := by simp [State.endPicture, State.setRole]
theorem State.endPicture_light (k : House) : (s.endPicture h).light k = s.light k := by simp [State.endPicture, State.setRole]
theorem State.endPicture_notices : (s.endPicture h).notices = s.notices := by simp [State.endPicture, State.setRole]

/-- The screen goes dark (R122). -/
theorem State.darken_over (calm : s.orders.restart ≠ .waiting) :
    s.ReelOver (s.darken h) h ∧ (s.darken h).eng h.house = { s.eng h.house with dark := true, faultClaim := true } ∧
      ((s.darken h).light h.house).requests =
        { (s.light h.house).requests with
          fault := some { position := (s.light h.house).faultPos, fade := (s.light h.house).fastFade } } ∧
      (s.darken h).notices = s.notices.raised .pictureLost (.head h) (some .dark) := by
  unfold State.darken State.setClaim State.placeLight
  dsimp only
  refine ⟨State.PictureEnded.reelOver (.setRequests (.setEng (.raise (.setEng (s.endPicture_ended h) ?_) ..) ?_) _) calm, ?_, ?_, ?_⟩
  · rfl
  · rfl
  · simp [State.tailJudge_eng, State.endPicture_eng]
  · rw [State.tailJudge_light, State.setRequests_requests]
    simp [State.endPicture_light, Requests.place]
  · simp [State.tailJudge_notices, State.endPicture_notices]

theorem State.endReelInterval_over (calm : s.orders.restart ≠ .waiting) :
    s.ReelOver (s.endReelInterval h) h ∧ (s.endReelInterval h).eng h.house = { s.eng h.house with state := .interval } ∧
      ((s.endReelInterval h).light h.house).requests =
        { (s.light h.house).requests with
          shown := { position := (s.light h.house).intervalPos, fade := (s.light h.house).fastFade } } ∧
      (s.endReelInterval h).notices = s.notices.raised .showDone (.house h.house) (some .interval) := by
  unfold State.endReelInterval State.placeLight
  dsimp only
  refine ⟨State.PictureEnded.reelOver (.raise (.setEng (.setRequests (s.endPicture_ended h) _) ?_) ..) calm, ?_, ?_, ?_⟩
  · rfl
  · simp [State.tailJudge_eng, State.endPicture_eng]
  · rw [State.tailJudge_light, State.raise_light, State.setEng_light, State.setRequests_requests]
    simp [State.endPicture_light, Requests.place]
  · simp [State.tailJudge_notices, State.endPicture_notices]

theorem State.endReelShow_over (calm : s.orders.restart ≠ .waiting) :
    s.ReelOver (s.endReelShow h) h ∧ (s.endReelShow h).eng h.house = { s.eng h.house with state := .ended } ∧
      ((s.endReelShow h).light h.house).requests =
        { (s.light h.house).requests with
          shown := { position := (s.light h.house).endPos, fade := (s.light h.house).fastFade } } ∧
      (s.endReelShow h).notices = s.notices.raised .showDone (.house h.house) (some .ended) := by
  unfold State.endReelShow State.placeLight
  dsimp only
  refine ⟨State.PictureEnded.reelOver (.raise (.setEng (.setRequests (s.endPicture_ended h) _) ?_) ..) calm, ?_, ?_, ?_⟩
  · rfl
  · simp [State.tailJudge_eng, State.endPicture_eng]
  · rw [State.tailJudge_light, State.raise_light, State.setEng_light, State.setRequests_requests]
    simp [State.endPicture_light, Requests.place]
  · simp [State.tailJudge_notices, State.endPicture_notices]

end

/-- Settles O48: the last frame by the kind of the reel, the tail by the length its lookup answers. -/
theorem lastFrameEndsReel : Obligations.LastFrameEndsReel := by
  intro s h clear k e r n l t
  have calm : s.orders.restart ≠ .waiting := by rw [clear]; nofun
  refine ⟨fun showing running due => ?_, fun i tailing held => ?_, fun role => ?_⟩
  · have judged : s.judged h = true := State.judged_iff.mpr ⟨running, showing⟩
    have made := s.frameEvent_showing showing
    refine ⟨fun interval end_ strike motor change => ?_, fun interval end_ => ?_, fun end_ => ?_⟩
    · have ends := judge_last (n := 3) judged
        (fun strikes => by
          obtain ⟨-, undone, reached⟩ := strikes
          obtain done | before := strike
          · exact absurd (done.symm.trans undone) nofun
          · exact absurd reached (Nat.not_le.mpr before))
        (fun motors => by
          obtain ⟨-, untaken, reached⟩ := motors
          obtain taken | before := motor
          · exact absurd (taken.symm.trans untaken) nofun
          · exact absurd reached (Nat.not_le.mpr before))
        (fun changes => by
          obtain ⟨-, untaken, reached⟩ := changes
          obtain taken | before := change
          · exact absurd (taken.symm.trans untaken) nofun
          · exact absurd reached (Nat.not_le.mpr before))
        due
      have dark : t = s.darken h := by
        rw [if_neg (by rw [show (s.curReel h.house).showEnd = false from end_]; nofun),
          if_neg (by rw [show (s.curReel h.house).intervalAfter = false from interval]; nofun)] at ends
        exact made.trans ends
      rw [dark]
      exact s.darken_over h calm
    · obtain ⟨strike, motor, change⟩ := State.undue_of_last (s := s) (h := h)
        (by unfold Reel.isChangeover; rw [show (s.curReel h.house).intervalAfter = true from interval]; rfl)
      have ends := judge_last (n := 3) judged strike motor change due
      have ended : t = s.endReelInterval h := by
        rw [if_neg (by rw [show (s.curReel h.house).showEnd = false from end_]; nofun),
          if_pos (show (s.curReel h.house).intervalAfter = true from interval)] at ends
        exact made.trans ends
      rw [ended]
      exact s.endReelInterval_over h calm
    · obtain ⟨strike, motor, change⟩ := State.undue_of_last (s := s) (h := h)
        (by unfold Reel.isChangeover; rw [show (s.curReel h.house).showEnd = true from end_]; simp)
      have ends := judge_last (n := 3) judged strike motor change due
      have ended : t = s.endReelShow h := by
        rw [if_pos (show (s.curReel h.house).showEnd = true from end_)] at ends
        exact made.trans ends
      rw [ended]
      exact s.endReelShow_over h calm
  · have made : t = s.tailJudge h := s.frameEvent_tailing tailing
    intro last
    have own : ∀ j : Fin 64, (s.slot h).held = some j.val → j = i := fun j held' => Fin.ext (Option.some.inj (held'.symm.trans held))
    rw [made]
    refine ⟨fun runs => ?_, fun region reel after => ?_⟩
    · obtain outside | vacant | before := runs
      · exact State.tailJudge_unknown (State.heldLength_none fun j held' => .inl (by rw [own j held']; exact outside))
      · exact State.tailJudge_unknown (State.heldLength_none fun j held' => .inr (by rw [own j held']; exact vacant))
      · refine State.tailJudge_runs fun j held' => ?_
        obtain rfl : i.val = j := Option.some.inj (held.symm.trans held')
        rw [Programme.record_fin]
        exact before
    · rw [State.tailJudge_ends held tailing ((s.programme.inRegion_iff k i).mpr region) (by rw [Programme.record_fin]; exact reel)
        (by rw [Programme.record_fin]; exact after)]
      have away := State.Local.tailEnd s (h := h) rfl
      have frame := s.tailEnd_frame h
      refine ⟨s.tailEnd_slot h, s.tailEnd_motor h, ?_, fun lit => ⟨?_, s.tailEnd_lampEntry h lit⟩, (congrArg State.engines frame :),
        (congrArg State.lights frame :), (congrArg State.fire frame :), s.tailEnd_notices h, fun x ne => s.tailEnd_others h ne, away.house,
        away.sameTables calm⟩
      · rw [State.tailEnd_lamp]
        by_cases dark : (s.lamp h).state = .dark <;> simp [dark]
      · rw [State.tailEnd_douser, if_pos lit]
  · obtain empty | threaded | starting | ⟨showing, idle⟩ := role
    · show s.frameEvent h = s
      unfold State.frameEvent
      rw [empty]
    · show s.frameEvent h = s
      unfold State.frameEvent
      rw [threaded]
    · show s.frameEvent h = s
      unfold State.frameEvent
      rw [starting]
    · exact (s.frameEvent_showing showing).trans (judge_unjudged (fun judged => idle (State.judged_iff.mp judged).1) 4)

end Sys2Proof.Machine
end

section
/-! SUPPORT. A head that becomes ready (R110, R127, R130), by its run-up and its role. -/

namespace Sys2Proof.Machine

variable {J : Judge} {s t u : State} {k : House} {h inc : Head} {n : Nat}

/-! ### Operations on different parts, in either order -/

section
variable (s : State)

theorem State.rejudgeIdle_setEng (h : Head) (k : House) (e : Engine) : (s.setEng k e).rejudgeIdle h = (s.rejudgeIdle h).setEng k e := by
  by_cases burning : (s.lamp h).state = .burning
  · rw [State.rejudgeIdle_burning burning, State.rejudgeIdle_burning (s := s.setEng k e) burning]
    rfl
  · rw [State.rejudgeIdle_not_burning burning, State.rejudgeIdle_not_burning (s := s.setEng k e) burning]
    rfl

theorem State.setRole_setEng (h : Head) (r : Role) (k : House) (e : Engine) : (s.setEng k e).setRole h r = (s.setRole h r).setEng k e :=
  State.rejudgeIdle_setEng (s.setSlot h { role := r, held := (s.slot h).held }) h k e

theorem State.rejudgeIdle_writeDrive (h : Head) (d : DriveId) (v : DriveVal) :
    (s.writeDrive d v).rejudgeIdle h = (s.rejudgeIdle h).writeDrive d v := by
  by_cases burning : (s.lamp h).state = .burning
  · rw [State.rejudgeIdle_burning burning, State.rejudgeIdle_burning (s := s.writeDrive d v) burning]
    rfl
  · rw [State.rejudgeIdle_not_burning burning, State.rejudgeIdle_not_burning (s := s.writeDrive d v) burning]
    rfl

theorem State.setRole_writeDrive (h : Head) (r : Role) (d : DriveId) (v : DriveVal) :
    (s.writeDrive d v).setRole h r = (s.setRole h r).writeDrive d v :=
  State.rejudgeIdle_writeDrive (s.setSlot h { role := r, held := (s.slot h).held }) h d v

theorem State.lookupLight_setEng (k k' : House) (e : Engine) : (s.setEng k' e).lookupLight k = (s.lookupLight k).setEng k' e := by
  by_cases same : (s.light k).lookup (s.light k).position = (s.light k).lastTriple
  · rw [State.lookupLight_same same, State.lookupLight_same (s := s.setEng k' e) same]
  · rw [State.lookupLight_differs same, State.lookupLight_differs (s := s.setEng k' e) same]
    rfl

theorem State.setRequests_setEng (k k' : House) (r : Requests) (e : Engine) :
    (s.setEng k' e).setRequests k r = (s.setRequests k r).setEng k' e := by
  cases changed : (s.light k).requests.changed r with
  | false => rw [State.setRequests_unchanged changed, State.setRequests_unchanged (s := s.setEng k' e) changed]; rfl
  | true =>
    by_cases there : r.effective.2.position = (s.light k).position
    · rw [State.setRequests_atTarget changed there, State.setRequests_atTarget (s := s.setEng k' e) changed there]
      rfl
    · by_cases atOnce : r.effective.2.fade = 0
      · rw [State.setRequests_jumps changed there atOnce, State.setRequests_jumps (s := s.setEng k' e) changed there atOnce]
        exact State.lookupLight_setEng (s.setLight k _) k k' e
      · rw [State.setRequests_fades changed there atOnce, State.setRequests_fades (s := s.setEng k' e) changed there atOnce]
        rfl

end

theorem State.showPicture_setEng (s : State) (h : Head) (k : House) (e : Engine) :
    (s.setEng k e).showPicture h = (s.showPicture h).setEng k e := rfl

theorem State.setRole_showPicture (s : State) (h x : Head) (r : Role) : (s.showPicture x).setRole h r = (s.setRole h r).showPicture x := by
  unfold State.showPicture
  rw [State.setRole_writeDrive, State.setRole_writeDrive]

@[simp] theorem State.showPicture_eng (s : State) (h : Head) (k : House) : (s.showPicture h).eng k = s.eng k := rfl
@[simp] theorem State.showPicture_light (s : State) (h : Head) (k : House) : (s.showPicture h).light k = s.light k := rfl
@[simp] theorem State.showPicture_slot (s : State) (h x : Head) : (s.showPicture h).slot x = s.slot x := rfl
@[simp] theorem State.showPicture_role (s : State) (h x : Head) : (s.showPicture h).role x = s.role x := rfl
@[simp] theorem State.showPicture_programme (s : State) (h : Head) : (s.showPicture h).programme = s.programme := rfl
@[simp] theorem State.setRole_eng (s : State) (h : Head) (r : Role) (k : House) : (s.setRole h r).eng k = s.eng k := by simp [State.setRole]
@[simp] theorem State.setRole_light (s : State) (h : Head) (r : Role) (k : House) : (s.setRole h r).light k = s.light k := by
  simp [State.setRole]
@[simp] theorem State.setRole_programme (s : State) (h : Head) (r : Role) : (s.setRole h r).programme = s.programme := by
  simp [State.setRole]

/-! ### The entry to RUNNING (R110) -/

theorem Requests.shownFrom_withCue (r : Requests) (c : Option LightCue) : ({ r with fault := none } : Requests).shownFrom c = r.withCue c := by
  cases c <;> rfl

/-- The entry to RUNNING, its engine set at once. -/
theorem State.runupIdle_runShown (s : State) (h : Head) {i : Nat} (held : (s.slot h).held = some i) :
    (s.runupIdle h.house).runShown h =
      ((((s.setRole h .showing).setEng h.house { (s.eng h.house).fresh with state := .running, cur := i }).showPicture h).setRequests h.house
          ((s.light h.house).requests.withdraw .fault)).setRequests h.house
        ((s.light h.house).requests.withCue (s.programme.record i).light) := by
  unfold State.runShown State.runupIdle
  simp only [State.placeCue_eq, State.withdrawClaim_eq, State.showPicture_setEng, State.setRole_setEng, State.setRole_showPicture,
    State.setRequests_setEng, State.setEng_setEng, State.curReel]
  simp [State.setRequests_requests, State.setRole_slot, held]
  rw [Requests.shownFrom_withCue]
  rfl

/-! ### The readiness of a head, by its run-up (R110) -/

theorem State.motionReport_locked (locked : (s.mon h).motion = .locked) :
    s.motionReport h = if s.ready h then headReady judgeFrames h s else s := by
  unfold State.motionReport
  rw [locked]

theorem State.motionReport_ready (ready : s.ready h = true) : s.motionReport h = headReady judgeFrames h s := by
  rw [State.motionReport_locked (State.ready_iff.mp ready).1, if_pos ready]

section
variable {r : Runup} (run : (s.eng h.house).runup = some r) (own : r.head = h)
include run own

theorem State.runup_own : ((s.eng h.house).runup.filter fun r => r.head == h) = some r := by
  rw [run, Option.filter, own, beq_self_eq_true, if_pos rfl]

theorem headReady_start (purpose : r.purpose = .start) : headReady J h s = enterRunning J h (s.runupIdle h.house) := by
  unfold headReady
  dsimp only
  rw [State.runup_own run own]
  dsimp only
  rw [purpose]

theorem headReady_resumeShowing (purpose : r.purpose = .resume) (showing : s.role h = .showing) : headReady J h s = resumeReady J h s := by
  unfold headReady
  dsimp only
  rw [State.runup_own run own]
  dsimp only
  rw [purpose, showing]

theorem headReady_resumeStarting (purpose : r.purpose = .resume) (starting : s.role h = .starting) : headReady J h s = resumeSwap J h s := by
  unfold headReady
  dsimp only
  rw [State.runup_own run own]
  dsimp only
  rw [purpose, starting]

theorem headReady_resumeRests (purpose : r.purpose = .resume) (notStarting : s.role h ≠ .starting) (notShowing : s.role h ≠ .showing) :
    headReady J h s = s := by
  unfold headReady
  dsimp only
  rw [State.runup_own run own]
  dsimp only
  rw [purpose]
  split
  case h_1 => contradiction
  case h_2 => contradiction
  case h_3 showing => exact absurd showing notShowing
  case h_4 starting => exact absurd starting notStarting
  case h_5 => rfl

end

section
variable (other : ¬ ∃ r, (s.eng h.house).runup = some r ∧ r.head = h)
include other

theorem State.runup_other : ((s.eng h.house).runup.filter fun r => r.head == h) = none :=
  Option.filter_eq_none_iff.mpr fun r run own => other ⟨r, run, by simpa using own⟩

theorem headReady_again (running : (s.eng h.house).state = .running) (showing : s.role h = .showing) : headReady J h s = s.readyAgain h := by
  unfold headReady
  dsimp only
  rw [State.runup_other other, running, showing]

theorem headReady_pending (running : (s.eng h.house).state = .running) (starting : s.role h = .starting) :
    headReady J h s = if (s.eng h.house).changePending then swap J h s else s := by
  unfold headReady
  dsimp only
  rw [State.runup_other other, running, starting]

theorem headReady_rests
    (rests : (s.eng h.house).state ≠ .running ∨ (s.role h ≠ .showing ∧ (s.role h = .starting → (s.eng h.house).changePending = false))) :
    headReady J h s = s := by
  by_cases running : (s.eng h.house).state = .running
  · obtain ⟨hidden, calm⟩ := rests.resolve_left (not_not.mpr running)
    by_cases starting : s.role h = .starting
    · rw [headReady_pending other running starting, if_neg (by rw [calm starting]; nofun)]
    · unfold headReady
      dsimp only
      rw [State.runup_other other]
      dsimp only
      split
      case h_1 showing => exact absurd showing hidden
      case h_2 starts => exact absurd starts starting
      case h_3 => rfl
  · unfold headReady
    dsimp only
    rw [State.runup_other other]
    dsimp only
    split
    case h_1 runs _ => exact absurd runs running
    case h_2 runs _ => exact absurd runs running
    case h_3 => rfl

end

/-! ### The house taken up by a ready head -/

theorem incomingReady_rests (rests : (s.eng h.house).changePending = false ∨ (s.eng h.house).state ≠ .running) :
    incomingReady J h s = s.setEng h.house { s.eng h.house with runup := none } := by
  unfold incomingReady State.runupIdle
  dsimp only
  refine if_neg ?_
  rw [State.setEng_eng_same]
  obtain calm | idle := rests
  · simp [calm]
  · simp [idle]

theorem incomingReady_swaps (pending : (s.eng h.house).changePending = true) (running : (s.eng h.house).state = .running) :
    incomingReady J h s = swap J h (s.setEng h.house { s.eng h.house with runup := none }) := by
  unfold incomingReady State.runupIdle
  dsimp only
  refine if_pos ?_
  rw [State.setEng_eng_same]
  simp [pending, running]

/-- The picture back on the SHOWING head of a resumed house, before the steps of R119 are judged (R130). -/
def State.pictureBack (s : State) (h : Head) : State :=
  ((s.setEng h.house { s.eng h.house with runup := none, faultClaim := false, state := .running }).showPicture h).setRequests h.house
    { (s.light h.house).requests with fault := none }

theorem State.pictureBack_showing (s : State) {h : Head} (showing : s.role h = .showing) : (s.pictureBack h).role h = .showing := by
  rw [State.pictureBack, State.setRequests_role]
  exact showing

theorem resumeReady_eq (J : Judge) (h : Head) (s : State) :
    resumeReady J h s =
      if ((J h (s.pictureBack h)).eng h.house).motorTaken && ((J h (s.pictureBack h)).curReel h.house).isChangeover &&
          (J h (s.pictureBack h)).role ((J h (s.pictureBack h)).incoming h.house) == .threaded then
        startIncoming J ((J h (s.pictureBack h)).incoming h.house) (J h (s.pictureBack h))
      else J h (s.pictureBack h) := by
  have back : (let s1 := ((s.runupIdle h.house).showPicture h).withdrawClaim h.house
      s1.setEng h.house { s1.eng h.house with state := .running }) = s.pictureBack h := by
    unfold State.pictureBack State.runupIdle
    rw [State.withdrawClaim_eq]
    dsimp only
    simp only [State.showPicture_setEng, State.setRequests_setEng, State.setEng_setEng]
    simp
  rw [← back]
  rfl

/-- A head started for INCOMING that is not ready is no more than started. -/
theorem startIncoming_unready (unready : s.ready inc ≠ true) : startIncoming J inc s = s.incomingStarted inc := by
  have ready : s.ready inc = decide ((s.mon inc).motion = .locked ∧ (s.lamp inc).state = .burning) := rfl
  have started : s.incomingStarted inc =
      (s.begun inc .incoming).setEng inc.house
        { s.eng inc.house with runup := if s.ready inc then none else some (s.runupOf inc .incoming) } := by
    rw [← s.begun_eng inc .incoming inc.house, ready]
    simp only [decide_eq_true_eq]
    rfl
  unfold startIncoming
  dsimp only
  rw [State.startHeadBase_ready, if_neg unready, State.startHeadBase_eq, started, if_neg unready]

/-- A monitor's move to LOCKED in service with the gate open: the hold line is asserted and the idle timer is none. -/
theorem State.moved_locked {m : Monitor} (locked : m.motion = .locked) (service : m.inService = true)
    (gate : (s.fireOf h.house).gate = true) : s.moved h m = s.setMon h { m with hold := true, idleTimer := none } := by
  have held : (decide (m.motion = .locked) && m.inService && (s.fireOf h.house).gate) = true := by
    rw [decide_eq_true locked, service, gate]
    rfl
  have moving : ¬ ((s.lamp h).state = .burning ∧ m.motion = .stopped ∧ s.role h ≠ .showing) := fun c => by
    have stopped := c.2.1
    rw [locked] at stopped
    cases stopped
  rw [State.moved_eq, held, if_neg fun c => Bool.false_ne_true c.2.1.symm, State.moved_mon, held, if_neg moving]

/-- A pulse that completes the streak locks the head, and the engine is told (R51, R110). -/
theorem State.acceptPulse_locks {p : Nat} (service : (s.mon h).inService = true) (last : (s.mon h).lastPulse = some p)
    (band : 10000 / (s.mon h).fps - 10000 / (s.mon h).fps / 20 ≤ s.now - p ∧ s.now - p ≤ 10000 / (s.mon h).fps + 10000 / (s.mon h).fps / 20)
    (rising : (s.mon h).motion = .runup ∨ (s.mon h).motion = .slow) (streak : (s.mon h).streak = 7) (gate : (s.fireOf h.house).gate = true) :
    s.acceptPulse h =
      ((s.framed h).setMon h
        { (s.framed h).mon h with
          motion := .locked, streak := 8, interval := some (s.now - p)
          slowTimer := some (s.now + (10000 / (s.mon h).fps + 10000 / (s.mon h).fps / 4))
          stopTimer := some (s.now + (s.mon h).stopLimit * 10), hold := true, idleTimer := none }).motionReport h := by
  have pulsed : (s.mon h).pulsed s.now =
      { (s.mon h).accepted s.now with
        motion := .locked, streak := 8, interval := some (s.now - p)
        slowTimer := some (s.now + (10000 / (s.mon h).fps + 10000 / (s.mon h).fps / 4))
        stopTimer := some (s.now + (s.mon h).stopLimit * 10) } := by
    rw [Monitor.pulsed_rising rising last]
    exact (if_pos (inBand_iff.mpr band)).trans (if_pos (congrArg (· + 1) streak))
  have moves : ((s.mon h).pulsed s.now).motion ≠ (s.mon h).motion := by
    rw [pulsed]
    obtain e | e := rising <;> rw [e] <;> nofun
  rw [State.acceptPulse_moves moves, State.moved_locked (by rw [pulsed]) (by rw [pulsed]; exact service)
    (by rw [(s.framed_side h).fireOf]; exact gate), pulsed, State.framed_mon]

/-- Settles O37: the reports by the run-up and the role they find, then the pulse that completes the streak. -/
theorem readyHeadsAct : Obligations.ReadyHeadsAct := by
  refine ⟨fun s h => ?_, fun s dt p h awake => ?_⟩
  · intro k e mine up
    refine ⟨fun unlit locked => ?_, fun unlocked => ?_, fun locked burning => ?_⟩
    · rw [State.motionReport_locked locked, if_neg fun ready => unlit (State.ready_iff.mp ready).2]
    · exact if_neg fun ready => unlocked (State.ready_iff.mp ready).1
    have ready : s.ready h = true := State.ready_iff.mpr ⟨locked, burning⟩
    have report := State.motionReport_ready ready
    refine ⟨(if_pos ready).trans report.symm, fun r run own purpose i held => ?_, fun r run own purpose => ⟨fun rests => ?_, fun pending running ends => ?_⟩,
      fun r run own purpose => ⟨fun starting ends => ?_, fun showing inc house => ?_, fun notStarting notShowing => ?_⟩,
      fun other => ⟨fun running showing => ?_, fun running starting pending ends => ?_, fun rests => ?_⟩⟩
    · intro lit
      rw [report, headReady_start run own purpose, enterRunning_eq, State.runupIdle_runShown s h held]
      refine (State.frameEvent_showing ?_).symm
      rw [State.setRequests_role, State.setRequests_role]
      show (s.setRole h .showing).role h = .showing
      rw [State.setRole_role, if_pos rfl]
    · rw [report, headReady_incoming run own purpose]
      exact incomingReady_rests rests
    · rw [report, headReady_incoming run own purpose, incomingReady_swaps pending running]
      have kept : (s.setEng k { e with runup := none }).SwapEnds h := ends.setEng rfl rfl rfl
      exact (swap_swapped kept 4).of_setEng rfl
    · rw [report, headReady_resumeStarting run own purpose starting]
      have kept : (s.setEng k { e with runup := none, state := .running }).SwapEnds h := ends.setEng rfl rfl rfl
      refine State.Swapped.of_setEng (e := { e with runup := none, state := .running }) ?_ (by rw [State.setEng_eng_same]; rfl)
      rw [State.setEng_setEng]
      exact swap_swapped kept 4
    · intro back reel side again
      have judged : judgeFrames h (s.pictureBack h) = back := (State.frameEvent_showing (s.pictureBack_showing showing)).symm
      have incoming : back.incoming k = inc := State.incoming_of house side
      have asks : ((back.eng k).motorTaken && (back.curReel k).isChangeover && back.role inc == .threaded) = true ↔ again := by
        simp only [Bool.and_eq_true, beq_iff_eq, Reel.isChangeover_iff, and_assoc]
        rfl
      have made : resumeReady judgeFrames h s = _ := resumeReady_eq judgeFrames h s
      rw [judged, incoming] at made
      rw [report, headReady_resumeShowing run own purpose showing, made]
      refine ⟨fun once => if_neg (mt asks.mp once), fun twice rests => (if_pos (asks.mpr twice)).trans ?_⟩
      obtain calm | moving := rests
      · exact startIncoming_eq (by rw [house]; exact calm)
      · exact startIncoming_unready fun ready => by
          obtain ⟨locked, burning⟩ := State.ready_iff.mp ready
          exact moving.elim (absurd locked) (absurd burning)
    · rw [report, headReady_resumeRests run own purpose notStarting notShowing]
    · rw [report, headReady_again other running showing]
      rfl
    · rw [report, headReady_pending other running starting, if_pos pending]
      exact swap_swapped ends 4
    · rw [report, headReady_rests other rests]
  · intro now m tn service last apart low high rising streak gate framed
    have made := State.pulse_accepted (s := s.elapse dt) service fun p' last' => by
      obtain rfl : p = p' := Option.some.inj (last.symm.trans last')
      exact apart
    exact framePulse_becomes awake (made.trans (State.acceptPulse_locks service last ⟨low, high⟩ rising streak gate))

end Sys2Proof.Machine
end

section
/-! SUPPORT. THREAD (R107, R108). -/

namespace Sys2Proof.Machine

variable {J : Judge} {s t u : State} {k : House} {h inc : Head} {n i : Nat}

theorem State.setEng_self (s : State) (k : House) : s.setEng k (s.eng k) = s := by
  unfold State.setEng State.eng
  rw [PerHouse.set_get_self]

theorem State.incoming_iff : s.incoming h.house = h ↔ h.side ≠ (s.curReel h.house).side := by
  refine ⟨fun same other => ?_, State.incoming_of rfl⟩
  have outgoing : s.outgoing h.house = h := by
    unfold State.outgoing
    rw [← other]
    cases h <;> rfl
  rw [State.incoming, outgoing] at same
  exact Head.partner_ne h same

/-! ### The checks of THREAD (R107) -/

/-- A house that takes threads (R107). -/
def State.Threads (s : State) (k : House) : Prop :=
  (s.eng k).state = .armed ∨ (s.eng k).state = .running ∨ (s.eng k).state = .interval

theorem State.threads_iff :
    ((s.eng k).state == .armed || (s.eng k).state == .running || (s.eng k).state == .interval) = true ↔ s.Threads k := by
  unfold State.Threads
  simp only [Bool.or_eq_true, beq_iff_eq, or_assoc]

theorem State.thread_refused (refused : ¬ s.Threads h.house ∨ (s.mon h).inService = false ∨ (s.role h ≠ .empty ∧ s.role h ≠ .threaded)) :
    s.thread h = (s, .badState) := by
  unfold State.thread
  dsimp only
  by_cases threads : s.Threads h.house
  · rw [if_neg (by rw [State.threads_iff.mpr threads]; nofun)]
    cases service : (s.mon h).inService with
    | false => exact if_pos rfl
    | true =>
      obtain ⟨held, loose⟩ := (refused.resolve_left (not_not.mpr threads)).resolve_left (by rw [service]; nofun)
      refine (if_neg nofun).trans ?_
      split
      · rename_i threaded
        exact absurd threaded loose
      · rename_i empty
        exact absurd empty held
      · rfl
  · exact if_pos (by rw [Bool.eq_false_iff.mpr (mt State.threads_iff.mp threads)]; rfl)

section
variable (threads : s.Threads h.house) (service : (s.mon h).inService = true)
include threads service

theorem State.thread_threaded (threaded : s.role h = .threaded) (held : (s.slot h).held = some i) :
    s.thread h = (s.threadAccepted h i, .done) := by
  unfold State.thread
  dsimp only
  rw [if_neg (by rw [State.threads_iff.mpr threads]; nofun), if_neg (by rw [service]; nofun), threaded, held]
  rfl

variable (empty : s.role h = .empty)
include empty

theorem State.thread_noReel
    (vacant : s.programme.inRegion h.house ((s.eng h.house).highest + 1).toNat = false ∨
      (s.programme.record ((s.eng h.house).highest + 1).toNat).last = 0) : s.thread h = (s, .noReel) := by
  unfold State.thread
  dsimp only
  rw [if_neg (by rw [State.threads_iff.mpr threads]; nofun), if_neg (by rw [service]; nofun), empty]
  refine if_pos ?_
  obtain outside | none := vacant
  · rw [outside]; rfl
  · rw [none]; simp

variable (inside : s.programme.inRegion h.house ((s.eng h.house).highest + 1).toNat = true)
  (reel : (s.programme.record ((s.eng h.house).highest + 1).toNat).last ≠ 0)
include inside reel

theorem State.thread_wrongHead (side : (s.programme.record ((s.eng h.house).highest + 1).toNat).side ≠ h.side) :
    s.thread h = (s, .wrongHead) := by
  unfold State.thread
  dsimp only
  rw [if_neg (by rw [State.threads_iff.mpr threads]; nofun), if_neg (by rw [service]; nofun), empty]
  refine (if_neg ?_).trans (if_pos side)
  rw [inside]
  simpa using reel

theorem State.thread_empty (side : (s.programme.record ((s.eng h.house).highest + 1).toNat).side = h.side) :
    s.thread h =
      ((s.setEng h.house { s.eng h.house with highest := ((s.eng h.house).highest + 1).toNat }).threadAccepted h
        ((s.eng h.house).highest + 1).toNat, .done) := by
  unfold State.thread
  dsimp only
  rw [if_neg (by rw [State.threads_iff.mpr threads]; nofun), if_neg (by rw [service]; nofun), empty]
  refine (if_neg ?_).trans (if_neg (not_not.mpr side))
  rw [inside]
  simpa using reel

end

/-! ### A THREAD accepted (R86, R107, R108) -/

/-- The engine as an accepted THREAD leaves it: a record newly given is the highest assigned. -/
def State.threadEng (s : State) (h : Head) (i : Nat) : Engine :=
  if s.role h = .empty then { s.eng h.house with highest := i } else s.eng h.house

/-- A head threaded, before what follows within its event: the record held, the counter cleared, the carbon checked. -/
def State.threadChecked (s : State) (h : Head) (i : Nat) : State :=
  let slotted := (s.setEng h.house (s.threadEng h i)).assign h .threaded (some i)
  let checked := (slotted.setMon h { slotted.mon h with counter := 0 }).setLamp h
    { s.lamp h with carbonLow := (s.lamp h).short (s.mon h).fps (s.programme.record i).last }
  if (s.lamp h).short (s.mon h).fps (s.programme.record i).last then checked.raise .carbonLow (.head h) (some .thread) else checked

theorem State.threadAccepted_checked (s : State) (h : Head) (i : Nat) :
    (s.setEng h.house (s.threadEng h i)).threadAccepted h i = (s.threadChecked h i).afterThread h := by
  have fps : (((s.setEng h.house (s.threadEng h i)).assign h .threaded (some i)).mon h).fps = (s.mon h).fps :=
    (congrArg Monitor.fps (State.assign_mon (s.setEng h.house (s.threadEng h i)) h h .threaded (some i)) :)
  unfold State.threadAccepted State.threadChecked State.resetCounter State.carbonCheckThread
  dsimp only
  rw [State.setMon_mon_same]
  simp only [State.setMon_lamp, State.assign_lamp, State.setEng_lamp, State.setMon_programme, State.assign_programme,
    State.setEng_programme, fps]

/-- An accepted THREAD, of a head that holds its record already or is given the next one. -/
theorem State.thread_accepted (threads : s.Threads h.house) (service : (s.mon h).inService = true)
    (given : s.role h = .threaded ∧ (s.slot h).held = some i ∨
      s.role h = .empty ∧ i = ((s.eng h.house).highest + 1).toNat ∧ s.programme.inRegion h.house i = true ∧
        (s.programme.record i).last ≠ 0 ∧ (s.programme.record i).side = h.side) :
    s.thread h = ((s.threadChecked h i).afterThread h, .done) := by
  rw [← State.threadAccepted_checked]
  obtain ⟨threaded, held⟩ | ⟨empty, rfl, inside, reel, side⟩ := given
  · rw [State.thread_threaded threads service threaded held, State.threadEng, if_neg (by rw [threaded]; nofun), State.setEng_self]
  · rw [State.thread_empty threads service empty inside reel side, State.threadEng, if_pos empty]

section
variable (s : State) (h : Head) (i : Nat)

theorem State.threadChecked_eng : (s.threadChecked h i).eng h.house = s.threadEng h i := by
  unfold State.threadChecked
  dsimp only
  split <;> simp

theorem State.threadChecked_programme : (s.threadChecked h i).programme = s.programme := by
  unfold State.threadChecked
  dsimp only
  split <;> simp

theorem State.threadEng_cur : (s.threadEng h i).cur = (s.eng h.house).cur ∧ (s.threadEng h i).state = (s.eng h.house).state ∧
    (s.threadEng h i).motorTaken = (s.eng h.house).motorTaken ∧ (s.threadEng h i).strikeDone = (s.eng h.house).strikeDone := by
  unfold State.threadEng
  split <;> exact ⟨rfl, rfl, rfl, rfl⟩

/-- A late THREAD: of the incoming head of a RUNNING house with a changeover reel on the screen (R108). -/
def State.LateThread (s : State) (h : Head) : Prop :=
  (s.eng h.house).state = .running ∧ (s.curReel h.house).intervalAfter = false ∧ (s.curReel h.house).showEnd = false ∧
    h.side ≠ (s.curReel h.house).side

theorem State.threadChecked_late :
    ((((s.threadChecked h i).eng h.house).state == .running && (s.threadChecked h i).incoming h.house == h &&
      ((s.threadChecked h i).curReel h.house).isChangeover) = true ↔ s.LateThread h) := by
  obtain ⟨cur, state, -, -⟩ := s.threadEng_cur h i
  have reel : (s.threadChecked h i).curReel h.house = s.curReel h.house := by
    unfold State.curReel
    rw [State.threadChecked_programme, State.threadChecked_eng, cur]
  have incoming : (s.threadChecked h i).incoming h.house = s.incoming h.house := by
    unfold State.incoming State.outgoing
    rw [reel]
  rw [incoming, reel, State.threadChecked_eng, state]
  unfold State.LateThread
  simp only [Bool.and_eq_true, beq_iff_eq, State.incoming_iff, Reel.isChangeover_iff]
  tauto

/-- What follows an accepted THREAD within its event (R108). -/
theorem State.afterThread_eq :
    (¬ s.LateThread h → (s.threadChecked h i).afterThread h = s.threadChecked h i) ∧
    (s.LateThread h → (s.eng h.house).motorTaken = true →
      (s.threadChecked h i).afterThread h = (s.threadChecked h i).headStarted h .incoming) ∧
    (s.LateThread h → (s.eng h.house).motorTaken = false → (s.eng h.house).strikeDone = true →
      (s.threadChecked h i).afterThread h = (s.threadChecked h i).strikeRequest h) ∧
    (s.LateThread h → (s.eng h.house).motorTaken = false → (s.eng h.house).strikeDone = false →
      (s.threadChecked h i).afterThread h = s.threadChecked h i) := by
  obtain ⟨-, -, motor, strike⟩ := s.threadEng_cur h i
  have late := s.threadChecked_late h i
  unfold State.afterThread
  dsimp only
  rw [← startIncoming_headStarted]
  refine ⟨fun early => if_neg (mt late.mp early), fun l taken => (if_pos (late.mpr l)).trans (if_pos ?_),
    fun l untaken struck => (if_pos (late.mpr l)).trans ((if_neg ?_).trans (if_pos ?_)),
    fun l untaken unstruck => (if_pos (late.mpr l)).trans ((if_neg ?_).trans (if_neg ?_))⟩
  · rw [State.threadChecked_eng, motor, taken]
  · rw [State.threadChecked_eng, motor, untaken]; nofun
  · rw [State.threadChecked_eng, strike, struck]
  · rw [State.threadChecked_eng, motor, untaken]; nofun
  · rw [State.threadChecked_eng, strike, unstruck]; nofun

end

/-! ### What an accepted THREAD moves -/

section
variable (s : State) (h : Head) (i : Nat)

theorem State.threadChecked_slots (x : Head) :
    (s.threadChecked h i).slot x = if x = h then { role := .threaded, held := some i } else s.slot x := by
  unfold State.threadChecked
  dsimp only
  split <;> simp [State.assign_slot]

theorem State.threadChecked_lamps :
    (s.threadChecked h i).lamps =
      s.lamps.set h { s.lamp h with carbonLow := (s.lamp h).short (s.mon h).fps (s.programme.record i).last } := by
  unfold State.threadChecked
  dsimp only
  split
  · rw [State.raise_lamps, State.setLamp, State.setMon_lamps, State.assign_lamps]
    rfl
  · rw [State.setLamp, State.setMon_lamps, State.assign_lamps]
    rfl

theorem State.threadChecked_mon :
    { (s.threadChecked h i).mon h with idleTimer := (s.mon h).idleTimer } = { s.mon h with counter := 0 } := by
  have kept := State.assign_mon (s.setEng h.house (s.threadEng h i)) h h .threaded (some i)
  rw [State.setEng_mon] at kept
  have mon : (s.threadChecked h i).mon h =
      { ((s.setEng h.house (s.threadEng h i)).assign h .threaded (some i)).mon h with counter := 0 } := by
    unfold State.threadChecked
    dsimp only
    split <;> simp
  rw [mon]
  exact (congrArg (fun m : Monitor => { m with counter := 0 }) kept :)

theorem State.threadChecked_mon_ne {x : Head} (ne : x ≠ h) : (s.threadChecked h i).mon x = s.mon x := by
  unfold State.threadChecked
  dsimp only
  split
  · rw [State.raise_mon, State.setLamp_mon, State.setMon_mon_ne _ _ ne, State.assign_mon_ne _ _ _ ne, State.setEng_mon]
  · rw [State.setLamp_mon, State.setMon_mon_ne _ _ ne, State.assign_mon_ne _ _ _ ne, State.setEng_mon]

theorem State.threadChecked_notices :
    (s.threadChecked h i).notices =
      if (s.lamp h).short (s.mon h).fps (s.programme.record i).last then s.notices.raised .carbonLow (.head h) (some .thread)
      else s.notices := by
  unfold State.threadChecked
  dsimp only
  split <;> simp

theorem State.threadChecked_entry (d : DriveId) : (s.threadChecked h i).entry d = s.entry d := by
  unfold State.threadChecked
  dsimp only
  split <;> simp

theorem State.threadChecked_lights : (s.threadChecked h i).lights = s.lights := by
  unfold State.threadChecked
  dsimp only
  split <;> simp

theorem State.threadChecked_fire : (s.threadChecked h i).fire = s.fire := by
  unfold State.threadChecked
  dsimp only
  split <;> simp

theorem State.threadChecked_others {x : Head} (ne : x ≠ h) : s.SameHead (s.threadChecked h i) x := by
  refine ⟨s.threadChecked_mon_ne h i ne, ?_, ?_⟩
  · rw [State.lamp, State.threadChecked_lamps, PerHead.get_set_ne _ _ ne]; rfl
  · rw [State.threadChecked_slots, if_neg ne]

end

/-- Settles O29: the checks of THREAD in order, then the head threaded and what follows within its event. -/
theorem threadTakesNextRecord : Obligations.ThreadTakesNextRecord := by
  intro s dt src target listens c refused
  have calm : (s.heard dt).orders.restart = .clear := listens.calm
  have quiet : (s.heard dt).orders.restart ≠ .waiting := by rw [calm]; nofun
  have performs : ∀ h after r, headOf target = some h → (s.heard dt).thread h = (after, r) → s.Performs c src 0x0E r [] after :=
    fun h after r named made => by
      have away : State.Local h.house (s.heard dt) ((s.heard dt).thread h).1 := State.Local.thread _ h
      refine show_performs (run := judgeThread target none) listens rfl (headShow_answers named made) ?_
      rw [made] at away
      rw [away.orders quiet]
      exact calm
  refine ⟨fun unnamed => ?_, fun h named => ?_⟩
  · exact show_performs (run := judgeThread target none) listens rfl (headShow_unnamed unnamed _ _) calm
  intro k e open_
  refine ⟨fun fails => ?_, fun threads service empty => ⟨fun vacant => ?_, fun inside reel side => ?_⟩, fun i rests service given => ?_,
    fun i threads service given => ?_⟩
  · exact performs h _ _ named (State.thread_refused (s := s.heard dt) fails)
  · exact performs h _ _ named (State.thread_noReel (s := s.heard dt) threads service empty vacant)
  · exact performs h _ _ named (State.thread_wrongHead (s := s.heard dt) threads service empty inside reel side)
  · intro short
    have threads : (s.heard dt).Threads h.house := by
      obtain armed | interval := rests
      · exact .inl armed
      · exact .inr (.inr interval)
    have early : ¬ (s.heard dt).LateThread h := fun late => by
      have running : e.state = .running := late.1
      obtain armed | interval := rests
      · rw [armed] at running; cases running
      · rw [interval] at running; cases running
    have made := State.thread_accepted (s := s.heard dt) threads service given
    rw [((s.heard dt).afterThread_eq h i).1 early] at made
    have away : State.Local h.house (s.heard dt) ((s.heard dt).thread h).1 := State.Local.thread _ h
    rw [made] at away
    obtain ⟨t, ran, settles, answers⟩ := performs h _ _ named made
    refine ⟨t, ran, answers, ?_, ?_, ?_, ?_, ?_, fun d => ?_, ?_, ?_, fun x ne => settles.sameHead ((s.heard dt).threadChecked_others h i ne),
      settles.sameHouse away.house, settles.sameTables (away.sameTables quiet)⟩
    · rw [settles.slot, State.threadChecked_slots, if_pos rfl]
    · rw [settles.mon]; exact (s.heard dt).threadChecked_mon h i
    · rw [settles.lamp, State.lamp, State.threadChecked_lamps, PerHead.get_set_same]; rfl
    · rw [settles.eng, State.threadChecked_eng]; rfl
    · rw [settles.notices, State.threadChecked_notices]
      exact if_congr decide_eq_true_iff rfl rfl
    · rw [settles.value, State.threadChecked_entry]; rfl
    · exact (congrArg State.lights settles.rest :).trans ((s.heard dt).threadChecked_lights h i)
    · rw [settles.fire, State.threadChecked_fire]; rfl
  · intro short slotted checked threaded cur late
    have made := State.thread_accepted (s := s.heard dt) threads service given
    obtain ⟨early, taken, struck, unstruck⟩ := (s.heard dt).afterThread_eq h i
    have same : (s.heard dt).threadChecked h i = threaded := if_congr decide_eq_true_iff rfl rfl
    rw [same] at made early taken struck unstruck
    refine ⟨fun l => ?_, fun l motor => ?_, fun l motor strike => ?_, fun l motor strike => ?_⟩
    · exact performs h _ _ named (made.trans (by rw [early l]))
    · exact performs h _ _ named (made.trans (by rw [taken l motor]))
    · exact performs h _ _ named (made.trans (by rw [struck l motor strike]))
    · exact performs h _ _ named (made.trans (by rw [unstruck l motor strike]))

end Sys2Proof.Machine
end

section
/-! SUPPORT. START and RESUME (R109, R112, R130). -/

namespace Sys2Proof.Machine

variable {J : Judge} {s t u : State} {k : House} {h inc : Head} {n i : Nat}

/-! ### Which head is found -/

/-- The first head of a house that alone satisfies a condition is found. -/
theorem House.heads_find {k : House} {p : Head → Bool} (own : h.house = k) (holds : p h = true) (alone : p h.partner = false) :
    k.heads.find? p = some h := by
  subst own
  have second : p h.partner ≠ true := ne_true_of_eq_false alone
  cases h
  case h1 | h3 => exact List.find?_cons_of_pos holds
  case h2 | h4 => exact (List.find?_cons_of_neg second).trans (List.find?_cons_of_pos holds)

theorem State.threadedHolding_found (own : h.house = k) (threaded : s.role h = .threaded) (held : (s.slot h).held = some i)
    (alone : (s.slot h.partner).held ≠ (s.slot h).held) : s.threadedHolding k i = some h := by
  unfold State.threadedHolding State.headHolding
  rw [House.heads_find own (by rw [held]; exact beq_self_eq_true _) (by rw [← held]; exact beq_eq_false_iff_ne.mpr alone), Option.filter,
    if_pos (by rw [threaded]; rfl)]

theorem State.threadedHolding_none (missing : ∀ h, h.house = k → ¬ (s.role h = .threaded ∧ (s.slot h).held = some i)) :
    s.threadedHolding k i = none := by
  cases found : s.threadedHolding k i with
  | none => rfl
  | some h =>
    obtain ⟨own, threaded, held⟩ := State.Meets.threadedHolding_some found
    exact absurd ⟨threaded, held⟩ (missing h own)

theorem State.showingHead_found (own : h.house = k) (showing : s.role h = .showing) (alone : s.role h.partner ≠ .showing) :
    s.showingHead k = some h :=
  House.heads_find own (by rw [showing]; rfl) (beq_eq_false_iff_ne.mpr alone)

theorem State.showingHead_none (missing : ∀ h, h.house = k → s.role h ≠ .showing) : s.showingHead k = none := by
  refine List.find?_eq_none.mpr fun h mem showing => ?_
  exact missing h (House.house_of_mem_heads mem) (eq_of_beq showing)

/-! ### START and RESUME by the state they find -/

/-- The head that START starts with the house at rest: the THREADED one that holds record cur in ARMED, cur + 1 in INTERVAL (R112). -/
def State.Begins (s : State) (k : House) (h : Head) : Prop :=
  (s.eng k).state = .armed ∧ (s.slot h).held = some (s.eng k).cur ∨ (s.eng k).state = .interval ∧ (s.slot h).held = some ((s.eng k).cur + 1)

theorem State.start_begins (own : h.house = k) (threaded : s.role h = .threaded) (begins : s.Begins k h)
    (alone : (s.slot h.partner).held ≠ (s.slot h).held) : s.start k = (s.headStarted h .start, .done) := by
  unfold State.start
  dsimp only
  obtain ⟨state, held⟩ | ⟨state, held⟩ := begins
  all_goals
    rw [state, State.threadedHolding_found own threaded held alone, ← startHead_eq]

theorem State.start_refused
    (armed : (s.eng k).state = .armed → ∀ h, h.house = k → ¬ (s.role h = .threaded ∧ (s.slot h).held = some (s.eng k).cur))
    (interval : (s.eng k).state = .interval → ∀ h, h.house = k → ¬ (s.role h = .threaded ∧ (s.slot h).held = some ((s.eng k).cur + 1)))
    (resting : (s.eng k).state ≠ .running) : s.start k = (s, .badState) := by
  unfold State.start
  dsimp only
  split
  · rename_i state
    rw [State.threadedHolding_none (armed state)]
  · rename_i state
    rw [State.threadedHolding_none (interval state)]
  · exact absurd ‹_› resting
  · rfl

section
variable (own : inc.house = k) (side : inc.side ≠ (s.curReel k).side)
include own side

/-- Whether START starts the incoming head of a RUNNING house (R112). -/
theorem State.start_manual_iff :
    ((s.eng k).motorTaken && (s.curReel k).isChangeover && s.role (s.incoming k) == .threaded) = true ↔
      (s.eng k).motorTaken = true ∧ (s.curReel k).intervalAfter = false ∧ (s.curReel k).showEnd = false ∧ s.role inc = .threaded := by
  rw [State.incoming_of own side, Bool.and_eq_true, Bool.and_eq_true, Reel.isChangeover_iff, beq_iff_eq]
  tauto

theorem State.start_running (running : (s.eng k).state = .running) :
    s.start k =
      if (s.eng k).motorTaken = true ∧ (s.curReel k).intervalAfter = false ∧ (s.curReel k).showEnd = false ∧ s.role inc = .threaded then
        (s.headStarted inc .incoming, .done)
      else (s, .badState) := by
  unfold State.start
  dsimp only
  rw [running, ← startIncoming_headStarted]
  dsimp only
  rw [← if_congr (State.start_manual_iff own side) rfl rfl, State.incoming_of own side]

theorem State.resume_dark (halted : (s.eng k).state = .halted) (calm : (s.fireOf k).state ≠ .fire)
    (missing : ∀ h, h.house = k → s.role h ≠ .showing) :
    s.resume k =
      if (s.eng k).dark = true ∧ (s.eng k).changePending = true ∧ s.role inc = .threaded then (s.headStarted inc .resume, .done)
      else (s, .badState) := by
  have pending : ((s.eng k).dark && (s.eng k).changePending && s.role (s.incoming k) == .threaded) = true ↔
      (s.eng k).dark = true ∧ (s.eng k).changePending = true ∧ s.role inc = .threaded := by
    rw [State.incoming_of own side, Bool.and_eq_true, Bool.and_eq_true, beq_iff_eq, and_assoc]
  unfold State.resume
  dsimp only
  rw [if_neg (by rw [halted, Bool.eq_false_iff.mpr (mt State.inFire_iff.mp calm)]; nofun), State.showingHead_none missing, ← startHead_eq]
  dsimp only
  rw [← if_congr pending rfl rfl, State.incoming_of own side]

end

theorem State.resume_refused (refused : (s.eng k).state ≠ .halted ∨ (s.fireOf k).state = .fire) : s.resume k = (s, .badState) := by
  refine if_pos ?_
  rw [Bool.or_eq_true, bne_iff_ne, State.inFire_iff]
  exact refused

theorem State.resume_showing (own : h.house = k) (halted : (s.eng k).state = .halted) (calm : (s.fireOf k).state ≠ .fire)
    (showing : s.role h = .showing) (alone : s.role h.partner ≠ .showing) : s.resume k = (s.headStarted h .resume, .done) := by
  unfold State.resume
  dsimp only
  rw [if_neg (by rw [halted, Bool.eq_false_iff.mpr (mt State.inFire_iff.mp calm)]; nofun), State.showingHead_found own showing alone,
    ← startHead_eq]

/-! ### A head started cold -/

/-- A head started with its lamp dark and rod left: the lamp struck, the motor run, the run-up begun (R109). -/
theorem State.headStarted_cold {p : Purpose} (service : (s.mon h).inService = true) (calm : (s.fireOf h.house).state ≠ .fire)
    (rod : (s.lamp h).rod ≠ 0) (unlit : (s.lamp h).state = .dark ∨ (s.lamp h).state = .failed)
    (keeps : p = .resume → s.role h = .showing) :
    s.headStarted h p =
      (({ s with
          slots := s.slots.set h { s.slot h with role := if p = .resume then s.role h else .starting }
          engines := s.engines.set h.house
            { s.eng h.house with
              runup := some { head := h, purpose := p, deadline := s.ms + (s.eng h.house).runupLimit * 1000 } }
          lamps := s.lamps.set h
            { s.lamp h with
              state := .striking, contactor := true
              strikeTimer := some (s.ms + (s.lamp h).record.strikeLimit * 1000) }
          monitors := s.monitors.set h { s.mon h with idleTimer := none } } : State).writeDrive (.lamp h) (.lamp true)).writeDrive
        (.motor h) (.motor true) := by
  have dark : ¬ ((s.mon h).motion = .locked ∧ (s.lamp h).state = .burning) := fun c => by
    rw [c.2] at unlit
    obtain e | e := unlit <;> cases e
  have struck := State.strikeRequest_strikes (State.strikeIgnored_taken service calm unlit) rod
  unfold State.headStarted
  dsimp only
  rw [if_neg dark, struck]
  by_cases resumed : p = .resume
  · subst resumed
    rw [if_pos ⟨rfl, keeps rfl⟩, if_pos rfl]
    have slots : s.slots.set h { s.slot h with role := s.role h } = s.slots := PerHead.set_get_self _ _
    rw [slots]
    rfl
  · rw [if_neg fun c => resumed c.1, if_neg resumed]
    have role : ∀ t : State, (t.lamp h).state ≠ .burning → (t.mon h).idleTimer = none →
        t.setRole h .starting = { t with slots := t.slots.set h { t.slot h with role := .starting } } := fun t burning idle =>
      State.rejudgeIdle_same (s := { t with slots := t.slots.set h { t.slot h with role := .starting } }) burning idle
    rw [role]
    · rfl
    · simp
    · simp

/-- Settles O30: START and RESUME by the house state they find, and the head started cold written out. -/
theorem startAndResumeRunUp : Obligations.StartAndResumeRunUp := by
  intro s dt src target k listens named e started
  have calm : (s.heard dt).orders.restart = .clear := listens.calm
  have quiet : (s.heard dt).orders.restart ≠ .waiting := by rw [calm]; nofun
  have performsStart : ∀ after r, (s.heard dt).start k = (after, r) → s.Performs (.showStart dt src target none) src 0x0E r [] after :=
    fun after r made => by
      have away : State.Local k (s.heard dt) ((s.heard dt).start k).1 := State.Local.start k _
      refine show_performs (run := judgeStart target none) listens rfl (houseShow_answers named made) ?_
      rw [made] at away
      rw [away.orders quiet]
      exact calm
  have performsResume : ∀ after r, (s.heard dt).resume k = (after, r) → s.Performs (.showResume dt src target none) src 0x0E r [] after :=
    fun after r made => by
      have away : State.Local k (s.heard dt) ((s.heard dt).resume k).1 := State.Local.resume k _
      refine show_performs (run := judgeResume target none) listens rfl (houseShow_answers named made) ?_
      rw [made] at away
      rw [away.orders quiet]
      exact calm
  intro cold
  refine ⟨fun h own threaded cold begins alone => ?_, fun armed interval resting => ?_, fun h own halted showing alone cold => ?_,
    fun refused => ?_, ?_⟩
  · subst own
    obtain ⟨service, free, rod, unlit⟩ := cold
    have cold := State.headStarted_cold (s := s.heard dt) (p := .start) service free rod unlit nofun
    exact performsStart _ _ ((State.start_begins (s := s.heard dt) rfl threaded begins alone).trans (by rw [cold]; rfl))
  · exact performsStart _ _ (State.start_refused (s := s.heard dt) armed interval resting)
  · subst own
    obtain ⟨service, free, rod, unlit⟩ := cold
    have cold := State.headStarted_cold (s := s.heard dt) (p := .resume) service free rod unlit fun _ => showing
    exact performsResume _ _ ((State.resume_showing (s := s.heard dt) rfl halted free showing alone).trans (by rw [cold]; rfl))
  · exact performsResume _ _ (State.resume_refused (s := s.heard dt) refused)
  intro starts refused start resume cur
  refine ⟨fun h own threaded begins alone => ?_, fun inc own side => ?_, fun h own halted free showing alone => ?_⟩
  · exact performsStart _ _ (State.start_begins (s := s.heard dt) own threaded begins alone)
  · intro manual dark
    refine ⟨fun running holds => ?_, fun running fails => ?_, fun halted free missing => ⟨fun holds => ?_, fun fails => ?_⟩⟩
    · exact performsStart _ _ ((State.start_running (s := s.heard dt) own side running).trans (if_pos holds))
    · exact performsStart _ _ ((State.start_running (s := s.heard dt) own side running).trans (if_neg fails))
    · exact performsResume _ _ ((State.resume_dark (s := s.heard dt) own side halted free missing).trans (if_pos holds))
    · exact performsResume _ _ ((State.resume_dark (s := s.heard dt) own side halted free missing).trans (if_neg fails))
  · exact performsResume _ _ (State.resume_showing (s := s.heard dt) own halted free showing alone)

end Sys2Proof.Machine
end

section
/-! SUPPORT. CHANGE (R117, R118, R120) and the show functions with a target or a start index refused (R186). -/

namespace Sys2Proof.Machine

variable {J : Judge} {s t u : State} {k : House} {h inc : Head} {n i : Nat}

theorem Head.partner_partner (h : Head) : h.partner.partner = h := by cases h <;> rfl

theorem State.anyShowing_iff : s.anyShowing k = true ↔ ∃ h, h.house = k ∧ s.role h = .showing := by
  unfold State.anyShowing
  rw [List.any_eq_true]
  refine ⟨fun ⟨h, mem, showing⟩ => ⟨h, House.house_of_mem_heads mem, eq_of_beq showing⟩, fun ⟨h, own, showing⟩ => ?_⟩
  subst own
  exact ⟨h, by cases h <;> decide, beq_iff_eq.mpr showing⟩

/-! ### CHANGE by the state it finds -/

/-- CHANGE is taken: in a RUNNING house with a changeover reel showing, its change cue not yet taken (R117). -/
def State.Changes (s : State) (k : House) : Prop :=
  (s.eng k).state = .running ∧ (∃ h, h.house = k ∧ s.role h = .showing) ∧
    ((s.curReel k).intervalAfter = false ∧ (s.curReel k).showEnd = false) ∧ (s.eng k).changeTaken = false

theorem State.changes_iff :
    ((s.eng k).state == .running && s.anyShowing k && (s.curReel k).isChangeover && !(s.eng k).changeTaken) = true ↔ s.Changes k := by
  unfold State.Changes
  rw [← State.anyShowing_iff, ← Reel.isChangeover_iff]
  simp only [Bool.and_eq_true, beq_iff_eq, Bool.not_eq_true', and_assoc]

theorem State.change_refused (refused : ¬ s.Changes k) : s.change k = (s, .badState) := if_neg (mt State.changes_iff.mp refused)

theorem State.change_taken (changes : s.Changes k) (taken : (s.eng k).motorTaken = true) :
    s.change k = (takeChange judgeFrames k s, .done) := by
  refine (if_pos (State.changes_iff.mpr changes)).trans ?_
  rw [if_pos taken]

theorem State.change_untaken (changes : s.Changes k) (untaken : (s.eng k).motorTaken = false) (calm : (s.eng k).changePending = false)
    (incoming : s.incoming k = inc) : s.change k = (takeChange judgeFrames k (s.motorTaken inc), .done) := by
  refine (if_pos (State.changes_iff.mpr changes)).trans ?_
  rw [untaken, if_neg Bool.false_ne_true, takeMotor_eq calm, incoming]

/-! ### The motor cue taken, as the change cue finds it -/

theorem State.motorTaken_incoming (house : inc.house = k) (s : State) : (s.motorTaken inc).incoming k = s.incoming k := by
  subst house
  obtain ⟨runup, eng⟩ := s.motorTaken_eng inc
  unfold State.incoming State.outgoing State.curReel
  rw [s.motorTaken_programme inc, eng]

theorem State.motorTaken_starting : (s.motorTaken inc).role inc = .starting ↔ s.role inc = .threaded ∨ s.role inc = .starting := by
  unfold State.motorTaken State.incomingStarted
  dsimp only
  split
  · rename_i threaded
    simp [State.setRole, State.assign_role, threaded]
  · rename_i loose
    split <;> simp [loose]

/-- A strike request lights no lamp and puts none out. -/
theorem State.strikeRequest_burning (s : State) (h : Head) :
    ((s.strikeRequest h).lamp h).state = .burning ↔ (s.lamp h).state = .burning := by
  cases ignored : s.strikeIgnored h with
  | true => rw [State.strikeRequest_ignored ignored]
  | false =>
    have unlit : (s.lamp h).state ≠ .burning := fun burning => by
      rw [State.strikeIgnored_iff.mpr (.inr (.inr (.inr burning)))] at ignored
      cases ignored
    by_cases spent : (s.lamp h).rod = 0
    · simp [State.strikeRequest_spent ignored spent, unlit]
    · simp [State.strikeRequest_strikes ignored spent, unlit]

theorem State.motorTaken_ready (s : State) (inc : Head) : (s.motorTaken inc).ready inc = s.ready inc := by
  have motion : ((s.motorTaken inc).mon inc).motion = (s.mon inc).motion := (State.EngineSide.motorTaken s inc).motion inc
  refine State.ready_of_eq motion ?_
  unfold State.motorTaken State.incomingStarted
  dsimp only
  split
  · simp [State.setRole, State.strikeRequest_burning]
  · split <;> simp

/-! ### The swap's effects, sending aside -/

theorem State.Swapped.of_settles (swapped : s.Swapped u inc) (settles : t.Settles u) : s.Swapped t inc where
  dousers := by rw [settles.value, settles.value]; exact swapped.dousers
  sound := by rw [settles.value]; exact swapped.sound
  shows := by rw [settles.slot]; exact swapped.shows
  leaves := by rw [settles.slot]; exact swapped.leaves
  engine := by rw [settles.eng]; exact swapped.engine
  requests := by rw [settles.light]; exact swapped.requests
  rest :=
    { monitors := fun h => by rw [settles.mon]; exact swapped.rest.monitors h
      lamps := (congrArg State.lamps settles.rest :).trans swapped.rest.lamps
      fire := settles.fire.trans swapped.rest.fire
      notices := settles.notices.trans swapped.rest.notices
      elsewhere := ⟨settles.sameHouse swapped.rest.elsewhere.1, settles.sameTables swapped.rest.elsewhere.2⟩ }

/-- What a swap needs, by the record the head left holds. -/
theorem State.SwapEnds.of_bounds {next : Reel} (record : s.programme.record ((s.eng inc.house).cur + 1) = next)
    (last : (s.mon inc).counter < next.last)
    (cues : next.intervalAfter = false ∧ next.showEnd = false →
      (s.mon inc).counter + (s.eng inc.house).strikeLead * (s.mon inc).fps < next.motorCue ∧ (s.mon inc).counter < next.changeCue)
    (tail : (s.mon inc.partner).counter < (s.heldReel inc.partner).last + (s.eng inc.house).runout) : s.SwapEnds inc := by
  subst record
  refine ⟨⟨last, fun interval ends => ?_⟩, fun i held => ?_⟩
  · obtain ⟨motor, change⟩ := cues ⟨interval, ends⟩
    exact ⟨motor, by omega, by omega⟩
  · rwa [State.heldReel_of_held held] at tail

/-- The change cue held, sending aside. -/
theorem State.changeHeld_settled (s : State) (inc : Head) (quiet : s.orders.restart ≠ .waiting) :
    (s.changeHeld inc).settled =
      ((s.setEng inc.house { s.eng inc.house with changeTaken := true, changePending := true }).setNotices
        (s.notices.raised .lateIncoming (.head inc) (some .change))).settled :=
  State.raise_settled _ _ _ _ quiet

theorem houseOf_outside {target : Byte} (outside : ¬ (1 ≤ target.toNat ∧ target.toNat ≤ 2)) : houseOf target = none := by
  unfold houseOf
  split
  · omega
  · omega
  · rfl

section
variable {dt : Nat} {src target i : Byte}

/-- SHOW, function CHANGE, performed. -/
theorem change_performs (listens : s.Listens src) (named : houseOf target = some k) {after : State} {r : Result}
    (made : (s.heard dt).change k = (after, r)) : s.Performs (.showChange dt src target none) src 0x0E r [] after := by
  have calm : (s.heard dt).orders.restart = .clear := listens.calm
  have away : State.Local k (s.heard dt) ((s.heard dt).change k).1 := State.Local.change k _
  refine show_performs (run := judgeChange target none) listens rfl (houseShow_answers named made) ?_
  rw [made] at away
  rw [away.orders (by rw [calm]; nofun)]
  exact calm

/-- CHANGE holds the change: the cue taken and pending, and LATE_INCOMING raised (R117, R118). -/
theorem change_held_performs (listens : s.Listens src) (named : houseOf target = some k) (house : inc.house = k)
    (made : (s.heard dt).change k = ((s.heard dt).changeHeld inc, .done)) :
    s.Performs (.showChange dt src target none) src 0x0E .done []
      { s.heard dt with
        engines := s.engines.set k { s.eng k with changeTaken := true, changePending := true }
        notices := s.notices.raised .lateIncoming (.head inc) (some .change) } := by
  subst house
  obtain ⟨t, ran, settles, answers⟩ := change_performs listens named made
  refine ⟨t, ran, settles.trans_same ?_ (State.raise_drive ..), answers⟩
  exact (s.heard dt).changeHeld_settled inc (ne_of_eq_of_ne listens.calm nofun)

/-- A show function but ARM given a start index, or a house outside 1 and 2, is refused (R186). -/
theorem shows_refused (listens : s.Listens src) :
    let refused := fun (c : Instr) (r : Result) => s.Performs c src 0x0E r [] (s.heard dt)
    refused (.showStart dt src target (some i)) .badOrder ∧ refused (.showChange dt src target (some i)) .badOrder ∧
    refused (.showHalt dt src target (some i)) .badOrder ∧ refused (.showResume dt src target (some i)) .badOrder ∧
    refused (.showLightsUp dt src target (some i)) .badOrder ∧ refused (.showLightsDown dt src target (some i)) .badOrder ∧
    refused (.showLightsAuto dt src target (some i)) .badOrder ∧ refused (.showThread dt src target (some i)) .badOrder ∧
    refused (.showStrike dt src target (some i)) .badOrder ∧ refused (.showFireDrop dt src target (some i)) .badOrder ∧
    refused (.showFireReset dt src target (some i)) .badOrder ∧
    (¬ (1 ≤ target.toNat ∧ target.toNat ≤ 2) →
      refused (.showStart dt src target none) .badIndex ∧ refused (.showChange dt src target none) .badIndex ∧
        refused (.showResume dt src target none) .badIndex ∧ refused (.showLightsUp dt src target none) .badIndex ∧
        refused (.showLightsDown dt src target none) .badIndex ∧ refused (.showLightsAuto dt src target none) .badIndex) := by
  intro refused
  have calm : (s.heard dt).orders.restart = .clear := listens.calm
  refine ⟨?_, ?_, ?_, ?_, ?_, ?_, ?_, ?_, ?_, ?_, ?_, fun outside => ?_⟩
  · exact show_performs (run := judgeStart target (some i)) listens rfl rfl calm
  · exact show_performs (run := judgeChange target (some i)) listens rfl rfl calm
  · exact show_performs (run := judgeHalt target (some i)) listens rfl rfl calm
  · exact show_performs (run := judgeResume target (some i)) listens rfl rfl calm
  · exact show_performs (run := judgeLightsUp target (some i)) listens rfl rfl calm
  · exact show_performs (run := judgeLightsDown target (some i)) listens rfl rfl calm
  · exact show_performs (run := judgeLightsAuto target (some i)) listens rfl rfl calm
  · exact show_performs (run := judgeThread target (some i)) listens rfl rfl calm
  · exact show_performs (run := judgeStrike target (some i)) listens rfl rfl calm
  · exact show_performs (run := judgeFireDrop target (some i)) listens rfl rfl calm
  · exact show_performs (run := judgeFireReset target (some i)) listens rfl rfl calm
  · have unnamed : houseOf target = none := houseOf_outside outside
    refine ⟨?_, ?_, ?_, ?_, ?_, ?_⟩
    · exact show_performs (run := judgeStart target none) listens rfl (houseShow_unnamed unnamed _ _) calm
    · exact show_performs (run := judgeChange target none) listens rfl (houseShow_unnamed unnamed _ _) calm
    · exact show_performs (run := judgeResume target none) listens rfl (houseShow_unnamed unnamed _ _) calm
    · exact show_performs (run := judgeLightsUp target none) listens rfl (houseShow_unnamed unnamed _ _) calm
    · exact show_performs (run := judgeLightsDown target none) listens rfl (houseShow_unnamed unnamed _ _) calm
    · exact show_performs (run := judgeLightsAuto target none) listens rfl (houseShow_unnamed unnamed _ _) calm

end

/-- Settles O31: CHANGE refused, held, passing the picture, and with the motor cue still to be taken; then the show functions refused. -/
theorem changePassesPicture : Obligations.ChangePassesPicture := by
  refine ⟨fun s dt src target k out listens named own showing side => ?_, fun s dt src target k listens named => ?_,
    fun s dt src target i listens => ?_⟩
  · intro c e inc reel next changeover ready
    have house : inc.house = k := by rw [← own]; cases out <;> rfl
    have incoming : (s.heard dt).incoming k = inc :=
      State.incoming_of (s := s.heard dt) house (ne_of_ne_of_eq (by cases out <;> decide) side)
    have changes : e.state = .running → changeover reel → e.changeTaken = false → (s.heard dt).Changes k := fun running cue untaken =>
      ⟨running, ⟨out, own, showing⟩, cue, untaken⟩
    refine ⟨fun refused => ?_, fun running cue untaken motor starting => ⟨fun unready => ?_, fun ready last cues tail => ?_⟩⟩
    · exact change_performs listens named (State.change_refused (s := s.heard dt) fun changes =>
        refused ⟨changes.1, changes.2.2.1, changes.2.2.2⟩)
    · have held := takeChange_held (s := s.heard dt) (J := judgeFrames) incoming fun both => unready (State.ready_iff.mp both.2)
      exact change_held_performs listens named house
        ((State.change_taken (s := s.heard dt) (changes running cue untaken) motor).trans (by rw [held]))
    · have partner : inc.partner = out := Head.partner_partner out
      have ends : (s.heard dt).SwapEnds inc := by
        refine State.SwapEnds.of_bounds (next := next) ?_ last ?_ ?_
        · rw [house]; rfl
        · rw [house]; exact cues
        · rw [house, partner]; exact tail
      have swapped := (takeChange_swapShown (s := s.heard dt) incoming starting (State.ready_iff.mpr ready) ends 4).2
      obtain ⟨t, ran, settles, answers⟩ := change_performs listens named
        (State.change_taken (s := s.heard dt) (changes running cue untaken) motor)
      replace swapped := State.Swapped.of_settles swapped settles
      obtain ⟨⟨down, up⟩, sound, shows, leaves, engine, requests, rest⟩ := swapped
      rw [partner] at down leaves
      rw [house] at sound engine requests rest
      refine ⟨t, ran, answers, down, up, sound, shows, leaves.trans ?_, engine, requests, rest.lamps, rest.fire, rest.notices, rest.monitors,
        rest.elsewhere.1, rest.elsewhere.2⟩
      rw [if_pos (show (s.heard dt).role out = .showing from showing)]
      rfl
  · intro c e reel
    refine ⟨fun missing => ?_, fun out inc own showing house side running interval ends untaken => ?_⟩
    · exact change_performs listens named (State.change_refused (s := s.heard dt) fun ⟨_, ⟨h, own, showing⟩, _⟩ =>
        missing h own showing)
    have incoming : (s.heard dt).incoming k = inc := State.incoming_of (s := s.heard dt) house side
    have changes : (s.heard dt).Changes k := ⟨running, ⟨out, own, showing⟩, ⟨interval, ends⟩, untaken⟩
    refine ⟨fun motor away => ?_, fun motor calm => ?_⟩
    · have held := takeChange_held (s := s.heard dt) (J := judgeFrames) incoming fun both => away both.1
      exact change_performs listens named ((State.change_taken changes motor).trans (by rw [held]))
    · intro moved comes
      have made := State.change_untaken changes motor calm incoming
      have incoming : moved.incoming k = inc := (State.motorTaken_incoming house _).trans incoming
      have coming : moved.role inc = .starting ∧ moved.ready inc = true ↔ comes :=
        and_congr State.motorTaken_starting (by rw [State.motorTaken_ready]; exact State.ready_iff)
      refine ⟨fun stays => ?_, fun comes ends => ?_⟩
      · have held := takeChange_held (s := moved) (J := judgeFrames) incoming (mt coming.mp stays)
        exact change_performs listens named (made.trans (by rw [← held]))
      · obtain ⟨starting, ready⟩ := coming.mpr comes
        have swapped := (takeChange_swapShown incoming starting ready ends 4).2
        obtain ⟨t, ran, settles, answers⟩ := change_performs listens named made
        exact ⟨t, ran, answers, swapped.of_settles settles⟩
  · exact shows_refused listens

end Sys2Proof.Machine
end

section
/-! SUPPORT. A house's entry to FIRE by its link line and FIRE DROP, and its reset (R155, R162, R163, R165, R166). -/

namespace Sys2Proof.Machine

variable {s t u : State} {k : House} {h : Head}

theorem State.FireEntered.of_settles {code : Code} (entered : s.FireEntered u k code) (settles : t.Settles u) : s.FireEntered t k code where
  unit := by rw [settles.fireOf]; exact entered.unit
  shutters h e := by rw [settles.mon]; exact entered.shutters h e
  lamps h e := by
    obtain ⟨lamp, safe⟩ := entered.lamps h e
    unfold State.LampEntriesSafe at safe ⊢
    rw [settles.lamp, settles.value, settles.value, settles.value]
    exact ⟨lamp, safe⟩
  motors h e := by rw [settles.value]; exact entered.motors h e
  roles h e := by rw [settles.slot]; exact entered.roles h e
  sound := by rw [settles.value]; exact entered.sound
  engine := by rw [settles.eng]; exact entered.engine
  lights := by rw [settles.light]; exact entered.lights
  notice := by rw [settles.notices]; exact entered.notice
  shutter h e := by rw [settles.notices]; exact entered.shutter h e
  elsewhere := ⟨settles.sameHouse entered.elsewhere.1, settles.sameTables entered.elsewhere.2⟩

theorem State.dropHouse_enters {code : Code} (free : (s.fireOf k).state ≠ .fire) : s.dropHouse k code = s.enterFire k code :=
  if_neg (mt State.inFire_iff.mp free)

theorem State.dropHouse_rests {code : Code} (fire : (s.fireOf k).state = .fire) : s.dropHouse k code = s :=
  if_pos (State.inFire_iff.mpr fire)

/-! ### The link line (R155) -/

theorem State.setFire_self (s : State) (k : House) : s.setFire k (s.fireOf k) = s := by
  unfold State.setFire State.fireOf
  rw [PerHouse.set_get_self]

theorem State.linkLevel_opens (closed : (s.fireOf k).linkOpen = false) :
    s.linkLevel k true = (s.setFire k { s.fireOf k with linkOpen := true }).dropHouse k .link := by
  unfold State.linkLevel
  dsimp only
  rw [closed]
  rfl

theorem State.linkLevel_closes (s : State) (k : House) : s.linkLevel k false = s.setFire k { s.fireOf k with linkOpen := false } := by
  unfold State.linkLevel
  dsimp only
  split
  · rename_i closed
    conv_lhs => rw [← s.setFire_self k]
    rw [← closed]
  · rfl

/-- The part as a change of a LINK line finds it: time passed, and the start logic's record of the line moved (log entry 26). -/
def State.lined (s : State) (dt : Nat) (k : House) (opened : Bool) : State :=
  { s.elapse dt with starter := { s.starter with link := s.starter.link.set k opened } }

theorem linkChange_settles {dt : Nat} {opened : Bool} {after : State} (awake : s.Awake) (made : (s.lined dt k opened).linkLevel k opened = after) :
    ∃ t, exec (.linkChange dt k opened) s = .next t ∧ t.Settles after := by
  have away : State.Local k (s.lined dt k opened) ((s.lined dt k opened).linkLevel k opened) := State.Local.linkLevel k _ opened
  have calm : ((s.lined dt k opened).linkLevel k opened).orders.restart ≠ .requested := by
    rw [away.orders (ne_of_eq_of_ne awake.2 nofun)]
    exact ne_of_eq_of_ne awake.2 nofun
  subst made
  exact event_becomes dt (fun t => t.linkLevel k opened)
    { s with starter := { s.starter with link := s.starter.link.set k opened } } awake.1 calm

/-! ### FIRE RESET (R165, R166) -/

theorem State.fireReset_refused
    (refused : (s.fireOf k).state ≠ .fire ∨ (s.fireOf k).linkOpen = true ∨ ∃ d ∈ (s.fireOf k).detectors, d.condition = .fire) :
    s.fireReset k = (s, .badState) := by
  refine if_neg fun ⟨fire, closed, quiet⟩ => ?_
  obtain free | opened | ⟨d, mem, burning⟩ := refused
  · exact free fire
  · rw [closed] at opened; cases opened
  · exact quiet (List.any_eq_true.mpr ⟨d, mem, beq_iff_eq.mpr burning⟩)

theorem State.fireReset_taken (fire : (s.fireOf k).state = .fire) (closed : (s.fireOf k).linkOpen = false)
    (quiet : ∀ d ∈ (s.fireOf k).detectors, d.condition ≠ .fire) : s.fireReset k = (s.leaveFire k, .done) := by
  refine if_pos ⟨fire, closed, fun any => ?_⟩
  obtain ⟨d, mem, burning⟩ := List.any_eq_true.mp any
  exact quiet d mem (eq_of_beq burning)

section
variable (s : State) (k : House)

/-- A house that leaves FIRE moves its part of the fire unit, its monitors, its lights and the notices, and nothing else (R166). -/
theorem State.leaveFire_frame :
    { s.leaveFire k with
      monitors := s.monitors, notices := s.notices, loop := s.loop, orders := s.orders, lights := s.lights, drive := s.drive } =
      s.setFire k
        { s.fireOf k with
          latch := false, state := if (oldestPre (s.fireOf k).detectors).isSome then .alert else .clear, port := true, gate := true } := by
  have lights : ∀ (t : State) (r : Requests),
      { t.setRequests k r with
        monitors := s.monitors, notices := s.notices, loop := s.loop, orders := s.orders, lights := s.lights, drive := s.drive } =
      { t with
        monitors := s.monitors, notices := s.notices, loop := s.loop, orders := s.orders, lights := s.lights, drive := s.drive } :=
    fun t r => congrArg (fun t : State =>
      { t with
        monitors := s.monitors, notices := s.notices, loop := s.loop, orders := s.orders, lights := s.lights, drive := s.drive })
      (t.setRequests_frame k r)
  have holds : ∀ (t : State) (h : Head),
      { t.rejudgeHold h with
        monitors := s.monitors, notices := s.notices, loop := s.loop, orders := s.orders, lights := s.lights, drive := s.drive } =
      { t with
        monitors := s.monitors, notices := s.notices, loop := s.loop, orders := s.orders, lights := s.lights, drive := s.drive } :=
    fun t h => congrArg (fun t : State =>
      { t with
        monitors := s.monitors, notices := s.notices, loop := s.loop, orders := s.orders, lights := s.lights, drive := s.drive })
      (t.rejudgeHold_frame h)
  rw [State.leaveFire_eq]
  refine ((lights _ _).trans ((holds _ _).trans (holds _ _))).trans ?_
  exact congrArg (fun t : State => { t with monitors := s.monitors, lights := s.lights, drive := s.drive }) (s.fireLifted_frame k)

theorem State.leaveFire_lamps : (s.leaveFire k).lamps = s.lamps := (congrArg State.lamps (s.leaveFire_frame k) :)
theorem State.leaveFire_slots : (s.leaveFire k).slots = s.slots := (congrArg State.slots (s.leaveFire_frame k) :)
theorem State.leaveFire_engines : (s.leaveFire k).engines = s.engines := (congrArg State.engines (s.leaveFire_frame k) :)

/-- The hold lines of a house out of FIRE again: its gate is open (R56, R166). -/
theorem State.leaveFire_hold {h : Head} (own : h.house = k) :
    ((s.leaveFire k).mon h).hold = (decide ((s.mon h).motion = .locked) && (s.mon h).inService) := by
  have gate : ((s.fireLifted k).fireOf h.house).gate = true := by rw [own, State.fireLifted_fireOf]
  have cond : (s.fireLifted k).holdCondition h = (decide ((s.mon h).motion = .locked) && (s.mon h).inService) := by
    unfold State.holdCondition
    rw [gate, Bool.and_true, State.fireLifted_mon]
  have mon : (s.leaveFire k).mon h = (((s.fireLifted k).rejudgeHold (k.head .a)).rejudgeHold (k.head .b)).mon h := by
    rw [State.leaveFire_eq]
    exact (State.setRequests_mon ..)
  have kept : ((s.fireLifted k).rejudgeHold (k.head .a)).holdCondition (k.head .b) = (s.fireLifted k).holdCondition (k.head .b) := by
    unfold State.holdCondition
    rw [State.rejudgeHold_mon, if_neg (House.head_b_ne k), State.rejudgeHold_fireOf]
  rw [mon, State.rejudgeHold_mon, ← cond]
  obtain rfl | rfl := House.eq_head own
  · rw [if_neg (House.head_b_ne k).symm, State.rejudgeHold_mon, if_pos rfl]
  · rw [if_pos rfl]
    exact kept

/-- The ALERT that a house leaving FIRE with a detector in PRE raises names its zone (R166; log entry 25). -/
theorem State.leaveFire_alert {d : Detector} (pre : oldestPre (s.fireOf k).detectors = some d) :
    (s.leaveFire k).notices.isPending .alert = true ∧
      ((s.leaveFire k).notices.causes.get Event.alert.num).cause = .zone d.zone := by
  have raised : (s.fireLifted k).notices = s.notices.raised .alert (.zone d.zone) (some .pre) := by
    rw [State.fireLifted_notices, pre]
  have causes : (s.leaveFire k).notices.causes.get Event.alert.num = (s.fireLifted k).notices.causes.get Event.alert.num := by
    rw [State.leaveFire_eq]
    refine (congrArg (fun n : NoticeUnit => n.causes.get Event.alert.num) (State.setRequests_notices _ _ _)).trans ?_
    rw [(State.rejudgeHold_causes _ _ .alert nofun).2, (State.rejudgeHold_causes _ _ .alert nofun).2]
  refine ⟨?_, ?_⟩
  · rw [State.leaveFire_isPending (e := .alert) _ _ nofun, raised, NoticeUnit.raised_isPending]
    cases k <;> simp [fireEvent]
  · rw [causes, raised, NoticeUnit.raised_cause_same]

end

/-- Settles O36: a link line opening and closing, FIRE DROP, and FIRE RESET refused and taken. -/
theorem fireDropsHouse : Obligations.FireDropsHouse := by
  refine ⟨fun s dt k awake => ⟨⟨fun closed free none => ?_, fun closed fire => ?_, ?_⟩, fun src target listens =>
    ⟨fun unnamed => ?_, fun named free none => ?_, fun named fire => ?_⟩⟩, fun s dt src target listens =>
    ⟨fun unnamed => ?_, fun k named => ⟨fun refused => ?_, fun fire closed quiet => ?_⟩⟩⟩
  · have opens := State.linkLevel_opens (s := s.lined dt k true) closed
    rw [State.dropHouse_enters (by rw [State.setFire_fireOf_same]; exact free)] at opens
    obtain ⟨t, ran, settles⟩ := linkChange_settles awake opens
    have entered := ((s.lined dt k true).setFire k { s.fireOf k with linkOpen := true }).enterFire_fireEntered k .link
      (ne_of_eq_of_ne awake.2 nofun) none
    exact ⟨t, ran, entered.of_settles settles⟩
  · have opens := State.linkLevel_opens (s := s.lined dt k true) closed
    rw [State.dropHouse_rests (by rw [State.setFire_fireOf_same]; exact fire)] at opens
    exact linkChange_settles awake opens
  · exact linkChange_settles awake ((s.lined dt k false).linkLevel_closes k)
  · exact show_performs (run := judgeFireDrop target none) listens rfl (houseShow_unnamed unnamed _ _) listens.calm
  · have quiet : (s.heard dt).orders.restart ≠ .waiting := ne_of_eq_of_ne listens.calm nofun
    have away : State.Local k (s.heard dt) ((s.heard dt).enterFire k .drop) := State.Local.enterFire k _ _
    obtain ⟨t, ran, settles, answers⟩ := show_performs (c := .showFireDrop dt src target Option.none) (run := judgeFireDrop target Option.none)
      listens rfl (houseShow_answers named (by rw [State.fireDrop, State.dropHouse_enters (s := s.heard dt) free]))
      (by rw [away.orders quiet]; exact listens.calm)
    exact ⟨t, ran, answers, ((s.heard dt).enterFire_fireEntered k .drop quiet none).of_settles settles⟩
  · exact show_performs (run := judgeFireDrop target none) listens rfl
      (houseShow_answers named (by rw [State.fireDrop, State.dropHouse_rests (s := s.heard dt) fire])) listens.calm
  · exact show_performs (run := judgeFireReset target none) listens rfl (houseShow_unnamed unnamed _ _) listens.calm
  · exact show_performs (run := judgeFireReset target none) listens rfl
      (houseShow_answers named (State.fireReset_refused (s := s.heard dt) refused)) listens.calm
  · have calm : (s.heard dt).orders.restart ≠ .waiting := ne_of_eq_of_ne listens.calm nofun
    have away : State.Local k (s.heard dt) ((s.heard dt).leaveFire k) := State.Local.leaveFire k _
    obtain ⟨t, ran, settles, answers⟩ := show_performs (c := .showFireReset dt src target Option.none)
      (run := judgeFireReset target Option.none) listens rfl
      (houseShow_answers named (State.fireReset_taken (s := s.heard dt) fire closed quiet)) (by rw [away.orders calm]; exact listens.calm)
    refine ⟨t, ran, answers, ?_, ?_, fun d pre => ?_, fun h own => ?_, ?_, ?_, ?_, ?_, settles.sameHouse away.house,
      settles.sameTables (away.sameTables calm)⟩
    · rw [settles.fireOf, State.leaveFire_fireOf, oldestPre, List.isSome_find?]
      rfl
    · rw [settles.notices, State.leaveFire_isPending (e := fireEvent k) _ _ (by cases k <;> nofun), decide_eq_false (not_not.mpr rfl),
        Bool.and_false]
    · rw [settles.notices]
      exact (s.heard dt).leaveFire_alert k pre
    · rw [settles.mon]
      exact (s.heard dt).leaveFire_hold k own
    · rw [settles.light]
      exact (s.heard dt).leaveFire_requests k
    · exact (congrArg State.engines settles.rest :).trans ((s.heard dt).leaveFire_engines k)
    · exact settles.slots.trans ((s.heard dt).leaveFire_slots k)
    · exact (congrArg State.lamps settles.rest :).trans ((s.heard dt).leaveFire_lamps k)

end Sys2Proof.Machine
end

section
/-! SUPPORT. Detector reports, each judged on the list it is entered in, and the entries' expiry (R156 to R161). -/

namespace Sys2Proof.Machine

variable {s t u : State} {k : House} {h : Head} {l list : List Detector} {source : Byte} {zone : Zone} {c x : Condition} {ms hold : Nat}

/-! ### The list with a report entered (R157, R158) -/

/-- The entry a report makes, `pre` being the moment it is PRE since. -/
def reportEntry (source : Byte) (zone : Zone) (c : Condition) (ms hold : Nat) (pre : Option Nat) : Detector :=
  { source := source, zone := zone, condition := c, lastHeard := ms, preSince := if c = .pre then pre else none
    deadline := ms + hold * 1000 }

/-- A list with a report entered: the source's entry renewed at the tail, or a new one, the oldest making room. -/
def ReportEntered (l : List Detector) (source : Byte) (zone : Zone) (c : Condition) (ms hold : Nat) (list : List Detector) : Prop :=
  (∃ before old after, l = before ++ old :: after ∧ old.source = source ∧ (∀ d ∈ before ++ after, d.source ≠ source) ∧
    list = before ++ after ++ [reportEntry source zone c ms hold (if old.condition = .pre then old.preSince else some ms)]) ∨
  ((∀ d ∈ l, d.source ≠ source) ∧ c = .normal ∧ list = l) ∨
  ((∀ d ∈ l, d.source ≠ source) ∧ c ≠ .normal ∧ l.length < 4 ∧ list = l ++ [reportEntry source zone c ms hold (some ms)]) ∨
  ((∀ d ∈ l, d.source ≠ source) ∧ c ≠ .normal ∧ 4 ≤ l.length ∧ list = l.tail ++ [reportEntry source zone c ms hold (some ms)])

theorem enterReport_known {before after : List Detector} {old : Detector} (own : old.source = source)
    (others : ∀ d ∈ before ++ after, d.source ≠ source) :
    enterReport (before ++ old :: after) source zone c ms hold =
      before ++ after ++ [reportEntry source zone c ms hold (if old.condition = .pre then old.preSince else some ms)] := by
  have first : ∀ d ∈ before, ¬ (d.source == source) = true := fun d mem same =>
    others d (List.mem_append_left _ mem) (eq_of_beq same)
  have found : (before ++ old :: after).find? (fun d => d.source == source) = some old := by
    rw [List.find?_append, List.find?_eq_none.mpr first, Option.none_or]
    exact List.find?_cons_of_pos (beq_iff_eq.mpr own)
  have rest : (before ++ old :: after).filter (fun d => d.source != source) = before ++ after := by
    rw [List.filter_append, List.filter_cons_of_neg (by simp [own]), ← List.filter_append]
    exact List.filter_eq_self.mpr fun d mem => bne_iff_ne.mpr (others d mem)
  unfold enterReport
  dsimp only
  rw [found, rest]
  rfl

section
variable (fresh : ∀ d ∈ l, d.source ≠ source)
include fresh

theorem find_fresh : l.find? (fun d => d.source == source) = none :=
  List.find?_eq_none.mpr fun d mem same => fresh d mem (eq_of_beq same)

theorem enterReport_normal : enterReport l source zone .normal ms hold = l := by
  unfold enterReport
  dsimp only
  rw [find_fresh fresh]
  rfl

theorem enterReport_fresh (reports : c ≠ .normal) :
    enterReport l source zone c ms hold = (if l.length < 4 then l else l.tail) ++ [reportEntry source zone c ms hold (some ms)] := by
  unfold enterReport
  dsimp only
  rw [find_fresh fresh]
  refine (if_neg reports).trans ?_
  split
  · rfl
  · rw [List.drop_one]
    rfl

end

theorem enterReport_entered (entered : ReportEntered l source zone c ms hold list) : enterReport l source zone c ms hold = list := by
  obtain ⟨before, old, after, rfl, own, others, rfl⟩ | ⟨fresh, rfl, rfl⟩ | ⟨fresh, reports, room, rfl⟩ | ⟨fresh, reports, full, rfl⟩ := entered
  · exact enterReport_known own others
  · exact enterReport_normal fresh
  · rw [enterReport_fresh fresh reports, if_pos room]
  · rw [enterReport_fresh fresh reports, if_neg (Nat.not_lt.mpr full)]

/-- A report that is not NORMAL stands in the list it is entered in. -/
theorem ReportEntered.present (entered : ReportEntered l source zone c ms hold list) (reports : c ≠ .normal) :
    ∃ d ∈ list, d.condition = c := by
  obtain ⟨before, old, after, -, -, -, rfl⟩ | ⟨-, normal, -⟩ | ⟨-, -, -, rfl⟩ | ⟨-, -, -, rfl⟩ := entered
  · exact ⟨_, List.mem_append_right _ (List.mem_singleton_self _), rfl⟩
  · exact absurd normal reports
  · exact ⟨_, List.mem_append_right _ (List.mem_singleton_self _), rfl⟩
  · exact ⟨_, List.mem_append_right _ (List.mem_singleton_self _), rfl⟩

theorem heldCondition_iff : heldCondition l source x = true ↔ ∃ d ∈ l, d.source = source ∧ d.condition = x := by
  unfold heldCondition
  simp only [List.any_eq_true, Bool.and_eq_true, beq_iff_eq]

theorem confirms_iff {window : Nat} :
    confirms l source ms window = true ↔
      ∃ d ∈ l, d.source ≠ source ∧ d.condition = .pre ∧ ∃ p, d.preSince = some p ∧ ms - p ≤ window * 1000 := by
  unfold confirms
  simp only [List.any_eq_true, Bool.and_eq_true, beq_iff_eq, bne_iff_ne, and_assoc]
  refine exists_congr fun d => and_congr_right fun _ => and_congr_right fun _ => and_congr_right fun _ => ?_
  cases d.preSince <;> simp

/-! ### The house judged on the list (R159 to R161) -/

theorem State.judgeAlert_rests (rests : (s.fireOf k).state ≠ .alert ∨ ∃ d ∈ (s.fireOf k).detectors, d.condition = .pre ∨ d.condition = .fire) :
    s.judgeAlert k = s := by
  refine if_neg fun ⟨alert, quiet⟩ => ?_
  obtain free | ⟨d, mem, alarmed⟩ := rests
  · exact free alert
  · refine quiet (List.any_eq_true.mpr ⟨d, mem, ?_⟩)
    simpa using alarmed

theorem State.judgeAlert_clears (alert : (s.fireOf k).state = .alert)
    (quiet : ¬ ∃ d ∈ (s.fireOf k).detectors, d.condition = .pre ∨ d.condition = .fire) :
    s.judgeAlert k = s.setFire k { s.fireOf k with state := .clear } := by
  refine if_pos ⟨alert, fun any => quiet ?_⟩
  obtain ⟨d, mem, alarmed⟩ := List.any_eq_true.mp any
  exact ⟨d, mem, by simpa using alarmed⟩

/-! A raise works on the notice unit, the loop unit and the orders alone, so it commutes with whatever replaces the rest. -/

/-- The notice unit, the loop unit and the orders of a state, with the rest of another. -/
def State.joined (s u : State) : State := { u with notices := s.notices, loop := s.loop, orders := s.orders }

section
variable (s u : State)

theorem State.countLoop_joined (f : LoopCounters → LoopCounters) : (s.joined u).countLoop f = (s.countLoop f).joined u := by
  unfold State.countLoop
  by_cases search : s.loop.state = .search
  · exact (if_pos search).trans (congrArg (fun t : State => t.joined u) (if_pos search).symm)
  · refine (if_neg search).trans (Eq.trans ?_ (congrArg (fun t : State => t.joined u) (if_neg search).symm))
    rfl

theorem State.requestStart_joined : (s.joined u).requestStart = s.requestStart.joined u := by
  unfold State.requestStart
  by_cases waiting : s.orders.restart = .waiting
  · refine (if_pos waiting).trans (Eq.trans ?_ (congrArg (fun t : State => t.joined u) (if_pos waiting).symm))
    rfl
  · exact (if_neg waiting).trans (congrArg (fun t : State => t.joined u) (if_neg waiting).symm)

theorem State.makeRoom_joined : (s.joined u).makeRoom = s.makeRoom.joined u := by
  have dropped : ∀ (l : LoopUnit) f, ((s.joined u).setLoop l).countLoop f = ((s.setLoop l).countLoop f).joined u :=
    fun l f => State.countLoop_joined (s.setLoop l) u f
  unfold State.makeRoom
  simp only [show (s.joined u).loop = s.loop from rfl, dropped, State.requestStart_joined]
  split
  · rfl
  · split <;> rfl

theorem State.queueNotice_joined (c : NoticeContents) : (s.joined u).queueNotice c = (s.queueNotice c).joined u := by
  unfold State.queueNotice State.enqueue
  simp only [show (s.joined u).loop = s.loop from rfl, State.makeRoom_joined]
  split <;> rfl

theorem State.raise_joined (e : Event) (c : Cause) (code : Option Code) : (s.joined u).raise e c code = (s.raise e c code).joined u := by
  have queued : ∀ (n : NoticeUnit) x, ((s.joined u).setNotices n).queueNotice x = ((s.setNotices n).queueNotice x).joined u :=
    fun n x => State.queueNotice_joined (s.setNotices n) u x
  unfold State.raise
  simp only [show (s.joined u).notices = s.notices from rfl, queued]
  split <;> rfl

end

theorem State.raise_setFire (s : State) (k : House) (f : FireHouse) (e : Event) (c : Cause) (code : Option Code) :
    (s.setFire k f).raise e c code = (s.raise e c code).setFire k f := by
  have frame := s.raise_frame e c code
  calc (s.setFire k f).raise e c code
      = (s.raise e c code).joined (s.setFire k f) := s.raise_joined (s.setFire k f) e c code
    _ = (s.raise e c code).joined ((s.raise e c code).setFire k f) :=
        (congrArg (fun t : State => (s.raise e c code).joined (t.setFire k f)) frame.symm :)

theorem State.setFire_setFire (s : State) (k : House) (f g : FireHouse) : (s.setFire k f).setFire k g = s.setFire k g := by
  unfold State.setFire
  rw [PerHouse.set_set]

/-- A house's list changed. -/
def State.listed (s : State) (k : House) (list : List Detector) : State := s.setFire k { s.fireOf k with detectors := list }

section
variable (s k list)

theorem State.houseReport_eq (zone : Zone) (entered : enterReport (s.fireOf k).detectors source zone c s.ms s.fire.holdTime = list) :
    s.houseReport k source zone c =
      ((s.listed k list).judgeReport k source zone c (s.fireOf k).detectors).judgeAlert k := by
  subst entered
  rfl

theorem State.listed_fireOf : (s.listed k list).fireOf k = { s.fireOf k with detectors := list } := State.setFire_fireOf_same ..

/-- The house judged on a changed list: a house in ALERT without an entry in PRE or FIRE moves to CLEAR (R161). -/
theorem State.listed_judgeAlert :
    ((s.fireOf k).state ≠ .alert ∨ (∃ d ∈ list, d.condition = .pre ∨ d.condition = .fire) → (s.listed k list).judgeAlert k = s.listed k list) ∧
    ((s.fireOf k).state = .alert → (¬ ∃ d ∈ list, d.condition = .pre ∨ d.condition = .fire) →
      (s.listed k list).judgeAlert k = s.setFire k { s.fireOf k with detectors := list, state := .clear }) := by
  refine ⟨fun rests => State.judgeAlert_rests ?_, fun alert quiet => ?_⟩
  · rw [State.listed_fireOf]; exact rests
  · rw [State.judgeAlert_clears (by rw [State.listed_fireOf]; exact alert) (by rw [State.listed_fireOf]; exact quiet), State.listed_fireOf,
      State.listed, State.setFire_setFire]

/-- The same with a raise between. -/
theorem State.raise_judgeAlert (e : Event) (cause : Cause) (code : Option Code) :
    (s.raise e cause code).judgeAlert k = (s.judgeAlert k).raise e cause code := by
  by_cases rests : (s.fireOf k).state ≠ .alert ∨ ∃ d ∈ (s.fireOf k).detectors, d.condition = .pre ∨ d.condition = .fire
  · rw [State.judgeAlert_rests rests, State.judgeAlert_rests (by rw [State.raise_fireOf]; exact rests)]
  · obtain ⟨alert, quiet⟩ := not_or.mp rests
    replace alert := not_not.mp alert
    rw [State.judgeAlert_clears alert quiet, State.judgeAlert_clears (by rw [State.raise_fireOf]; exact alert)
      (by rw [State.raise_fireOf]; exact quiet), State.raise_setFire, State.raise_fireOf]

end

theorem State.enterFire_judgeAlert (s : State) (k : House) (code : Code) : (s.enterFire k code).judgeAlert k = s.enterFire k code :=
  State.judgeAlert_rests (.inl (by rw [State.enterFire_fireOf]; nofun))

/-- Settles O38: a report by its condition and the state it finds the house in, then the expiry of an entry. -/
theorem detectorEntriesJudged : Obligations.DetectorEntriesJudged := by
  refine ⟨fun s k source zone c list calm => ?_, fun s dt k source awake => ?_⟩
  · intro f entry fresh entered was confirmed alarmed t listed judged enters
    replace enters : ReportEntered f.detectors source zone c s.ms s.fire.holdTime list := enters
    have made : t = ((s.listed k list).judgeReport k source zone c f.detectors).judgeAlert k :=
      s.houseReport_eq k list zone (enterReport_entered enters)
    have fireOf : (s.listed k list).fireOf k = { f with detectors := list } := s.listed_fireOf k list
    obtain ⟨rests, clears⟩ := s.listed_judgeAlert k list
    have quiet : (s.listed k list).orders.restart ≠ .waiting := ne_of_eq_of_ne calm nofun
    have present := enters.present
    have drop : ∀ {code}, f.state ≠ .fire → (s.light k).requests.fire = none →
        listed.FireEntered (((s.listed k list).dropHouse k code).judgeAlert k) k code := fun free none => by
      rw [State.dropHouse_enters (by rw [fireOf]; exact free), State.enterFire_judgeAlert]
      exact (s.listed k list).enterFire_fireEntered k _ quiet none
    have stays : ∀ {code}, f.state = .fire → ((s.listed k list).dropHouse k code).judgeAlert k = listed := fun {code} fire => by
      rw [State.dropHouse_rests (by rw [fireOf]; exact fire)]
      exact rests (.inl (ne_of_eq_of_ne fire nofun))
    rw [made]
    refine ⟨fun is => ?_, fun is => ?_, fun is => ?_, fun is => ?_⟩
    · subst is
      exact ⟨drop, stays⟩
    · subst is
      have pre : alarmed := by
        obtain ⟨d, mem, is⟩ := present nofun
        exact ⟨d, mem, .inl is⟩
      have confirms : (!heldCondition f.detectors source .pre &&
          Machine.confirms list source s.ms s.fire.confirmWindow) = true ↔ ¬ was .pre ∧ confirmed := by
        rw [Bool.and_eq_true, Bool.not_eq_true', ← Bool.not_eq_true, heldCondition_iff, confirms_iff]
      have report : (s.listed k list).judgeReport k source zone .pre f.detectors =
          if ¬ was .pre ∧ confirmed then (s.listed k list).dropHouse k .confirm
          else if f.state = .clear then
            (s.setFire k { f with detectors := list, state := .alert }).raise .alert (.zone zone) (some .pre)
          else s.listed k list := by
        rw [← if_congr confirms rfl rfl]
        unfold State.judgeReport
        dsimp only
        rw [fireOf, State.listed, State.setFire_setFire]
        rfl
      have unconfirmed : was .pre ∨ ¬ confirmed → ¬ (¬ was .pre ∧ confirmed) := fun either both => either.elim both.1 fun no => no both.2
      rw [report]
      refine ⟨fun free enter sure none => ?_, fun clear either => ?_, fun alert either => ?_, fun fire => ?_⟩
      · rw [if_pos ⟨enter, sure⟩]
        exact drop free none
      · rw [if_neg (unconfirmed either), if_pos clear, State.raise_judgeAlert, State.judgeAlert_rests]
        rw [State.setFire_fireOf_same]
        exact .inr pre
      · rw [if_neg (unconfirmed either), if_neg (show f.state ≠ .clear from ne_of_eq_of_ne alert nofun)]
        exact rests (.inr pre)
      · split
        · exact stays fire
        · rw [if_neg (show f.state ≠ .clear from ne_of_eq_of_ne fire nofun)]
          exact rests (.inr pre)
    · subst is
      have report : (s.listed k list).judgeReport k source zone .fault f.detectors =
          if was .fault then s.listed k list else (s.listed k list).raise .alert (.zone zone) (some .fault) :=
        if_congr heldCondition_iff rfl rfl
      rw [report]
      refine ⟨fun alert still old => ?_, fun alert still new => ?_, fun rest old => ?_, fun rest new => ?_⟩
      · rw [if_pos old]
        exact clears alert still
      · rw [if_neg new, State.raise_judgeAlert, clears alert still]
      · rw [if_pos old]
        exact rests rest
      · rw [if_neg new, State.raise_judgeAlert, rests rest]
        rfl
    · subst is
      exact ⟨clears, rests⟩
  · have expires : ∀ after, (s.elapse dt).detectorExpiry k source = after → s.Becomes (.detectorExpiry dt k source) after := fun after made => by
      have away : State.Local k (s.elapse dt) ((s.elapse dt).detectorExpiry k source) := State.Local.detectorExpiry k _ source
      refine becomes_of_event (f := fun t => t.detectorExpiry k source) awake rfl ?_ (by rw [made]) (by rw [made])
      rw [away.orders (ne_of_eq_of_ne awake.2 nofun)]
      exact ne_of_eq_of_ne awake.2 nofun
    intro f rest
    refine ⟨fun ⟨d, mem, own, passed⟩ => ?_, fun waits => ?_⟩
    · have made : (s.elapse dt).detectorExpiry k source = ((s.elapse dt).listed k rest).judgeAlert k :=
        if_pos (List.any_eq_true.mpr ⟨d, mem, by rw [own, decide_eq_true passed, beq_self_eq_true]; rfl⟩)
      obtain ⟨rests, clears⟩ := (s.elapse dt).listed_judgeAlert k rest
      refine expires _ (made.trans ?_)
      by_cases quiet : f.state = .alert ∧ ∀ d ∈ rest, d.condition ≠ .pre ∧ d.condition ≠ .fire
      · rw [if_pos quiet]
        exact clears quiet.1 fun ⟨d, mem, alarmed⟩ => alarmed.elim (quiet.2 d mem).1 (quiet.2 d mem).2
      · rw [if_neg quiet]
        refine rests ?_
        by_contra none
        obtain ⟨alert, still⟩ := not_or.mp none
        exact quiet ⟨not_not.mp alert, fun d mem => ⟨fun is => still ⟨d, mem, .inl is⟩, fun is => still ⟨d, mem, .inr is⟩⟩⟩
    · refine expires _ (if_neg fun any => ?_)
      obtain ⟨d, mem, ripe⟩ := List.any_eq_true.mp any
      rw [Bool.and_eq_true, beq_iff_eq, decide_eq_true_eq] at ripe
      exact absurd ripe.2 (Nat.not_le.mpr (waits d mem ripe.1))

end Sys2Proof.Machine
end

section
/-! SUPPORT. The stop and the start that ends it (R192 to R195). -/

namespace Sys2Proof.Machine

variable {s t u : State} {k : House} {h : Head} {dt : Nat} {code : Code} {b : Bool}

/-! ### The stop (R193) -/

theorem State.supplyFail_awake (awake : s.starter.stopped = false) :
    s.supplyFail = { s.beginStop with starter := { s.starter with stopped := true, supply := false, supplyFallen := true } } := by
  unfold State.supplyFail
  rw [awake]
  rfl

theorem State.resetAssert_awake (awake : s.starter.stopped = false) :
    s.resetAssert = { s.beginStop with starter := { s.starter with stopped := true, reset := true } } := by
  unfold State.resetAssert
  rw [awake]
  rfl

theorem State.supplyFail_stopped (stopped : s.starter.stopped = true) :
    s.supplyFail = { s with starter := { s.starter with supply := false, supplyFallen := true } } := by
  unfold State.supplyFail
  rw [stopped]
  rfl

theorem State.resetAssert_stopped (stopped : s.starter.stopped = true) :
    s.resetAssert = { s with starter := { s.starter with reset := true } } := by
  unfold State.resetAssert
  rw [stopped]
  rfl

/-- A stopped part takes no command but the end of its stop: time passes, and the input lines move (R193). -/
theorem exec_stopped {c : Instr} (stopped : s.starter.stopped = true) (supply : ∀ dt b, c ≠ .supplyReturn dt b)
    (reset : ∀ dt b, c ≠ .resetRelease dt b) (run : exec c s = .next t) :
    { t with now := s.now, starter := s.starter } = s ∧ t.starter.stopped = true ∧
      ((∀ dt, c ≠ .supplyFail dt) → (∀ dt, c ≠ .resetAssert dt) → (∀ dt k o, c ≠ .linkChange dt k o) → t.starter = s.starter) := by
  obtain ⟨dt, f, -, e⟩ | ⟨dt, ⟨rfl, e⟩ | ⟨rfl, e⟩⟩ | ⟨dt, clear, ⟨is, -⟩ | ⟨is, -⟩⟩ := exec_cases c s
  · have lines : { s.withLines c with starter := s.starter } = s ∧ (s.withLines c).starter.stopped = true ∧
        ((∀ dt k o, c ≠ .linkChange dt k o) → (s.withLines c).starter = s.starter) := by
      unfold State.withLines
      split
      · exact ⟨rfl, stopped, fun other => absurd rfl (other _ _ _)⟩
      · exact ⟨rfl, stopped, fun _ => rfl⟩
    obtain ⟨rest, still, kept⟩ := lines
    rw [e, event_stopped dt f _ still] at run
    cases run
    exact ⟨(congrArg (fun u : State => { u with now := s.now }) rest :), still, fun _ _ other => kept other⟩
  · cases e.symm.trans run
    rw [State.supplyFail_stopped (s := s.elapse dt) stopped]
    exact ⟨rfl, stopped, fun other => absurd rfl (other dt)⟩
  · cases e.symm.trans run
    rw [State.resetAssert_stopped (s := s.elapse dt) stopped]
    exact ⟨rfl, stopped, fun _ other => absurd rfl (other dt)⟩
  · exact absurd is (supply _ _)
  · exact absurd is (reset _ _)

/-! ### The end of a stop (R193, R194) -/

theorem State.endStop_starts (stopped : s.starter.stopped = true) (supply : s.starter.supply = true) (reset : s.starter.reset = false) :
    s.endStop = s.startUp s.starter.clear s.starter.code :=
  if_pos (by rw [stopped, supply, reset]; rfl)

theorem State.endStop_lasts (held : s.starter.supply = false ∨ s.starter.reset = true) : s.endStop = s := by
  refine if_neg fun ends => ?_
  rw [Bool.and_eq_true, Bool.and_eq_true, Bool.not_eq_true'] at ends
  obtain fallen | asserted := held
  · rw [ends.1.2] at fallen; cases fallen
  · rw [ends.2] at asserted; cases asserted

theorem State.startUp_cold (cold : b = true ∨ ¬ s.StoreKept) : s.startUp b code = s.coldStart := by
  refine if_pos ?_
  rw [Bool.or_eq_true, Bool.not_eq_true', ← Bool.not_eq_true, s.sumVerifies_iff]
  exact cold.symm

/-- The lines as a stop that ends finds them, the CLEAR line at a level. -/
def StartUnit.free (u : StartUnit) (clear : Bool) : StartUnit := { u with supply := true, reset := false, clear := clear }

/-- A stopped part whose stop ends after `dt`, the CLEAR line at a level (R193). -/
def State.freed (s : State) (dt : Nat) (clear : Bool) : State := { s.elapse dt with starter := s.starter.free clear }

/-- The command that ends a stop starts the part (R193). -/
theorem exec_starts {c : Instr} (stopped : s.starter.stopped = true)
    (ends : (c = .supplyReturn dt b ∧ s.starter.reset = false) ∨ (c = .resetRelease dt b ∧ s.starter.supply = true)) :
    exec c s = .next ((s.freed dt b).startUp b s.starter.code) := by
  have ended : (s.freed dt b).endStop = (s.freed dt b).startUp b s.starter.code := State.endStop_starts (s := s.freed dt b) stopped rfl rfl
  rw [← ended]
  obtain ⟨rfl, reset⟩ | ⟨rfl, supply⟩ := ends
  · have lines : ({ s.starter with supply := true, clear := b } : StartUnit) = s.starter.free b := by
      unfold StartUnit.free
      rw [← reset]
    exact congrArg (fun u => Host.Outcome.next (State.endStop { s.elapse dt with starter := u })) lines
  · have lines : ({ s.starter with reset := false, clear := b } : StartUnit) = s.starter.free b := by
      unfold StartUnit.free
      rw [← supply]
    exact congrArg (fun u => Host.Outcome.next (State.endStop { s.elapse dt with starter := u })) lines

/-- What a start leaves is said of the retained contents alone: the moment, the check sum, and the drive table but for its station maps do
not enter it. -/
theorem State.WarmStarted.of_contents {n : Nat} {w : Word} {d : DriveTable} (a : s.WarmStarted t code)
    (period : d.refreshPeriod = s.drive.refreshPeriod)
    (maps : ∀ id, (d.entries.get (driveIndex id)).station = (s.entry id).station ∧ (d.entries.get (driveIndex id)).fn = (s.entry id).fn) :
    State.WarmStarted { s with now := n, checkSum := w, drive := d } t code where
  starter := a.starter
  orders := a.orders
  matcher := a.matcher
  programme := a.programme
  loop := a.loop
  monitors := a.monitors
  lamps := a.lamps
  slots := a.slots
  engines := a.engines
  lights := a.lights
  fire := a.fire
  drive := a.drive.trans period.symm
  entries id := by
    obtain ⟨station, fn, rest⟩ := a.entries id
    exact ⟨station.trans (maps id).1.symm, fn.trans (maps id).2.symm, rest⟩
  values := a.values
  panel := a.panel
  notices := a.notices
  causes := a.causes
  fifo := a.fifo
  store := a.store
  rest := a.rest

/-! ### The delivered contents (R192) -/

theorem Table.get_ofIndex {α : Type} {n : Nat} (f : Nat → α) (i : Fin n) : (Table.ofIndex n f).get i = f i.val :=
  (List.getElem_map ..).trans (congrArg f (List.getElem_range ..))

theorem State.defaulted_entry (s : State) (d : DriveId) :
    (s.defaulted.entry d).station = 0 ∧ (s.defaulted.entry d).fn = deliveredFn d := by
  have at_ := driveIds_at d
  have inside : (driveIndex d).val < driveIds.length := (List.getElem?_eq_some_iff.mp at_).1
  have here : driveIds[(driveIndex d).val] = d := (List.getElem?_eq_some_iff.mp at_).2
  have cell : s.defaulted.entry d = DriveEntry.safe (PerHouse.all ⟨255, 255, 255⟩) s.ms d 0 (deliveredFn d) := by
    show (driveIds.map fun d => DriveEntry.safe (PerHouse.all ⟨255, 255, 255⟩) s.ms d 0 (deliveredFn d))[(driveIndex d).val]'(by
      rw [List.length_map]; exact inside) = _
    rw [List.getElem_map, here]
  rw [cell]
  exact ⟨rfl, rfl⟩

theorem State.delivered_entry (s : State) (d : DriveId) :
    (s.delivered.entry d).station = 0 ∧ (s.delivered.entry d).fn = deliveredFn d := by
  have cell : s.delivered.entry d = _ := Table.get_ofIndex _ (driveIndex d)
  rw [cell]
  refine ⟨rfl, ?_⟩
  rcases d with h | h | h | h | k | k
  case sound => cases k <;> rfl
  case dim => cases k <;> rfl
  all_goals cases h <;> rfl

/-- The contents a cold start writes are the delivered ones. -/
theorem State.delivered_defaulted (s : State) :
    s.delivered = { s.defaulted with checkSum := s.checkSum, drive := s.delivered.drive } := rfl

/-- A cold start is a start on the delivered contents (R194). -/
theorem State.coldStart_delivered (n : Nat) (s : State) : State.WarmStarted (State.delivered { s with now := n }) s.coldStart .cold := by
  refine State.WarmStarted.of_contents (n := n) (w := s.checkSum) (d := s.delivered.drive) s.coldStart_started rfl fun id => ?_
  obtain ⟨station, fn⟩ := s.delivered_entry id
  obtain ⟨station', fn'⟩ := s.defaulted_entry id
  exact ⟨station.trans station'.symm, fn.trans fn'.symm⟩

theorem State.delivered_found (s : State) (k : House) : s.delivered.foundInFire k = s.starter.link.get k := by
  have fire : s.delivered.fireOf k = _ := PerHouse.get_map _ s.fire.house k
  unfold State.foundInFire
  rw [fire]
  rfl

/-! ### A cold start, content by content (R192, R194, R195) -/

/-- A start on the delivered contents of a state. -/
def State.ColdStarted (s t : State) : Prop := State.WarmStarted s.delivered t .cold

section
variable (a : s.ColdStarted t)
include a

theorem State.ColdStarted.loop :
    t.loop.guardTime = 1500 ∧ t.loop.returnLimit = 500 ∧ t.loop.console = 1 ∧ t.loop.state = .search ∧ t.loop.rate = .r19200 ∧
      t.loop.dwell = some (t.ms + 600) ∧ t.loop.latch = false ∧ t.loop.transit = [] ∧ t.loop.counters = LoopCounters.zero := by
  have loop := State.WarmStarted.loop a
  exact ⟨(congrArg LoopUnit.guardTime loop :), (congrArg LoopUnit.returnLimit loop :), (congrArg LoopUnit.console loop :),
    (congrArg LoopUnit.state loop :), (congrArg LoopUnit.rate loop :), (congrArg LoopUnit.dwell loop :), (congrArg LoopUnit.latch loop :),
    (congrArg LoopUnit.transit loop :), (congrArg LoopUnit.counters loop :)⟩

theorem State.ColdStarted.matcher :
    (∀ i, (t.matcher.table.get i).inUse = false ∧ (t.matcher.table.get i).lockMark = false ∧ t.matcher.counts.get i = 0) ∧
      t.matcher.writeLock = false ∧ t.matcher.malformed = 0 := by
  have matcher := State.WarmStarted.matcher a
  rw [matcher]
  refine ⟨fun i => ?_, rfl, rfl⟩
  have cell : s.delivered.matcher.table.get i = _ := Table.get_replicate 32 _ i
  have count : (Table.replicate 32 0 : Table Nat 32).get i = 0 := Table.get_replicate 32 _ i
  exact ⟨(congrArg ReactEntry.inUse cell :), (congrArg ReactEntry.lockMark cell :), count⟩

theorem State.ColdStarted.programme : (∀ i, (t.programme.reels.get i).last = 0) ∧ t.programme.split = 32 := by
  have programme := State.WarmStarted.programme a
  rw [programme]
  refine ⟨fun i => ?_, rfl⟩
  have cell : s.delivered.programme.reels.get i = _ := Table.get_replicate 64 _ i
  exact (congrArg Reel.last cell :)

theorem State.ColdStarted.entries (d : DriveId) :
    (t.entry d).station = 0 ∧ (t.entry d).fn = deliveredFn d ∧ (t.entry d).lastValue = none ∧ (t.entry d).dirty.isSome = true := by
  obtain ⟨station, fn, dirty, value, -⟩ := State.WarmStarted.entries a d
  obtain ⟨station', fn'⟩ := s.delivered_entry d
  exact ⟨station.trans station', fn.trans fn', value, by rw [dirty]; rfl⟩

theorem State.ColdStarted.head (h : Head) :
    (t.lamp h).record =
        { target := 560, base := 96, kp := 32, ki := 64, fmax := 240, imin := 40, trimLength := 9000, lowMargin := 120, strikeLimit := 5 } ∧
      (t.lamp h).rod = 9000 ∧ (t.lamp h).state = .dark ∧ (t.lamp h).contactor = false ∧ (t.mon h).inService = true ∧
      (t.mon h).fps = 24 ∧ (t.mon h).stopLimit = 400 ∧ (t.mon h).idleLimit = 120 ∧ (t.mon h).motion = .stopped ∧
      (t.mon h).hold = false ∧ t.slot h = { role := .empty, held := none } ∧ (t.entry (.motor h)).value = .motor false ∧
      t.LampEntriesSafe h := by
  have lamp : s.delivered.lamp h = _ := PerHead.get_map _ s.lamps h
  have mon : s.delivered.mon h = _ := PerHead.get_map _ s.monitors h
  obtain ⟨motor, safe⟩ := (State.WarmStarted.values a).1 h
  rw [State.WarmStarted.lamps a h, State.WarmStarted.monitors a h, State.WarmStarted.slots a h, lamp, mon]
  exact ⟨rfl, rfl, rfl, rfl, rfl, rfl, rfl, rfl, rfl, rfl, rfl, motor, safe⟩

theorem State.ColdStarted.light (k : House) :
    (∀ i : Fin 64, (t.light k).curve.get i = { ceiling := i.val * 255 / 63, wall := i.val * 255 / 63, aisle := i.val * 255 / 63 }) ∧
      (t.light k).idlePos = 255 ∧ (t.light k).faultPos = 128 ∧ (t.light k).intervalPos = 160 ∧ (t.light k).endPos = 255 ∧
      (t.light k).fastFade = 20 ∧ (t.light k).position = 255 := by
  have light : s.delivered.light k = _ := PerHouse.get_map _ s.lights k
  rw [State.WarmStarted.lights a k, light]
  exact ⟨fun i => Table.get_ofIndex _ i, rfl, rfl, rfl, rfl, rfl, ite_self 255⟩

theorem State.ColdStarted.house (k : House) :
    (t.eng k).runupLimit = 10 ∧ (t.eng k).strikeLead = 40 ∧ (t.eng k).runout = 192 ∧ (t.entry (.sound k)).value = .sound none ∧
      if s.starter.link.get k = true then
        (t.fireOf k).state = .fire ∧ (t.fireOf k).latch = true ∧ (t.fireOf k).port = false ∧ (t.eng k).state = .halted
      else
        (t.fireOf k).state = .clear ∧ (t.fireOf k).latch = false ∧ (t.fireOf k).port = true ∧ (t.fireOf k).gate = true ∧
          (t.eng k).state = .idle := by
  have eng : s.delivered.eng k = _ := PerHouse.get_map _ s.engines k
  have found := s.delivered_found k
  have fire := (State.WarmStarted.fire a).2.2 k
  have engine := State.WarmStarted.engines a k
  rw [found] at fire engine
  rw [engine, fire, eng]
  refine ⟨rfl, rfl, rfl, ((State.WarmStarted.values a).2 k).1, ?_⟩
  cases s.starter.link.get k with
  | true => exact ⟨rfl, rfl, rfl, rfl⟩
  | false => exact ⟨rfl, rfl, rfl, rfl, rfl⟩

theorem State.ColdStarted.notices :
    t.notices.mask = 0 ∧ t.notices.quietTime = 1000 ∧ t.notices.isPending .restarted = true ∧
      (t.notices.causes.get Event.restarted.num).code = some .cold := by
  obtain ⟨mask, quiet, -, -, pending⟩ := State.WarmStarted.notices a
  exact ⟨mask, quiet, (pending .restarted).trans (decide_eq_true (.inl rfl)), (congrArg CauseRecord.code (State.WarmStarted.causes a).1 :)⟩

end

/-- Settles O49: the stop, what a stopped part does, and the warm and the cold start that end it. -/
theorem stopTakesNoEvent : Obligations.StopTakesNoEvent := by
  refine ⟨fun s dt awake => ⟨?_, ?_⟩, fun s t c stopped supply reset run => exec_stopped stopped supply reset run,
    fun s dt stopped => ⟨?_, ?_, fun k o => ?_⟩, fun s dt stopped kept => ⟨fun c ends => ?_, fun b reset => ?_, fun b supply => ?_⟩,
    fun s dt b stopped cold c ends => ?_⟩
  · exact congrArg (fun t : State => (Host.Outcome.next t : Host.Outcome State Fault Refusal))
      (State.supplyFail_awake (s := s.elapse dt) awake)
  · exact congrArg (fun t : State => (Host.Outcome.next t : Host.Outcome State Fault Refusal))
      (State.resetAssert_awake (s := s.elapse dt) awake)
  · exact congrArg (fun t : State => (Host.Outcome.next t : Host.Outcome State Fault Refusal))
      (State.supplyFail_stopped (s := s.elapse dt) stopped)
  · exact congrArg (fun t : State => (Host.Outcome.next t : Host.Outcome State Fault Refusal))
      (State.resetAssert_stopped (s := s.elapse dt) stopped)
  · have ran : exec (.linkChange dt k o) s = .next (s.lined dt k o) :=
      event_stopped dt (fun t => t.linkLevel k o) { s with starter := { s.starter with link := s.starter.link.set k o } } stopped
    exact ⟨_, ran, PerHouse.get_set_same .., fun j ne => PerHouse.get_set_ne _ _ ne, rfl⟩
  · refine ⟨_, exec_starts stopped ends, ?_⟩
    rw [State.startUp_warm (s := s.freed dt false) kept]
    exact (State.warmStart_started (s := s.freed dt false) kept s.starter.code).of_contents (n := s.now) (w := s.checkSum) (d := s.drive) rfl
      fun id => ⟨rfl, rfl⟩
  · exact congrArg (fun t : State => (Host.Outcome.next t : Host.Outcome State Fault Refusal))
      (State.endStop_lasts (s := { s.elapse dt with starter := { s.starter with supply := true, clear := b } }) (.inr reset))
  · exact congrArg (fun t : State => (Host.Outcome.next t : Host.Outcome State Fault Refusal))
      (State.endStop_lasts (s := { s.elapse dt with starter := { s.starter with reset := false, clear := b } }) (.inl supply))
  · refine ⟨_, exec_starts stopped ends, ?_⟩
    rw [State.startUp_cold (s := s.freed dt b) cold]
    have started : State.ColdStarted { s with starter := s.starter.free b } (s.freed dt b).coldStart :=
      (s.freed dt b).coldStart_delivered s.now
    refine ⟨started, State.WarmStarted.starter started, State.WarmStarted.store started, State.WarmStarted.orders started, ?_⟩
    obtain ⟨guard, limit, console, search, rate, dwell, latch, transit, counters⟩ := started.loop
    obtain ⟨table, lock, malformed⟩ := started.matcher
    obtain ⟨reels, split⟩ := started.programme
    obtain ⟨holdTime, window, -⟩ := State.WarmStarted.fire started
    have panel := State.WarmStarted.panel started
    refine ⟨guard, limit, console, search, rate, dwell, latch, transit, counters, table, lock, malformed, reels, split,
      State.WarmStarted.drive started, started.entries, started.head, fun k => ?_, holdTime, window, (congrArg Panel.guardTime panel :),
      (congrArg Panel.present panel :), started.notices⟩
    obtain ⟨curve, idle, fault, interval, ends, fast, position⟩ := started.light k
    obtain ⟨runup, lead, runout, sound, fire⟩ := started.house k
    exact ⟨curve, idle, fault, interval, ends, fast, position, runup, lead, runout, sound, fire⟩

end Sys2Proof.Machine
end

section
/-! SUPPORT. The restart wait is read by nothing but the request of the start (R190): every operation commutes with a relabelling of it
that the request commutes with. Of such relabellings there are two of use: the one that clears the wait, which compares a run with a wait to
the run without, and the one that takes an idle wait for a requested one, which shows that no operation ends a wait by clearing it. -/

namespace Sys2Proof.Machine

/-- A relabelling of the restart wait that commutes with the request of the start (R190). -/
structure Relabel where
  of : RestartWait → RestartWait
  request : ∀ r, (if of r = .waiting then .requested else of r) = of (if r = .waiting then .requested else r)

/-- The wait cleared. -/
def Relabel.cleared : Relabel where
  of _ := .clear
  request _ := rfl

/-- An idle wait taken for a requested one. -/
def Relabel.claimed : Relabel where
  of r := if r = .clear then .requested else r
  request r := by cases r <;> rfl

/-- A state with its restart wait relabelled. -/
def State.relabel (s : State) (m : Relabel) : State := s.setRestart (m.of s.orders.restart)

variable (m : Relabel) (s : State)

/-! ### The fields and what is read of them -/

@[simp] theorem State.relabel_now : (s.relabel m).now = s.now := (rfl)
@[simp] theorem State.relabel_pending : (s.relabel m).pending = s.pending := (rfl)
@[simp] theorem State.relabel_loop : (s.relabel m).loop = s.loop := (rfl)
@[simp] theorem State.relabel_matcher : (s.relabel m).matcher = s.matcher := (rfl)
@[simp] theorem State.relabel_drive : (s.relabel m).drive = s.drive := (rfl)
@[simp] theorem State.relabel_monitors : (s.relabel m).monitors = s.monitors := (rfl)
@[simp] theorem State.relabel_lamps : (s.relabel m).lamps = s.lamps := (rfl)
@[simp] theorem State.relabel_programme : (s.relabel m).programme = s.programme := (rfl)
@[simp] theorem State.relabel_slots : (s.relabel m).slots = s.slots := (rfl)
@[simp] theorem State.relabel_engines : (s.relabel m).engines = s.engines := (rfl)
@[simp] theorem State.relabel_lights : (s.relabel m).lights = s.lights := (rfl)
@[simp] theorem State.relabel_fire : (s.relabel m).fire = s.fire := (rfl)
@[simp] theorem State.relabel_panel : (s.relabel m).panel = s.panel := (rfl)
@[simp] theorem State.relabel_notices : (s.relabel m).notices = s.notices := (rfl)
@[simp] theorem State.relabel_starter : (s.relabel m).starter = s.starter := (rfl)
@[simp] theorem State.relabel_checkSum : (s.relabel m).checkSum = s.checkSum := (rfl)
@[simp] theorem State.relabel_freeCount : (s.relabel m).freeCount = s.freeCount := (rfl)
@[simp] theorem State.relabel_ms : (s.relabel m).ms = s.ms := (rfl)
@[simp] theorem State.relabel_mon (h : Head) : (s.relabel m).mon h = s.mon h := (rfl)
@[simp] theorem State.relabel_lamp (h : Head) : (s.relabel m).lamp h = s.lamp h := (rfl)
@[simp] theorem State.relabel_slot (h : Head) : (s.relabel m).slot h = s.slot h := (rfl)
@[simp] theorem State.relabel_role (h : Head) : (s.relabel m).role h = s.role h := (rfl)
@[simp] theorem State.relabel_ready (h : Head) : (s.relabel m).ready h = s.ready h := (rfl)
@[simp] theorem State.relabel_holdCondition (h : Head) : (s.relabel m).holdCondition h = s.holdCondition h := (rfl)
@[simp] theorem State.relabel_idleCondition (h : Head) : (s.relabel m).idleCondition h = s.idleCondition h := (rfl)
@[simp] theorem State.relabel_strikeIgnored (h : Head) : (s.relabel m).strikeIgnored h = s.strikeIgnored h := (rfl)
@[simp] theorem State.relabel_judged (h : Head) : (s.relabel m).judged h = s.judged h := (rfl)
@[simp] theorem State.relabel_heldReel (h : Head) : (s.relabel m).heldReel h = s.heldReel h := (rfl)
@[simp] theorem State.relabel_heldLength (h : Head) : (s.relabel m).heldLength h = s.heldLength h := (rfl)
@[simp] theorem State.relabel_motorInOrder (h : Head) : (s.relabel m).motorInOrder h = s.motorInOrder h := (rfl)
@[simp] theorem State.relabel_changeInOrder (h : Head) : (s.relabel m).changeInOrder h = s.changeInOrder h := (rfl)
@[simp] theorem State.relabel_eng (k : House) : (s.relabel m).eng k = s.eng k := (rfl)
@[simp] theorem State.relabel_light (k : House) : (s.relabel m).light k = s.light k := (rfl)
@[simp] theorem State.relabel_fireOf (k : House) : (s.relabel m).fireOf k = s.fireOf k := (rfl)
@[simp] theorem State.relabel_inFire (k : House) : (s.relabel m).inFire k = s.inFire k := (rfl)
@[simp] theorem State.relabel_curReel (k : House) : (s.relabel m).curReel k = s.curReel k := (rfl)
@[simp] theorem State.relabel_incoming (k : House) : (s.relabel m).incoming k = s.incoming k := (rfl)
@[simp] theorem State.relabel_anyShowing (k : House) : (s.relabel m).anyShowing k = s.anyShowing k := (rfl)
@[simp] theorem State.relabel_showingHead (k : House) : (s.relabel m).showingHead k = s.showingHead k := (rfl)
@[simp] theorem State.relabel_atRest (k : House) : (s.relabel m).atRest k = s.atRest k := (rfl)
@[simp] theorem State.relabel_entry (d : DriveId) : (s.relabel m).entry d = s.entry d := (rfl)
@[simp] theorem State.relabel_driveFrame (d : DriveId) : (s.relabel m).driveFrame d = s.driveFrame d := (rfl)
@[simp] theorem State.relabel_recordInUse (i : Nat) : (s.relabel m).recordInUse i = s.recordInUse i := (rfl)
@[simp] theorem State.relabel_stripped (f : Frame) : (s.relabel m).stripped f = s.stripped f := (rfl)
@[simp] theorem State.relabel_firstDirty (c : DriveClass) : (s.relabel m).firstDirty c = s.firstDirty c := (rfl)
@[simp] theorem State.relabel_threadedHolding (k : House) (i : Nat) : (s.relabel m).threadedHolding k i = s.threadedHolding k i := (rfl)
@[simp] theorem State.relabel_own : (s.relabel m).orders.own = s.orders.own := (rfl)
@[simp] theorem State.relabel_addressLock : (s.relabel m).orders.addressLock = s.orders.addressLock := (rfl)
@[simp] theorem State.relabel_restart : (s.relabel m).orders.restart = m.of s.orders.restart := (rfl)
@[simp] theorem State.relabel_setMon (h : Head) (x : Monitor) : (s.relabel m).setMon h x = (s.setMon h x).relabel m := (rfl)
@[simp] theorem State.relabel_setLamp (h : Head) (x : Lamp) : (s.relabel m).setLamp h x = (s.setLamp h x).relabel m := (rfl)
@[simp] theorem State.relabel_setSlot (h : Head) (x : Slot) : (s.relabel m).setSlot h x = (s.setSlot h x).relabel m := (rfl)
@[simp] theorem State.relabel_setEng (k : House) (x : Engine) : (s.relabel m).setEng k x = (s.setEng k x).relabel m := (rfl)
@[simp] theorem State.relabel_setLight (k : House) (x : LightUnit) : (s.relabel m).setLight k x = (s.setLight k x).relabel m := (rfl)
@[simp] theorem State.relabel_setFire (k : House) (x : FireHouse) : (s.relabel m).setFire k x = (s.setFire k x).relabel m := (rfl)
@[simp] theorem State.relabel_setLoop (x : LoopUnit) : (s.relabel m).setLoop x = (s.setLoop x).relabel m := (rfl)
@[simp] theorem State.relabel_setNotices (x : NoticeUnit) : (s.relabel m).setNotices x = (s.setNotices x).relabel m := (rfl)
@[simp] theorem State.relabel_setEntry (d : DriveId) (x : DriveEntry) : (s.relabel m).setEntry d x = (s.setEntry d x).relabel m := (rfl)
@[simp] theorem State.relabel_writeDrive (d : DriveId) (v : DriveVal) : (s.relabel m).writeDrive d v = (s.writeDrive d v).relabel m := (rfl)
@[simp] theorem State.relabel_elapse (dt : Nat) : (s.relabel m).elapse dt = (s.elapse dt).relabel m := (rfl)

/-- Two branches relabelled are the choice relabelled. -/
@[simp] theorem State.relabel_ite (c : Prop) {inst : Decidable c} (a b : State) :
    (if c then a.relabel m else b.relabel m) = (if c then a else b).relabel m := by
  split <;> rfl

/-! ### The queues and the notices -/

@[simp] theorem State.relabel_countLoop (f : LoopCounters → LoopCounters) : (s.relabel m).countLoop f = (s.countLoop f).relabel m := by
  simp [State.countLoop]

@[simp] theorem State.relabel_requestStart : (s.relabel m).requestStart = s.requestStart.relabel m := by
  rw [State.requestStart_eq, State.requestStart_eq]
  exact congrArg s.setRestart (m.request s.orders.restart)

@[simp] theorem State.relabel_makeRoom : (s.relabel m).makeRoom = s.makeRoom.relabel m := by
  simp [State.makeRoom]

@[simp] theorem State.relabel_enqueue (w : Waiting) : (s.relabel m).enqueue w = (s.enqueue w).relabel m := by
  simp [State.enqueue]

@[simp] theorem State.relabel_queueNotice (c : NoticeContents) : (s.relabel m).queueNotice c = (s.queueNotice c).relabel m := by
  simp [State.queueNotice]

@[simp] theorem State.relabel_raise (e : Event) (c : Cause) (code : Option Code) :
    (s.relabel m).raise e c code = (s.raise e c code).relabel m := by
  simp [State.raise]

end Sys2Proof.Machine
end

section
/-! SUPPORT. Relabelling the restart wait: the lights, the heads and the changeover engines. -/

namespace Sys2Proof.Machine

variable (m : Relabel) (s : State)

@[simp] theorem State.relabel_acknowledge (marks : Word) : (s.relabel m).acknowledge marks = (s.acknowledge marks).relabel m := by
  simp [State.acknowledge]

@[simp] theorem State.relabel_endOfAlert : (s.relabel m).endOfAlert = (s.endOfAlert).relabel m := by
  simp [State.endOfAlert]

@[simp] theorem State.relabel_clearBit (e : Event) : (s.relabel m).clearBit e = (s.clearBit e).relabel m := by
  simp [State.clearBit]

@[simp] theorem State.relabel_lookupLight (k : House) : (s.relabel m).lookupLight k = (s.lookupLight k).relabel m := by
  simp [State.lookupLight]

@[simp] theorem State.relabel_setRequests (k : House) (r : Requests) : (s.relabel m).setRequests k r = (s.setRequests k r).relabel m := by
  simp [State.setRequests]

@[simp] theorem State.relabel_placeLight (k : House) (src : LightSource) (q : LightReq) :
    (s.relabel m).placeLight k src q = (s.placeLight k src q).relabel m := by
  simp [State.placeLight]

@[simp] theorem State.relabel_withdrawLight (k : House) (src : LightSource) :
    (s.relabel m).withdrawLight k src = (s.withdrawLight k src).relabel m := by
  simp [State.withdrawLight]

@[simp] theorem State.relabel_fadeStep (k : House) : (s.relabel m).fadeStep k = (s.fadeStep k).relabel m := by
  cases found : (s.light k).fade <;> simp [State.fadeStep, found]

@[simp] theorem State.relabel_discardPartial (k : House) : (s.relabel m).discardPartial k = (s.discardPartial k).relabel m := by
  simp [State.discardPartial]

@[simp] theorem State.relabel_commitTriple (k : House) (t : Triple) : (s.relabel m).commitTriple k t = (s.commitTriple k t).relabel m := by
  simp [State.commitTriple]

@[simp] theorem State.relabel_curveByte (k : House) (b : Byte) : (s.relabel m).curveByte k b = (s.curveByte k b).relabel m := by
  rcases found : (s.light k).holder with _ | ⟨c, _ | ⟨w, rest⟩⟩ <;> simp [State.curveByte, found]

@[simp] theorem State.relabel_lightsUp (k : House) : (s.relabel m).lightsUp k = (s.lightsUp k).relabel m := by
  simp [State.lightsUp]

@[simp] theorem State.relabel_lightsDown (k : House) : (s.relabel m).lightsDown k = (s.lightsDown k).relabel m := by
  simp [State.lightsDown]

@[simp] theorem State.relabel_lightsAuto (k : House) : (s.relabel m).lightsAuto k = (s.lightsAuto k).relabel m := by
  simp [State.lightsAuto]

@[simp] theorem State.relabel_rejudgeHold (h : Head) : (s.relabel m).rejudgeHold h = (s.rejudgeHold h).relabel m := by
  simp [State.rejudgeHold]

@[simp] theorem State.relabel_rejudgeIdle (h : Head) : (s.relabel m).rejudgeIdle h = (s.rejudgeIdle h).relabel m := by
  cases found : (s.mon h).idleTimer <;> simp [State.rejudgeIdle, found]

@[simp] theorem State.relabel_resetCounter (h : Head) : (s.relabel m).resetCounter h = (s.resetCounter h).relabel m := by
  simp [State.resetCounter]

@[simp] theorem State.relabel_assign (h : Head) (r : Role) (i : Option Nat) : (s.relabel m).assign h r i = (s.assign h r i).relabel m := by
  simp [State.assign]

@[simp] theorem State.relabel_setRole (h : Head) (r : Role) : (s.relabel m).setRole h r = (s.setRole h r).relabel m := by
  simp [State.setRole]

@[simp] theorem State.relabel_strikeRequest (h : Head) : (s.relabel m).strikeRequest h = (s.strikeRequest h).relabel m := by
  simp [State.strikeRequest]

@[simp] theorem State.relabel_normalShutdown (h : Head) : (s.relabel m).normalShutdown h = (s.normalShutdown h).relabel m := by
  cases found : (s.lamp h).state <;> simp [State.normalShutdown, found]

@[simp] theorem State.relabel_overrideShutdown (h : Head) : (s.relabel m).overrideShutdown h = (s.overrideShutdown h).relabel m := by
  simp [State.overrideShutdown]

@[simp] theorem State.relabel_carbonCheckThread (h : Head) (n : Nat) :
    (s.relabel m).carbonCheckThread h n = (s.carbonCheckThread h n).relabel m := by
  simp [State.carbonCheckThread]

@[simp] theorem State.relabel_carbonCheckShow (h : Head) : (s.relabel m).carbonCheckShow h = (s.carbonCheckShow h).relabel m := by
  simp [State.carbonCheckShow]

@[simp] theorem State.relabel_setClaim (k : House) : (s.relabel m).setClaim k = (s.setClaim k).relabel m := by
  simp [State.setClaim]

@[simp] theorem State.relabel_withdrawClaim (k : House) : (s.relabel m).withdrawClaim k = (s.withdrawClaim k).relabel m := by
  simp [State.withdrawClaim]

@[simp] theorem State.relabel_placeCue (k : House) : (s.relabel m).placeCue k = (s.placeCue k).relabel m := by
  cases found : (s.curReel k).light <;> simp [State.placeCue, found]

@[simp] theorem State.relabel_tailEnd (h : Head) : (s.relabel m).tailEnd h = (s.tailEnd h).relabel m := by
  simp [State.tailEnd]

@[simp] theorem State.relabel_tailJudge (h : Head) : (s.relabel m).tailJudge h = (s.tailJudge h).relabel m := by
  cases found : s.heldLength h <;> simp [State.tailJudge, found]

@[simp] theorem State.relabel_endPicture (h : Head) : (s.relabel m).endPicture h = (s.endPicture h).relabel m := by
  simp [State.endPicture]

@[simp] theorem State.relabel_darken (h : Head) : (s.relabel m).darken h = (s.darken h).relabel m := by
  simp [State.darken]

@[simp] theorem State.relabel_endReelInterval (h : Head) : (s.relabel m).endReelInterval h = (s.endReelInterval h).relabel m := by
  simp [State.endReelInterval]

@[simp] theorem State.relabel_endReelShow (h : Head) : (s.relabel m).endReelShow h = (s.endReelShow h).relabel m := by
  simp [State.endReelShow]

@[simp] theorem State.relabel_showPicture (h : Head) : (s.relabel m).showPicture h = (s.showPicture h).relabel m := by
  simp [State.showPicture]

@[simp] theorem State.relabel_runupIdle (k : House) : (s.relabel m).runupIdle k = (s.runupIdle k).relabel m := by
  simp [State.runupIdle]

@[simp] theorem State.relabel_startHeadBase (h : Head) (p : Purpose) :
    (s.relabel m).startHeadBase h p = (s.startHeadBase h p).relabel m := by
  simp [State.startHeadBase]

@[simp] theorem State.relabel_readyAgain (h : Head) : (s.relabel m).readyAgain h = (s.readyAgain h).relabel m := by
  simp [State.readyAgain]

/-! ### What ends in the judgement of R119 -/

section
variable {m} {J : Judge} (judges : ∀ h s, J h (s.relabel m) = (J h s).relabel m)
include judges

theorem relabel_swap (h : Head) : swap J h (s.relabel m) = (swap J h s).relabel m := by
  simp [swap, judges]

theorem relabel_enterRunning (h : Head) : enterRunning J h (s.relabel m) = (enterRunning J h s).relabel m := by
  simp [enterRunning, judges]

theorem relabel_incomingReady (h : Head) : incomingReady J h (s.relabel m) = (incomingReady J h s).relabel m := by
  simp [incomingReady, relabel_swap _ judges]

theorem relabel_startIncoming (h : Head) : startIncoming J h (s.relabel m) = (startIncoming J h s).relabel m := by
  simp [startIncoming, relabel_incomingReady _ judges]

theorem relabel_resumeReady (h : Head) : resumeReady J h (s.relabel m) = (resumeReady J h s).relabel m := by
  simp [resumeReady, judges, relabel_startIncoming _ judges]

theorem relabel_resumeSwap (h : Head) : resumeSwap J h (s.relabel m) = (resumeSwap J h s).relabel m := by
  simp [resumeSwap, relabel_swap _ judges]

theorem relabel_headReady (h : Head) : headReady J h (s.relabel m) = (headReady J h s).relabel m := by
  unfold headReady
  simp only [State.relabel_eng, State.relabel_role]
  split
  · split
    · simp [relabel_enterRunning _ judges]
    · simp [relabel_incomingReady _ judges]
    · simp [relabel_resumeReady _ judges]
    · simp [relabel_resumeSwap _ judges]
    · rfl
  · split
    · simp
    · simp [relabel_swap _ judges]
    · rfl

theorem relabel_startHead (h : Head) (p : Purpose) : startHead J h p (s.relabel m) = (startHead J h p s).relabel m := by
  simp [startHead, relabel_headReady _ judges]

theorem relabel_takeMotor (k : House) : takeMotor J k (s.relabel m) = (takeMotor J k s).relabel m := by
  cases found : (s.setEng k { s.eng k with motorTaken := true }).role ((s.setEng k { s.eng k with motorTaken := true }).incoming k) <;>
    simp [takeMotor, found, relabel_startIncoming _ judges]

theorem relabel_takeChange (k : House) : takeChange J k (s.relabel m) = (takeChange J k s).relabel m := by
  simp [takeChange, relabel_swap _ judges]

theorem relabel_motorStep (h : Head) : motorStep J h (s.relabel m) = (motorStep J h s).relabel m := by
  simp [motorStep, relabel_takeMotor _ judges]

theorem relabel_changeStep (h : Head) : changeStep J h (s.relabel m) = (changeStep J h s).relabel m := by
  simp [changeStep, relabel_takeChange _ judges]

end

@[simp] theorem relabel_strikeStep (h : Head) : strikeStep h (s.relabel m) = (strikeStep h s).relabel m := by
  cases found : (s.setEng h.house { s.eng h.house with strikeDone := true }).role
      ((s.setEng h.house { s.eng h.house with strikeDone := true }).incoming h.house) <;>
    simp [strikeStep, found]

@[simp] theorem relabel_lastStep (h : Head) : lastStep h (s.relabel m) = (lastStep h s).relabel m := by
  simp [lastStep]

theorem relabel_judgeStep {m : Relabel} {f : State → State} (step : ∀ s, f (s.relabel m) = (f s).relabel m) (h : Head) (s : State) :
    judgeStep h f (s.relabel m) = (judgeStep h f s).relabel m := by
  simp [judgeStep, step]

/-- The judgement of R119's steps, to any depth. -/
@[simp] theorem relabel_judge (n : Nat) (h : Head) (s : State) : judge n h (s.relabel m) = (judge n h s).relabel m := by
  induction n generalizing h s with
  | zero => rfl
  | succ n ih =>
    have strike := relabel_judgeStep (relabel_strikeStep m · h) h
    have motor := relabel_judgeStep (fun s => relabel_motorStep s ih h) h
    have change := relabel_judgeStep (fun s => relabel_changeStep s ih h) h
    have last := relabel_judgeStep (relabel_lastStep m · h) h
    rw [judge_succ, judge_succ, strike, motor, change, last]

@[simp] theorem relabel_judgeFrames (h : Head) (s : State) :
    judgeFrames h (s.relabel m) = (judgeFrames h s).relabel m := relabel_judge m 4 h s

end Sys2Proof.Machine
end

section
/-! SUPPORT. Relabelling the restart wait: the events of the engines, the heads and the lamps, and the fire unit. -/

namespace Sys2Proof.Machine

variable (m : Relabel) (s : State)

@[simp] theorem State.relabel_frameEvent (h : Head) : (s.relabel m).frameEvent h = (s.frameEvent h).relabel m := by
  cases found : s.role h <;> simp [State.frameEvent, found]

@[simp] theorem State.relabel_strayCue (k : House) : (s.relabel m).strayCue k = (s.strayCue k).relabel m := by
  simp [State.strayCue]

@[simp] theorem State.relabel_motorCue (h : Head) : (s.relabel m).motorCue h = (s.motorCue h).relabel m := by
  simp [State.motorCue, relabel_takeMotor _ (relabel_judgeFrames m)]

@[simp] theorem State.relabel_changeCue (h : Head) : (s.relabel m).changeCue h = (s.changeCue h).relabel m := by
  simp [State.changeCue, relabel_takeChange _ (relabel_judgeFrames m)]

@[simp] theorem State.relabel_halt (k : House) (b : Bool) : (s.relabel m).halt k b = (s.halt k b).relabel m := by
  simp [State.halt]

@[simp] theorem State.relabel_motionReport (h : Head) : (s.relabel m).motionReport h = (s.motionReport h).relabel m := by
  cases found : (s.mon h).motion <;> simp [State.motionReport, found, relabel_headReady _ (relabel_judgeFrames m)]

@[simp] theorem State.relabel_litReport (h : Head) : (s.relabel m).litReport h = (s.litReport h).relabel m := by
  simp [State.litReport, relabel_headReady _ (relabel_judgeFrames m)]

@[simp] theorem State.relabel_lightLost (h : Head) : (s.relabel m).lightLost h = (s.lightLost h).relabel m := by
  simp [State.lightLost]

@[simp] theorem State.relabel_runupExpiry (k : House) : (s.relabel m).runupExpiry k = (s.runupExpiry k).relabel m := by
  cases found : (s.eng k).runup <;> simp [State.runupExpiry, found]

@[simp] theorem State.relabel_clearHead (h : Head) : (s.relabel m).clearHead h = (s.clearHead h).relabel m := by
  simp [State.clearHead]

@[simp] theorem State.relabel_armAccepted (k : House) (i : Nat) : (s.relabel m).armAccepted k i = (s.armAccepted k i).relabel m := by
  simp [State.armAccepted]

@[simp] theorem State.relabel_afterThread (h : Head) : (s.relabel m).afterThread h = (s.afterThread h).relabel m := by
  simp [State.afterThread, relabel_startIncoming _ (relabel_judgeFrames m)]

@[simp] theorem State.relabel_threadAccepted (h : Head) (i : Nat) :
    (s.relabel m).threadAccepted h i = (s.threadAccepted h i).relabel m := by
  simp [State.threadAccepted]

@[simp] theorem State.relabel_reportMotion (h : Head) : (s.relabel m).reportMotion h = (s.reportMotion h).relabel m := by
  simp [State.reportMotion]

@[simp] theorem State.relabel_acceptPulse (h : Head) : (s.relabel m).acceptPulse h = (s.acceptPulse h).relabel m := by
  simp [State.acceptPulse]

@[simp] theorem State.relabel_pulse (h : Head) : (s.relabel m).pulse h = (s.pulse h).relabel m := by
  simp [State.pulse]

@[simp] theorem State.relabel_slowExpiry (h : Head) : (s.relabel m).slowExpiry h = (s.slowExpiry h).relabel m := by
  simp [State.slowExpiry]

@[simp] theorem State.relabel_stopExpiry (h : Head) : (s.relabel m).stopExpiry h = (s.stopExpiry h).relabel m := by
  simp [State.stopExpiry]

@[simp] theorem State.relabel_idleExpiry (h : Head) : (s.relabel m).idleExpiry h = (s.idleExpiry h).relabel m := by
  simp [State.idleExpiry]

@[simp] theorem State.relabel_leaveService (h : Head) : (s.relabel m).leaveService h = (s.leaveService h).relabel m := by
  simp [State.leaveService]

@[simp] theorem State.relabel_enterService (h : Head) : (s.relabel m).enterService h = (s.enterService h).relabel m := by
  simp [State.enterService]

@[simp] theorem State.relabel_setService (h : Head) (v : Bool) : (s.relabel m).setService h v = (s.setService h v).relabel m := by
  simp [State.setService]

@[simp] theorem State.relabel_failLamp (h : Head) (l : Lamp) : (s.relabel m).failLamp h l = (s.failLamp h l).relabel m := by
  simp [State.failLamp]

@[simp] theorem State.relabel_carbonEnd (h : Head) (b : Bool) : (s.relabel m).carbonEnd h b = (s.carbonEnd h b).relabel m := by
  simp [State.carbonEnd]

@[simp] theorem State.relabel_arcOut (h : Head) : (s.relabel m).arcOut h = (s.arcOut h).relabel m := by
  simp [State.arcOut]

@[simp] theorem State.relabel_runRegulator (h : Head) (v : Nat) : (s.relabel m).runRegulator h v = (s.runRegulator h v).relabel m := by
  simp [State.runRegulator]

@[simp] theorem State.relabel_struck (h : Head) (v : Nat) : (s.relabel m).struck h v = (s.struck h v).relabel m := by
  simp [State.struck]

@[simp] theorem State.relabel_sampleStriking (h : Head) (x : Sample) :
    (s.relabel m).sampleStriking h x = (s.sampleStriking h x).relabel m := by
  simp [State.sampleStriking]

@[simp] theorem State.relabel_sampleBurning (h : Head) (x : Sample) :
    (s.relabel m).sampleBurning h x = (s.sampleBurning h x).relabel m := by
  simp [State.sampleBurning]

@[simp] theorem State.relabel_lampSample (h : Head) (v c : Nat) (b : Bool) :
    (s.relabel m).lampSample h v c b = (s.lampSample h v c b).relabel m := by
  cases found : (s.lamp h).state <;> simp [State.lampSample, found]

@[simp] theorem State.relabel_strikeExpiry (h : Head) : (s.relabel m).strikeExpiry h = (s.strikeExpiry h).relabel m := by
  simp [State.strikeExpiry]

@[simp] theorem State.relabel_staleExpiry (h : Head) : (s.relabel m).staleExpiry h = (s.staleExpiry h).relabel m := by
  simp [State.staleExpiry]

@[simp] theorem State.relabel_writeFmax (h : Head) (f : Nat) : (s.relabel m).writeFmax h f = (s.writeFmax h f).relabel m := by
  simp [State.writeFmax]

@[simp] theorem State.relabel_enterFire (k : House) (code : Code) : (s.relabel m).enterFire k code = (s.enterFire k code).relabel m := by
  simp [State.enterFire]

@[simp] theorem State.relabel_dropHouse (k : House) (code : Code) : (s.relabel m).dropHouse k code = (s.dropHouse k code).relabel m := by
  simp [State.dropHouse]

@[simp] theorem State.relabel_leaveFire (k : House) : (s.relabel m).leaveFire k = (s.leaveFire k).relabel m := by
  cases found : oldestPre (s.fireOf k).detectors <;> simp [State.leaveFire, found]

@[simp] theorem State.relabel_linkLevel (k : House) (b : Bool) : (s.relabel m).linkLevel k b = (s.linkLevel k b).relabel m := by
  simp [State.linkLevel]

@[simp] theorem State.relabel_judgeAlert (k : House) : (s.relabel m).judgeAlert k = (s.judgeAlert k).relabel m := by
  simp [State.judgeAlert]

@[simp] theorem State.relabel_judgeReport (k : House) (source : Byte) (zone : Zone) (c : Condition) (l : List Detector) :
    (s.relabel m).judgeReport k source zone c l = (s.judgeReport k source zone c l).relabel m := by
  cases c <;> simp [State.judgeReport]

@[simp] theorem State.relabel_houseReport (k : House) (source : Byte) (zone : Zone) (c : Condition) :
    (s.relabel m).houseReport k source zone c = (s.houseReport k source zone c).relabel m := by
  simp [State.houseReport]

@[simp] theorem State.relabel_detectorReport (source : Byte) (zone : Zone) (c : Condition) :
    (s.relabel m).detectorReport source zone c = (s.detectorReport source zone c).relabel m := by
  simp [State.detectorReport]

@[simp] theorem State.relabel_detectorExpiry (k : House) (source : Byte) :
    (s.relabel m).detectorExpiry k source = (s.detectorExpiry k source).relabel m := by
  simp [State.detectorExpiry]

@[simp] theorem State.relabel_fireDrop (k : House) : (s.relabel m).fireDrop k = (s.fireDrop k).relabel m := by
  simp [State.fireDrop]

/-! ### The show functions -/

/-- A state and what is answered beside it, the restart wait relabelled. -/
def relabelled {α : Type} (m : Relabel) (r : State × α) : State × α := (r.1.relabel m, r.2)

section
variable {α : Type} (r : State × α)

@[simp] theorem relabelled_fst : (relabelled m r).1 = r.1.relabel m := (rfl)
@[simp] theorem relabelled_snd : (relabelled m r).2 = r.2 := (rfl)
@[simp] theorem relabelled_mk (x : α) : (s.relabel m, x) = relabelled m (s, x) := (rfl)

@[simp] theorem relabelled_ite (c : Prop) {inst : Decidable c} (a b : State × α) :
    (if c then relabelled m a else relabelled m b) = relabelled m (if c then a else b) := by
  split <;> rfl

end

@[simp] theorem State.relabel_arm (k : House) (i : Option Nat) : (s.relabel m).arm k i = relabelled m (s.arm k i) := by
  simp [State.arm]

@[simp] theorem State.relabel_thread (h : Head) : (s.relabel m).thread h = relabelled m (s.thread h) := by
  cases found : s.role h <;> simp [State.thread, found]

@[simp] theorem State.relabel_start (k : House) : (s.relabel m).start k = relabelled m (s.start k) := by
  unfold State.start
  simp only [State.relabel_eng, State.relabel_threadedHolding]
  split
  · split <;> simp [relabel_startHead _ (relabel_judgeFrames m)]
  · split <;> simp [relabel_startHead _ (relabel_judgeFrames m)]
  · simp [relabel_startIncoming _ (relabel_judgeFrames m)]
  · simp

@[simp] theorem State.relabel_change (k : House) : (s.relabel m).change k = relabelled m (s.change k) := by
  simp [State.change, relabel_takeChange _ (relabel_judgeFrames m), relabel_takeMotor _ (relabel_judgeFrames m)]

@[simp] theorem State.relabel_haltFunction (k : House) : (s.relabel m).haltFunction k = relabelled m (s.haltFunction k) := by
  simp [State.haltFunction]

@[simp] theorem State.relabel_resume (k : House) : (s.relabel m).resume k = relabelled m (s.resume k) := by
  cases found : s.showingHead k <;> simp [State.resume, found, relabel_startHead _ (relabel_judgeFrames m)]

@[simp] theorem State.relabel_fireReset (k : House) : (s.relabel m).fireReset k = relabelled m (s.fireReset k) := by
  simp [State.fireReset]

end Sys2Proof.Machine
end

section
/-! SUPPORT. Relabelling the restart wait: the panel, the matcher and the orders. -/

namespace Sys2Proof.Machine

variable (m : Relabel) (s : State)

/-! ### The panel (R171 to R173, R178, R180) -/

@[simp] theorem State.relabel_houseKey (k : House) (bit : Nat) : (s.relabel m).houseKey k bit = (s.houseKey k bit).relabel m := by
  unfold State.houseKey
  split <;> simp

@[simp] theorem State.relabel_headKey (bit : Nat) : (s.relabel m).headKey bit = (s.headKey bit).relabel m := by
  unfold State.headKey
  split <;> simp

@[simp] theorem State.relabel_commonKey (bit : Nat) : (s.relabel m).commonKey bit = (s.commonKey bit).relabel m := by
  unfold State.commonKey
  split <;> simp [State.ackKey]

theorem relabel_pressKeys {m : Relabel} {press : State → Nat → State}
    (presses : ∀ s bit, press (s.relabel m) bit = (press s bit).relabel m)
    (newly : Byte) (s : State) : pressKeys press newly (s.relabel m) = (pressKeys press newly s).relabel m := by
  unfold pressKeys
  induction List.range 8 generalizing s with
  | nil => rfl
  | cons bit bits ih => simp [presses, ih]

@[simp] theorem State.relabel_panelDelivery (x : KeyMap) : (s.relabel m).panelDelivery x = (s.panelDelivery x).relabel m := by
  have delivered : ({ s.relabel m with panel := s.panel.delivered x s.ms } : State) =
      ({ s with panel := s.panel.delivered x s.ms } : State).relabel m := rfl
  have house : ∀ k newly s, pressKeys (fun t bit => t.houseKey k bit) newly (s.relabel m) =
      (pressKeys (fun t bit => t.houseKey k bit) newly s).relabel m := fun k =>
    relabel_pressKeys fun s bit => State.relabel_houseKey m s k bit
  have head : ∀ newly s, pressKeys State.headKey newly (s.relabel m) = (pressKeys State.headKey newly s).relabel m :=
    relabel_pressKeys fun s bit => State.relabel_headKey m s bit
  have common : ∀ newly s, pressKeys State.commonKey newly (s.relabel m) = (pressKeys State.commonKey newly s).relabel m :=
    relabel_pressKeys fun s bit => State.relabel_commonKey m s bit
  unfold State.panelDelivery
  simp only [State.relabel_panel, State.relabel_ms, delivered, house, head, common, State.relabel_ite]

@[simp] theorem State.relabel_panelExpiry : (s.relabel m).panelExpiry = s.panelExpiry.relabel m := by
  have expired : ({ s.relabel m with panel := { s.panel with present := false, guard := none } } : State) =
      ({ s with panel := { s.panel with present := false, guard := none } } : State).relabel m := rfl
  unfold State.panelExpiry
  simp only [State.relabel_panel, State.relabel_ms, expired, State.relabel_raise, State.relabel_ite]

@[simp] theorem State.relabel_quietExpiry : (s.relabel m).quietExpiry = s.quietExpiry.relabel m := by
  simp [State.quietExpiry]

@[simp] theorem State.relabel_setMask (marks : Word) : (s.relabel m).setMask marks = (s.setMask marks).relabel m := by
  simp [State.setMask]

/-! ### The matcher (R27 to R34) -/

@[simp] theorem State.relabel_malformed : (s.relabel m).malformed = s.malformed.relabel m := (rfl)
@[simp] theorem State.relabel_countMatch (i : Fin 32) : (s.relabel m).countMatch i = (s.countMatch i).relabel m := (rfl)

@[simp] theorem State.relabel_deliver (a : Action) (f : Frame) : (s.relabel m).deliver a f = (s.deliver a f).relabel m := by
  cases a with
  | pass => rfl
  | drop => rfl
  | cue h =>
    show (s.relabel m).deliverCue h f.payload = _
    cases found : f.payload <;> simp [State.deliver, State.deliverCue, found]
  | lamp h =>
    show (s.relabel m).deliverLamp h f.payload = (s.deliverLamp h f.payload).relabel m
    unfold State.deliverLamp
    split <;> simp
  | sense z =>
    show (s.relabel m).deliverSense z f.src f.payload = (s.deliverSense z f.src f.payload).relabel m
    unfold State.deliverSense
    split
    · simp
    · split <;> simp
  | panel =>
    show (s.relabel m).deliverPanel f.payload = (s.deliverPanel f.payload).relabel m
    unfold State.deliverPanel
    split <;> simp

@[simp] theorem State.relabel_matchFrame (f : Frame) : (s.relabel m).matchFrame f = relabelled m (s.matchFrame f) := by
  cases found : s.matcher.taking f <;> simp [State.matchFrame, found]

@[simp] theorem State.relabel_refresh (d : DriveId) : (s.relabel m).refresh d = (s.refresh d).relabel m := by
  simp [State.refresh]

/-! ### The orders -/

@[simp] theorem relabel_judgeRead (sec a b page : Byte) :
    judgeRead sec a b page (s.relabel m) = relabelled m (judgeRead sec a b page s) := by
  unfold judgeRead
  split
  case h_2 =>
    have pages : (s.relabel m).mapPages = s.mapPages := rfl
    unfold judgeReadMap
    dsimp only
    rw [pages]
    split <;> rfl
  case h_6 =>
    unfold judgeReadCurve
    split
    · rename_i k i _ _
      have pages : (s.relabel m).curvePages k i = s.curvePages k i := rfl
      simp [pages]
    · rfl
  all_goals rfl

@[simp] theorem relabel_judgeSetup (item index : Byte) (value : Word) :
    judgeSetup item index value (s.relabel m) = relabelled m (judgeSetup item index value s) := by
  have mons : ∀ lo hi put, setHeadValue lo hi index value put (s.relabel m) = relabelled m (setHeadValue lo hi index value put s) :=
    fun lo hi put => by unfold setHeadValue; split <;> rfl
  have engs : ∀ lo hi put, setEngineValue lo hi index value put (s.relabel m) = relabelled m (setEngineValue lo hi index value put s) :=
    fun lo hi put => by unfold setEngineValue; split <;> rfl
  have lights : ∀ put, setLightValue index value put (s.relabel m) = relabelled m (setLightValue index value put s) :=
    fun put => by unfold setLightValue; split <;> rfl
  unfold judgeSetup
  split
  case h_4 => simp [judgeSetupConsole]
  case h_5 =>
    unfold judgeSetupService
    split
    · rfl
    · split <;> simp
  case h_6 | h_7 | h_8 => exact mons _ _ _
  case h_9 | h_10 | h_11 => exact engs _ _ _
  case h_12 | h_13 | h_14 | h_15 | h_16 => exact lights _
  case h_17 =>
    unfold judgeSetupHold
    rw [State.relabel_matcher]
    split <;> rfl
  case h_18 =>
    unfold judgeSetupWindow
    rw [State.relabel_matcher]
    split <;> rfl
  all_goals rfl

@[simp] theorem relabel_judgeShow (fn target : Byte) (start : Option Byte) :
    judgeShow fn target start (s.relabel m) = relabelled m (judgeShow fn target start s) := by
  have houses : ∀ run : House → State → State × Result, (∀ k s, run k (s.relabel m) = relabelled m (run k s)) →
      houseShow target start run (s.relabel m) = relabelled m (houseShow target start run s) := fun run runs => by
    unfold houseShow
    split
    · rfl
    · split <;> simp [runs]
  have heads : ∀ run : Head → State → State × Result, (∀ h s, run h (s.relabel m) = relabelled m (run h s)) →
      headShow target start run (s.relabel m) = relabelled m (headShow target start run s) := fun run runs => by
    unfold headShow
    split
    · rfl
    · split <;> simp [runs]
  unfold judgeShow
  split
  case h_1 =>
    unfold judgeArm
    split <;> simp
  case h_9 => exact heads _ fun h s => by simp
  case h_10 => exact heads _ fun h s => by simp
  case h_13 => rfl
  all_goals exact houses _ fun k s => by simp

@[simp] theorem relabel_judgeWriteLamp (head item : Byte) (value : Word) :
    judgeWriteLamp head item value (s.relabel m) = relabelled m (judgeWriteLamp head item value s) := by
  unfold judgeWriteLamp
  split
  · rfl
  · simp only [State.relabel_lamp]
    split
    · rfl
    · simp

@[simp] theorem State.relabel_leaveRing : (s.relabel m).leaveRing = s.leaveRing.relabel m := by
  unfold State.leaveRing
  simp only [State.relabel_loop]
  split
  · split <;> simp [State.moveToListen]
  · simp

@[simp] theorem State.relabel_joinRing : (s.relabel m).joinRing = s.joinRing.relabel m := by
  cases found : s.loop.state <;> simp [State.joinRing, found]

theorem relabel_curveBytes {m : Relabel} (k : House) (bytes : List Byte) (s : State) :
    bytes.foldl (fun t b => t.curveByte k b) (s.relabel m) = (bytes.foldl (fun t b => t.curveByte k b) s).relabel m := by
  induction bytes generalizing s with
  | nil => rfl
  | cons b bytes ih => simp [ih]

theorem relabel_judgeWriteReact (p : ReactParams) : judgeWriteReact p (s.relabel m) = relabelled m (judgeWriteReact p s) := by
  unfold judgeWriteReact
  simp only [State.relabel_matcher]
  repeat' split
  all_goals rfl

theorem relabel_judgeWriteMap (i st fn : Byte) : judgeWriteMap i st fn (s.relabel m) = relabelled m (judgeWriteMap i st fn s) := by
  unfold judgeWriteMap
  repeat' split
  all_goals rfl

theorem relabel_judgeWriteReel (p : ReelParams) : judgeWriteReel p (s.relabel m) = relabelled m (judgeWriteReel p s) := by
  unfold judgeWriteReel
  simp only [State.relabel_recordInUse, State.relabel_programme]
  repeat' split
  all_goals rfl

theorem relabel_judgeCurvePoint (k e : Byte) : judgeCurvePoint k e (s.relabel m) = relabelled m (judgeCurvePoint k e s) := by
  unfold judgeCurvePoint
  split <;> rfl

theorem relabel_judgeCurveData (k : House) (bs : List Byte) : judgeCurveData k bs (s.relabel m) = relabelled m (judgeCurveData k bs s) := by
  unfold judgeCurveData
  split
  · simp [relabel_curveBytes]
  · rfl

theorem relabel_judgeTrim (h : Byte) (n : Option Word) : judgeTrim h n (s.relabel m) = relabelled m (judgeTrim h n s) := by
  unfold judgeTrim
  simp only [State.relabel_lamp]
  repeat' split
  all_goals rfl

theorem relabel_judgeSplit (n : Byte) : judgeSplit n (s.relabel m) = relabelled m (judgeSplit n s) := by
  simp only [judgeSplit, State.relabel_programme, State.relabel_matcher, State.relabel_atRest]
  repeat' split
  all_goals rfl

theorem relabel_judgeAddress (a l : Byte) : judgeAddress a l (s.relabel m) = relabelled m (judgeAddress a l s) := by
  simp only [judgeAddress, State.relabel_addressLock]
  repeat' split
  all_goals rfl

/-- The judgement of every order reads nothing of the restart wait. -/
theorem relabel_judgeOrder (o : Order) : judgeOrder o (s.relabel m) = relabelled m (judgeOrder o s) := by
  cases o with
  | read sec a b page => exact relabel_judgeRead m s sec a b page
  | writeReact p => exact relabel_judgeWriteReact m s p
  | writeMap i st fn => exact relabel_judgeWriteMap m s i st fn
  | writeReel p => exact relabel_judgeWriteReel m s p
  | writeLamp h item v => exact relabel_judgeWriteLamp m s h item v
  | setup item index v => exact relabel_judgeSetup m s item index v
  | curvePoint k e => exact relabel_judgeCurvePoint m s k e
  | curveData k bs => exact relabel_judgeCurveData m s k bs
  | trim h n => exact relabel_judgeTrim m s h n
  | splitPoint n => exact relabel_judgeSplit m s n
  | address a l => exact relabel_judgeAddress m s a l
  | showFn fn t st => exact relabel_judgeShow m s fn t st
  | ack marks => exact congrArg (·, Reply.plain .done) (State.relabel_acknowledge m s marks)
  | endAlert => exact congrArg (·, Reply.plain .done) (State.relabel_endOfAlert m s)
  | mask marks => exact congrArg (·, Reply.plain .done) (State.relabel_setMask m s marks)
  | leave => exact congrArg (·, Reply.plain .done) (State.relabel_leaveRing m s)
  | join => exact congrArg (·, Reply.plain .done) (State.relabel_joinRing m s)
  | lock | clearCounters | restart | bad => rfl

end Sys2Proof.Machine
end

section
/-! SUPPORT. Relabelling the restart wait: the loop unit, the effect of every command but a RESTART, and the arbiter. -/

namespace Sys2Proof.Machine

variable (m : Relabel) (s : State)

/-! ### The loop unit -/

@[simp] theorem State.relabel_putBackNotice (c : NoticeContents) : (s.relabel m).putBackNotice c = (s.putBackNotice c).relabel m := by
  simp [State.putBackNotice]

@[simp] theorem State.relabel_abandon (t : Sending) : (s.relabel m).abandon t = (s.abandon t).relabel m := by
  cases t <;> simp [State.abandon]

@[simp] theorem State.relabel_enterSearch : (s.relabel m).enterSearch = s.enterSearch.relabel m := by
  cases found : s.loop.out <;> simp [State.enterSearch, found]

@[simp] theorem State.relabel_dwellExpiry : (s.relabel m).dwellExpiry = s.dwellExpiry.relabel m := by
  simp [State.dwellExpiry]

@[simp] theorem State.relabel_guardExpiry : (s.relabel m).guardExpiry = s.guardExpiry.relabel m := by
  simp [State.guardExpiry]

@[simp] theorem State.relabel_returnExpiry : (s.relabel m).returnExpiry = s.returnExpiry.relabel m := by
  simp [State.returnExpiry]

@[simp] theorem State.relabel_strip (f : Frame) : (s.relabel m).strip f = (s.strip f).relabel m := by
  cases found : s.loop.returned f <;> simp [State.strip, found]

@[simp] theorem State.relabel_joinRepeats (f : Frame) : (s.relabel m).joinRepeats f = (s.joinRepeats f).relabel m := by
  simp [State.joinRepeats]

@[simp] theorem State.relabel_lengthError : (s.relabel m).lengthError = s.lengthError.relabel m := by
  cases found : s.loop.rx <;> simp [State.lengthError, found]

@[simp] theorem State.relabel_lengthIdle : (s.relabel m).lengthIdle = s.lengthIdle.relabel m := by
  cases found : s.loop.rx <;> simp [State.lengthIdle, found]

@[simp] theorem State.relabel_lineBreak (c : BreakCause) : (s.relabel m).lineBreak c = (s.lineBreak c).relabel m := by
  cases found : s.loop.rx <;> simp [State.lineBreak, found]

@[simp] theorem State.relabel_outFree : (s.relabel m).outFree = s.outFree.relabel m := by
  cases found : s.loop.out <;> simp [State.outFree, found]

@[simp] theorem State.relabel_moveToListen : (s.relabel m).moveToListen = s.moveToListen.relabel m := by
  simp [State.moveToListen]

@[simp] theorem State.relabel_sendingDone (t : Sending) : (s.relabel m).sendingDone t = (s.sendingDone t).relabel m := by
  cases t <;> simp [State.sendingDone]

@[simp] theorem State.relabel_lastByteSent : (s.relabel m).lastByteSent = s.lastByteSent.relabel m := by
  cases found : s.loop.out <;> simp [State.lastByteSent, found]

/-! ### The arbiter (R22) -/

@[simp] theorem State.relabel_startDrive (d : DriveId) (c : DriveClass) (t : Nat) :
    (s.relabel m).startDrive d c t = (s.startDrive d c t).relabel m := (rfl)

@[simp] theorem State.relabel_startWaiting (w : Waiting) (rest : List Waiting) :
    (s.relabel m).startWaiting w rest = (s.startWaiting w rest).relabel m := by
  cases w <;> rfl

@[simp] theorem State.relabel_startLate : (s.relabel m).startLate = s.startLate.relabel m := by
  unfold State.startLate
  simp only [State.relabel_firstDirty]
  repeat' split
  all_goals rfl

@[simp] theorem State.relabel_startOriginated : (s.relabel m).startOriginated = s.startOriginated.relabel m := by
  unfold State.startOriginated
  simp only [State.relabel_firstDirty, State.relabel_loop]
  repeat' split
  all_goals simp

@[simp] theorem State.relabel_choose : (s.relabel m).choose = s.choose.relabel m := by
  cases found : s.loop.repeats <;> simp [State.choose, found]

@[simp] theorem State.relabel_arbitrate : (s.relabel m).arbitrate = s.arbitrate.relabel m := by
  simp [State.arbitrate]

/-! ### Reception (R4 to R9) -/

section
variable {m} {order : State → State} (orders : ∀ s, order (s.relabel m) = (order s).relabel m)
include orders

theorem State.relabel_route (f : Frame) (b : Bool) : (s.relabel m).route f b order = (s.route f b order).relabel m := by
  simp [State.route, orders]

theorem State.relabel_arrive (f : Frame) (b : Bool) : (s.relabel m).arrive f b order = (s.arrive f b order).relabel m := by
  simp [State.arrive, State.relabel_route _ orders]

theorem State.relabel_goodTelegram (f : Frame) : (s.relabel m).goodTelegram f order = (s.goodTelegram f order).relabel m := by
  cases found : s.loop.state <;> simp [State.goodTelegram, found, State.relabel_arrive _ orders]

theorem State.relabel_receive (f : Frame) : (s.relabel m).receive f order = (s.receive f order).relabel m := by
  cases found : s.loop.rx <;> simp [State.receive, found, State.relabel_goodTelegram _ orders]

end

/-- An order but RESTART, taken. -/
theorem relabel_answerOrder (src code : Byte) (o : Order) :
    answerOrder src code (judgeOrder o) (s.relabel m) = (answerOrder src code (judgeOrder o) s).relabel m := by
  simp [answerOrder, relabel_judgeOrder]

theorem relabel_takeOrder {o : Order} (other : o ≠ .restart) (src : Byte) :
    takeOrder src o (s.relabel m) = (takeOrder src o s).relabel m := by
  have taken : ∀ s, takeOrder src o s = answerOrder src o.code (judgeOrder o) s := fun s => by
    cases o with
    | restart => exact absurd rfl other
    | _ => rfl
  rw [taken, taken, relabel_answerOrder]

/-! ### What the order processor is handed -/

section
variable {order order' : State → State} {s : State}

/-- The order processor is handed a state with the orders as the telegram found them. -/
theorem State.receive_congr (same : ∀ t : State, t.orders = s.orders → order t = order' t) (f : Frame) :
    s.receive f order = s.receive f order' := by
  have route : ∀ (t : State) b, t.orders = s.orders → t.route f b order = t.route f b order' := fun t b orders => by
    unfold State.route
    rw [same t orders]
  have arrive : ∀ (t : State) b, t.orders = s.orders → t.arrive f b order = t.arrive f b order' := fun t b orders => by
    unfold State.arrive
    dsimp only
    rw [route (t.setLoop { t.loop with guard := some (t.ms + t.loop.guardTime) }) b orders]
  have good : ∀ t : State, t.orders = s.orders → t.goodTelegram f order = t.goodTelegram f order' := fun t orders => by
    unfold State.goodTelegram
    rw [arrive (t.setLoop t.loop.lockedRate) false orders, arrive t true orders]
  unfold State.receive
  dsimp only
  rw [good (s.setLoop { s.loop with rx := .seeking }) rfl]

end

end Sys2Proof.Machine
end

section
/-! SUPPORT. Relabelling the restart wait: every command but a RESTART does to a state relabelled what it does to the state (R190). -/

namespace Sys2Proof.Machine

variable {s t u : State} {c : Instr} {dt : Nat} {f : State → State}

/-- A command that may bring a RESTART to the order processor. -/
def BringsRestart : Instr → Prop
  | .restart _ _ => True
  | .telegramComplete _ f => decodeOrder f.payload = .restart
  | .unknownOrder _ _ p => decodeOrder p = .restart
  | _ => False

/-- An order but RESTART that arrives. -/
theorem State.relabel_hear {frame : State → Frame} (same : ∀ (m : Relabel) s, frame (s.relabel m) = frame s) {o : Order}
    (other : o ≠ .restart) (src : Byte) (m : Relabel) (s : State) :
    (s.relabel m).receive (frame (s.relabel m)) (takeOrder src o) = (s.receive (frame s) (takeOrder src o)).relabel m := by
  rw [same, State.relabel_receive s fun t => relabel_takeOrder m t other src]

theorem State.relabel_hearOrder {o : Order} (other : o ≠ .restart) (src : Byte) (m : Relabel) (s : State) :
    State.hearOrder src o (s.relabel m) = (State.hearOrder src o s).relabel m :=
  State.relabel_hear (frame := fun t => t.orderFrame src (encodeOrder o)) (fun _ _ => rfl) other src m s

/-- A command's effect takes a RESTART, or commutes with every relabelling of the restart wait. -/
theorem effect_relabel (effect : commandEffect c = some (dt, f)) :
    (BringsRestart c ∧ ∃ (frame : State → Frame) (src : Byte), f = fun t => t.receive (frame t) (takeRestart src)) ∨
      ∀ (m : Relabel) s, f (s.relabel m) = (f s).relabel m := by
  cases c <;> cases effect
  case telegramComplete f =>
    by_cases restart : decodeOrder f.payload = .restart
    · exact .inl ⟨restart, fun _ => f, f.src, by rw [restart]; rfl⟩
    · exact .inr (State.relabel_hear (frame := fun _ => f) (fun _ _ => rfl) restart _)
  case unknownOrder src p =>
    by_cases restart : decodeOrder p = .restart
    · exact .inl ⟨restart, fun t => t.orderFrame src p, src, by rw [restart]; rfl⟩
    · exact .inr (State.relabel_hear (frame := fun t => t.orderFrame src p) (fun _ _ => rfl) restart _)
  case restart src => exact .inl ⟨trivial, fun t => t.orderFrame src (encodeOrder .restart), src, rfl⟩
  case lineBreak => exact .inr fun m (s : State) => s.relabel_lineBreak m _
  case lengthError => exact .inr State.relabel_lengthError
  case lengthIdleEnd => exact .inr State.relabel_lengthIdle
  case searchDwellExpiry => exact .inr State.relabel_dwellExpiry
  case loopGuardExpiry => exact .inr State.relabel_guardExpiry
  case returnDeadlineExpiry => exact .inr State.relabel_returnExpiry
  case loopOutFree => exact .inr State.relabel_outFree
  case lastByteSent => exact .inr State.relabel_lastByteSent
  case refreshDue => exact .inr fun m (s : State) => s.relabel_refresh m _
  case framePulse => exact .inr fun m (s : State) => s.relabel_pulse m _
  case slowTimerExpiry => exact .inr fun m (s : State) => s.relabel_slowExpiry m _
  case stopTimerExpiry => exact .inr fun m (s : State) => s.relabel_stopExpiry m _
  case idleTimerExpiry => exact .inr fun m (s : State) => s.relabel_idleExpiry m _
  case strikeTimerExpiry => exact .inr fun m (s : State) => s.relabel_strikeExpiry m _
  case staleTimerExpiry => exact .inr fun m (s : State) => s.relabel_staleExpiry m _
  case runupDeadlineExpiry => exact .inr fun m (s : State) => s.relabel_runupExpiry m _
  case fadeStep => exact .inr fun m (s : State) => s.relabel_fadeStep m _
  case linkChange => exact .inr fun m (s : State) => s.relabel_linkLevel m _ _
  case detectorExpiry => exact .inr fun m (s : State) => s.relabel_detectorExpiry m _ _
  case panelGuardExpiry => exact .inr State.relabel_panelExpiry
  case quietTimerExpiry => exact .inr State.relabel_quietExpiry
  all_goals
    refine .inr (State.relabel_hearOrder ?_ _)
    nofun

/-! ### The end of an event -/

variable (m : Relabel) (s)

theorem State.relabel_sealFrom (b : State) : (s.relabel m).sealFrom (b.relabel m) = (s.sealFrom b).relabel m := by
  have retained : ∀ s : State, (s.relabel m).retained = s.retained := fun _ => rfl
  unfold State.sealFrom
  rw [retained, retained, State.relabel_checkSum]
  generalize (if s.retained = b.retained then b.checkSum else storeSum s.retained) = w
  rfl

theorem State.relabel_withLines (c : Instr) : (s.relabel m).withLines c = (s.withLines c).relabel m := by
  cases c <;> rfl

/-- An event that requests no start, relabelled or not, ends the same. -/
theorem State.relabel_conclude {s : State} (b : State) (unrequested : s.orders.restart ≠ .requested)
    (unclaimed : m.of s.orders.restart ≠ .requested) : (s.relabel m).conclude (b.relabel m) = (s.conclude b).relabel m := by
  unfold State.conclude
  dsimp only
  rw [State.relabel_sealFrom, if_neg (show ((s.sealFrom b).relabel m).orders.restart ≠ .requested from unclaimed),
    if_neg (show (s.sealFrom b).orders.restart ≠ .requested from unrequested), State.relabel_arbitrate]

/-- A wait that is set claims nothing. -/
theorem State.relabel_claimed {s : State} (set : s.orders.restart ≠ .clear) : s.relabel .claimed = s := by
  show s.setRestart (if s.orders.restart = .clear then .requested else s.orders.restart) = s
  rw [if_neg set]
  rfl

end Sys2Proof.Machine
end

section
/-! SUPPORT. While a restart is awaited: no command ends the wait but by the start, and every command but a RESTART does what it does with
no restart awaited (R190). -/

namespace Sys2Proof.Machine

variable {s t u b : State} {c : Instr} {dt : Nat} {f : State → State} {code : Code}

/-! ### A wait that is set stays set until the start -/

/-- A RESTART taken while the wait is set is answered and changes nothing more (R190). -/
theorem takeRestart_again (set : s.orders.restart ≠ .clear) (src : Byte) :
    takeRestart src s = s.enqueue (.answer src (answerPayload 0x15 (Reply.plain .done)) false) := by
  unfold takeRestart
  cases wait : s.orders.restart with
  | clear => exact absurd wait set
  | waiting => rfl
  | requested => rfl

/-- A state that the claim of an idle wait leaves has a wait that is set. -/
theorem State.set_of_claimed (same : s.relabel .claimed = s) : s.orders.restart ≠ .clear := by
  have claim : ∀ r, Relabel.claimed.of r ≠ .clear := fun r => by cases r <;> nofun
  rw [← same]
  exact claim _

/-- An effect that commutes with the claim keeps a wait set. -/
theorem State.set_of_relabel (commutes : f (s.relabel .claimed) = (f s).relabel .claimed) (set : s.orders.restart ≠ .clear) :
    (f s).orders.restart ≠ .clear :=
  State.set_of_claimed (commutes.symm.trans (congrArg f (State.relabel_claimed set)))

/-- No command's effect clears the restart wait. -/
theorem effect_set (effect : commandEffect c = some (dt, f)) (set : s.orders.restart ≠ .clear) : (f s).orders.restart ≠ .clear := by
  obtain ⟨-, frame, src, rfl⟩ | commutes := effect_relabel effect
  · have plain : s.receive (frame s) (takeRestart src) =
        s.receive (frame s) fun t => t.enqueue (.answer src (answerPayload 0x15 (Reply.plain .done)) false) :=
      State.receive_congr (fun t orders => takeRestart_again (by rw [orders]; exact set) src) _
    show (s.receive (frame s) (takeRestart src)).orders.restart ≠ .clear
    rw [plain]
    exact State.set_of_relabel (f := fun t => t.receive (frame s) _)
      (s.relabel_receive (fun t => t.relabel_enqueue .claimed _) (frame s)) set
  · exact State.set_of_relabel (commutes .claimed s) set

/-! ### The starts clear the wait -/

theorem State.startUp_clears (s : State) (b : Bool) (code : Code) : (s.startUp b code).orders.restart = .clear := by
  unfold State.startUp
  split
  · exact (congrArg OrderUnit.restart (State.warmStart_started (State.writeStore_kept _) .cold).orders :)
  · rename_i verifies
    rw [Bool.or_eq_true, not_or, Bool.not_eq_true', Bool.not_eq_false] at verifies
    exact (congrArg OrderUnit.restart (State.warmStart_started (s.sumVerifies_iff.mp verifies.1) code).orders :)

theorem State.restartNow_clears (s : State) : s.restartNow.orders.restart = .clear := by
  unfold State.restartNow
  split
  · rfl
  · exact State.startUp_clears ..

theorem State.endStop_cases (s : State) :
    s.endStop.orders.restart = .clear ∨ s.endStop = s ∧ (s.relabel .cleared).endStop = s.relabel .cleared := by
  unfold State.endStop
  split
  · exact .inl (State.startUp_clears ..)
  · rename_i lasts
    exact .inr ⟨rfl, if_neg lasts⟩

/-! ### The rest goes on as usual -/

theorem State.relabel_supplyFail (m : Relabel) (s : State) : (s.relabel m).supplyFail = s.supplyFail.relabel m := by
  cases stopped : s.starter.stopped with
  | false => rw [State.supplyFail_awake stopped, State.supplyFail_awake (s := s.relabel m) stopped]; rfl
  | true => rw [State.supplyFail_stopped stopped, State.supplyFail_stopped (s := s.relabel m) stopped]; rfl

theorem State.relabel_resetAssert (m : Relabel) (s : State) : (s.relabel m).resetAssert = s.resetAssert.relabel m := by
  cases stopped : s.starter.stopped with
  | false => rw [State.resetAssert_awake stopped, State.resetAssert_awake (s := s.relabel m) stopped]; rfl
  | true => rw [State.resetAssert_stopped stopped, State.resetAssert_stopped (s := s.relabel m) stopped]; rfl

/-- An event that leaves the wait set does what it does without the wait. -/
theorem event_uncleared (commutes : ∀ s, f (s.relabel .cleared) = (f s).relabel .cleared) (run : event dt f s = .next t)
    (waits : t.orders.restart = .waiting) (calm : event dt f (s.relabel .cleared) = .next u) : t.relabel .cleared = u := by
  obtain ⟨stopped, rfl⟩ | ⟨awake, rfl⟩ := event_cases run
  · rw [event_stopped _ _ (s.relabel .cleared) stopped] at calm
    cases calm
    rfl
  · rw [event_awake _ _ (s.relabel .cleared) awake] at calm
    cases calm
    have unrequested : (f (s.elapse dt)).orders.restart ≠ .requested := fun requested => by
      rw [State.conclude_starts _ _ requested, State.restartNow_clears] at waits
      cases waits
    rw [State.relabel_elapse, commutes, State.relabel_conclude .cleared _ unrequested nofun]

/-- Any command but a RESTART that leaves the wait set does what it does without the wait. -/
theorem exec_uncleared (other : ¬ BringsRestart c) (run : exec c s = .next t) (waits : t.orders.restart = .waiting)
    (calm : exec c (s.relabel .cleared) = .next u) : t.relabel .cleared = u := by
  obtain ⟨dt, f, effect, e⟩ | ⟨dt, ⟨rfl, e⟩ | ⟨rfl, e⟩⟩ | ⟨dt, clear, ⟨rfl, e⟩ | ⟨rfl, e⟩⟩ := exec_cases c s
  · obtain ⟨brings, -⟩ | commutes := effect_relabel effect
    · exact absurd brings other
    rw [exec_eq_event effect, State.relabel_withLines] at calm
    exact event_uncleared (commutes .cleared) (e.symm.trans run) waits calm
  · cases e.symm.trans run
    cases calm
    exact ((s.elapse dt).relabel_supplyFail .cleared).symm
  · cases e.symm.trans run
    cases calm
    exact ((s.elapse dt).relabel_resetAssert .cleared).symm
  · cases e.symm.trans run
    cases calm
    obtain started | ⟨lasts, calm⟩ :=
      State.endStop_cases { s.elapse dt with starter := { s.starter with supply := true, clear := clear } }
    · cases started.symm.trans waits
    · exact (congrArg (fun t : State => t.relabel .cleared) lasts).trans calm.symm
  · cases e.symm.trans run
    cases calm
    obtain started | ⟨lasts, calm⟩ :=
      State.endStop_cases { s.elapse dt with starter := { s.starter with reset := false, clear := clear } }
    · cases started.symm.trans waits
    · exact (congrArg (fun t : State => t.relabel .cleared) lasts).trans calm.symm

end Sys2Proof.Machine
end

section
/-! SUPPORT. The start that ends a restart wait (R190, R194, R196): what it reads of the state it finds, and the state it leaves. -/

namespace Sys2Proof.Machine

variable {s t u b : State} {c : Instr} {dt : Nat} {f : State → State} {code : Code}

/-! ### What a start reads -/

/-- A state less the moment, the loop's run, the notices raised and the restart wait. -/
def State.unrun (s : State) : State :=
  { s with now := 0, loop := s.loop.initial 0, notices := s.notices.initial, orders := { s.orders with restart := .clear } }

/-- What a start reads of a state: what it sets afresh in the loop unit, the notices and the drive table is left out, and with it the moment,
the restart wait and the check sum. -/
def State.carried (s : State) : State := s.settled.unrun

/-- The settled state says what a start reads. -/
theorem State.carried_of_settled (same : t.settled = s.settled) : t.carried = s.carried :=
  congrArg State.unrun same

theorem State.carried_retained (s : State) : s.carried.retained = s.retained := s.settled_retained

theorem State.retained_of_carried (same : t.carried = s.carried) : t.retained = s.retained := by
  rw [← t.carried_retained, same, s.carried_retained]

theorem State.WarmStarted.of_units {l : LoopUnit} {n : NoticeUnit} {o : OrderUnit} (a : s.WarmStarted t code)
    (loop : l.initial 0 = s.loop.initial 0) (notices : n.initial = s.notices.initial)
    (orders : { o with restart := .clear } = { s.orders with restart := .clear }) :
    State.WarmStarted { s with loop := l, notices := n, orders := o } t code :=
  have mask : n.mask = s.notices.mask := (congrArg NoticeUnit.mask notices :)
  have masked : ∀ e, n.isMasked e = s.notices.isMasked e := fun e => by rw [NoticeUnit.isMasked, mask]; rfl
  { a with
    orders := a.orders.trans orders.symm
    loop := a.loop.trans (congrArg (fun l : LoopUnit => { l with dwell := some (t.ms + 600) }) loop.symm)
    notices :=
      have ⟨mask', quietTime, rest⟩ := a.notices
      ⟨mask'.trans mask.symm, quietTime.trans (congrArg NoticeUnit.quietTime notices.symm :), rest⟩
    fifo := by
      have fifo := a.fifo
      rw [← masked, ← masked, ← masked] at fifo
      exact fifo }

/-- A start leaves the same of two states of which it reads the same. -/
theorem State.WarmStarted.of_carried (same : u.carried = s.carried) (a : u.WarmStarted t code) : s.WarmStarted t code := by
  have map : ∀ (s : State) d, (s.settled.entry d).station = (s.entry d).station ∧ (s.settled.entry d).fn = (s.entry d).fn := fun s d => by
    rw [State.settled_entry]
    exact ⟨rfl, rfl⟩
  have read : u.carried.WarmStarted t code :=
    (a.of_contents (n := 0) (w := 0) (d := u.settled.drive) rfl (map u)).of_units (l := u.loop.initial 0) (n := u.notices.initial)
      (o := { u.orders with restart := .clear }) rfl rfl rfl
  rw [same] at read
  exact (read.of_contents (n := s.now) (w := s.checkSum) (d := s.drive) rfl fun d => ⟨(map s d).1.symm, (map s d).2.symm⟩).of_units
    (l := s.loop) (n := s.notices) (o := s.orders) rfl rfl rfl

theorem State.RestartHalted.of_carried (same : u.carried = s.carried) (a : u.RestartHalted t) : s.RestartHalted t where
  starter := a.starter.trans (congrArg (fun s : State => { s.starter with stopped := true }) same :)
  orders := a.orders.trans (congrArg State.orders same :)
  store := ⟨a.store.1.trans (State.retained_of_carried same), a.store.2⟩
  lines := a.lines

/-- The lines a stop releases are not among what a start keeps. -/
theorem State.WarmStarted.of_stopped (a : s.beginStop.WarmStarted t code) : s.WarmStarted t code where
  starter := a.starter
  orders := a.orders
  matcher := a.matcher
  programme := a.programme
  loop := a.loop
  monitors h := (a.monitors h).trans (by cases h <;> rfl)
  lamps h := (a.lamps h).trans (by cases h <;> rfl)
  slots := a.slots
  engines k := (a.engines k).trans (by cases k <;> rfl)
  lights k := (a.lights k).trans (by cases k <;> rfl)
  fire :=
    have ⟨hold, window, house⟩ := a.fire
    ⟨hold, window, fun k => (house k).trans (by cases k <;> rfl)⟩
  drive := a.drive
  entries := a.entries
  values := a.values
  panel := a.panel
  notices := a.notices
  causes := by
    obtain ⟨restarted, fire, rest⟩ := a.causes
    exact ⟨restarted, fun k found => fire k (by cases k <;> exact found), rest⟩
  fifo := a.fifo
  store := a.store
  rest := a.rest

/-! ### The end of the wait -/

/-- The start that a RESTART brings, or the stop it begins when a fall or a reset prolongs it (R190, R196; log entry 14). -/
def State.Restarts (s t : State) : Prop := (s.StartsAlone → s.WarmStarted t .order) ∧ (¬ s.StartsAlone → s.RestartHalted t)

theorem State.startsAlone_iff : s.StartsAlone ↔ s.fallTogether = false := by
  rw [← Bool.not_eq_true, State.fallTogether_iff, not_exists]
  exact forall_congr' fun rest => not_or.symm

theorem State.Restarts.of_carried (same : u.carried = s.carried) (a : u.Restarts t) : s.Restarts t := by
  have pending : u.pending = s.pending := (congrArg State.pending same :)
  have alone : u.StartsAlone ↔ s.StartsAlone := by
    unfold State.StartsAlone
    rw [pending]
  exact ⟨fun starts => .of_carried same (a.1 (alone.mpr starts)),
    fun together => .of_carried same (a.2 fun starts => together (alone.mp starts))⟩

theorem State.beginStop_halted (kept : s.StoreKept) : s.RestartHalted (s.beginStop.setRestart .clear) where
  starter := rfl
  orders := rfl
  store := ⟨s.beginStop_retained, kept.of_eq rfl s.beginStop_retained⟩
  lines := ⟨fun h => by cases h <;> exact ⟨rfl, rfl⟩, fun k => by cases k <;> rfl, rfl, rfl⟩

theorem State.restartNow_restarts (kept : s.StoreKept) : s.Restarts s.restartNow := by
  rw [State.Restarts, State.startsAlone_iff]
  refine ⟨fun alone => ?_, fun together => ?_⟩
  · have stopped : s.beginStop.StoreKept := kept.of_eq rfl s.beginStop_retained
    rw [State.restartNow_alone s alone, State.startUp_warm stopped]
    exact (State.warmStart_started stopped .order).of_stopped
  · rw [State.restartNow_together s (Bool.not_eq_false _ ▸ together)]
    exact State.beginStop_halted kept

/-- An event that ends with the start requested carries it out (R190). -/
theorem State.conclude_restarts (kept : b.StoreKept) (requested : s.orders.restart = .requested) : s.Restarts (s.conclude b) := by
  rw [State.conclude_starts s b requested]
  exact (State.restartNow_restarts (State.sealFrom_kept kept)).of_carried (State.carried_of_settled (s.sealFrom_settled b))

theorem event_restarts (kept : s.StoreKept) (awake : s.starter.stopped = false) (row : exec c s = event dt f s)
    (requested : (f (s.elapse dt)).orders.restart = .requested) (same : (f (s.elapse dt)).carried = u.carried) :
    ∃ t, exec c s = .next t ∧ u.Restarts t :=
  ⟨_, row.trans (event_awake dt f s awake), (State.conclude_restarts (b := s.elapse dt) kept requested).of_carried same⟩

/-- The store as found stands in a part that a RESTART leaves stopped (R193). -/
theorem State.RestartHalted.checkSum (kept : s.StoreKept) (a : s.RestartHalted t) : t.checkSum = s.checkSum := by
  obtain ⟨retained, sum⟩ := a.store
  exact (sum : t.checkSum = _).trans ((congrArg storeSum retained).trans kept.symm)

/-! ### What a start reads stands while the loop unit runs -/

theorem State.relabel_carried (m : Relabel) (s : State) : (s.relabel m).carried = s.carried := (rfl)

/-- What the loop unit does with the wait cleared says what it leaves with the wait set. -/
theorem State.carried_of_cleared (commutes : f (s.relabel .cleared) = (f s).relabel .cleared)
    (kept : ∀ s : State, s.orders.restart ≠ .waiting → (f s).carried = s.carried) : (f s).carried = s.carried := by
  rw [← (f s).relabel_carried .cleared, ← commutes, kept (s.relabel .cleared) nofun, State.relabel_carried]

theorem State.enqueue_carried (s : State) (w : Waiting) : (s.enqueue w).carried = s.carried :=
  State.carried_of_cleared (f := fun s => s.enqueue w) (s.relabel_enqueue .cleared w) fun s calm =>
    State.carried_of_settled (s.enqueue_settled w calm)

theorem State.raise_carried (s : State) (e : Event) (x : Cause) (k : Option Code) : (s.raise e x k).carried = s.carried :=
  State.carried_of_cleared (f := fun s => s.raise e x k) (s.relabel_raise .cleared e x k) fun s calm =>
    (State.carried_of_settled (s.raise_settled e x k calm)).trans rfl

theorem State.enterSearch_carried (s : State) : s.enterSearch.carried = s.carried :=
  State.carried_of_cleared (s.relabel_enterSearch .cleared) fun _ calm =>
    (State.carried_of_settled (State.enterSearch_searching calm).settled).trans rfl

theorem State.countLoop_carried (s : State) (g : LoopCounters → LoopCounters) : (s.countLoop g).carried = s.carried := by
  unfold State.countLoop
  split <;> rfl

theorem State.requestStart_carried (s : State) : s.requestStart.carried = s.carried := by
  rw [State.requestStart_eq]
  rfl

theorem State.setRestart_carried (s : State) (r : RestartWait) : (s.setRestart r).carried = s.carried := (rfl)

theorem State.heard_carried (s : State) (dt : Nat) : (s.heard dt).carried = s.carried := by
  unfold State.heard LoopUnit.heard
  dsimp only
  split <;> rfl

end Sys2Proof.Machine
end

section
/-! SUPPORT. Orders taken while a restart is awaited, and the ways the wait ends (R14, R21, R23, R190). -/

namespace Sys2Proof.Machine

variable {s t u b : State} {c : Instr} {dt : Nat} {f : State → State} {src dst : Byte} {p : List Byte} {named : Bool} {w : Waiting}

/-! ### The request of the start -/

/-- A wait that is set taken for requested: what the request makes of it (R190). -/
def Relabel.demanded : Relabel where
  of r := if r = .waiting then .requested else r
  request r := by cases r <;> rfl

theorem State.moveToListen_restart (s : State) :
    s.moveToListen.orders.restart = if s.orders.restart = .waiting then .requested else s.orders.restart := by
  unfold State.moveToListen
  rw [State.requestStart_eq]
  rfl

/-- The entry to SEARCH requests the start (R12, R190): a NOTICE put back may have requested it before. -/
theorem State.enterSearch_restart (s : State) :
    s.enterSearch.orders.restart = if s.orders.restart = .waiting then .requested else s.orders.restart := by
  have demanded : (s.relabel .demanded).orders.restart ≠ .waiting := by
    show Relabel.demanded.of s.orders.restart ≠ .waiting
    cases s.orders.restart <;> nofun
  have entered := (congrArg OrderUnit.restart (State.enterSearch_searching demanded).orders :)
  rw [State.relabel_enterSearch] at entered
  have settled : ∀ x : State, Relabel.demanded.of x.requestStart.orders.restart = x.requestStart.orders.restart := fun x => by
    rw [State.requestStart_eq]
    show Relabel.demanded.of (Relabel.demanded.of x.orders.restart) = Relabel.demanded.of x.orders.restart
    cases x.orders.restart <;> rfl
  exact (settled _).symm.trans entered

/-! ### The answer/notice FIFO while a restart is awaited (R21) -/

/-- A telegram that joins a full FIFO makes the oldest ANSWER go (R21, R24, R190). -/
theorem State.enqueue_full {before after : List Waiting} (full : s.loop.fifo.length = 4)
    (fifo : s.loop.fifo = before ++ .answer dst p named :: after) (notices : ∀ x ∈ before, x.isNotice = true) (w : Waiting) :
    s.enqueue w =
      { s with
        loop :=
          { s.loop with
            fifo := before ++ after ++ [w]
            counters :=
              if s.loop.state = .search then s.loop.counters
              else { s.loop.counters with answerDrop := min (s.loop.counters.answerDrop + 1) 65535 } }
        orders :=
          { s.orders with
            restart := if named = true ∧ s.orders.restart = .waiting then .requested else s.orders.restart } } := by
  unfold State.enqueue
  rw [State.makeRoom_full full fifo notices]
  rfl

/-- A telegram that joins the FIFO and requests nothing leaves the settled state, a restart awaited or not. -/
theorem State.enqueue_settled_of (same : (s.enqueue w).orders.restart = s.orders.restart) : (s.enqueue w).settled = s.settled := by
  have cleared := State.enqueue_settled (s.relabel .cleared) w nofun
  rw [State.relabel_enqueue] at cleared
  calc (s.enqueue w).settled
      = ((s.enqueue w).setRestart (s.enqueue w).orders.restart).settled := rfl
    _ = ((s.enqueue w).setRestart s.orders.restart).settled := by rw [same]
    _ = s.settled := (congrArg (fun t => t.setRestart s.orders.restart) cleared :)

/-- An ANSWER that waits is still waiting after the arbiter's choice, or is the one started (R22). -/
theorem State.arbitrate_keeps (waits : Waiting.answer dst p named ∈ s.loop.fifo) :
    Waiting.answer dst p named ∈ s.arbitrate.loop.fifo ∨
      s.arbitrate.loop.out = .sending (.answer (Frame.make dst s.orders.own Config.kindAnswer p) named) := by
  obtain none | ⟨-, ⟨_, _, -, starts⟩ | ⟨-, ⟨w, rest, fifo, starts⟩ | ⟨_, _, _, -, starts⟩⟩⟩ := s.arbitrate_cases
  · exact .inl (by rw [none]; exact waits)
  · exact .inl (by rw [starts]; exact waits)
  · rw [starts]
    rw [fifo] at waits
    obtain rfl | later := List.mem_cons.mp waits
    · exact .inr rfl
    · exact .inl (by cases w <;> exact later)
  · exact .inl (by rw [starts]; exact waits)

/-- An event that requests no start ends in its effect, sending aside, with the ANSWER it queued waiting or being sent. -/
theorem State.conclude_keeps (unrequested : s.orders.restart ≠ .requested) (waits : Waiting.answer dst p named ∈ s.loop.fifo) (b : State) :
    (s.conclude b).Settles s ∧
      (Waiting.answer dst p named ∈ (s.conclude b).loop.fifo ∨
        (s.conclude b).loop.out = .sending (.answer (Frame.make dst s.orders.own Config.kindAnswer p) named)) := by
  refine ⟨State.conclude_settles s b unrequested, ?_⟩
  unfold State.conclude
  dsimp only
  rw [if_neg (by rw [State.sealFrom_orders]; exact unrequested)]
  exact State.arbitrate_keeps (s := s.sealFrom b) waits

/-! ### An order taken while a restart is awaited (R182, R190) -/

theorem State.heard_locking (search : s.loop.state = .search) : s.heard dt = (s.elapse dt).lockedOn :=
  congrArg (fun l : LoopUnit => (s.elapse dt).setLoop { l with rx := .seeking, guard := some ((s.elapse dt).ms + l.guardTime) })
    (if_pos search : (if s.loop.state = .search then s.loop.lockedRate else s.loop) = s.loop.lockedRate)

theorem State.heard_arrived (locked : s.loop.state ≠ .search) : s.heard dt = (s.elapse dt).arrived :=
  congrArg (fun l : LoopUnit => (s.elapse dt).setLoop { l with rx := .seeking, guard := some ((s.elapse dt).ms + l.guardTime) })
    (if_neg locked : (if s.loop.state = .search then s.loop.lockedRate else s.loop) = s.loop)

/-- An ORDER to the part goes to the order processor (R9). -/
theorem State.route_orderFrame (own : t.orders.own = s.orders.own) (b : Bool) (run : State → State) :
    t.route (s.orderFrame src p) b run = run t := by
  unfold State.route
  exact (if_pos own.symm).trans (if_pos rfl)

/-- A listening part takes an order in the state `heard`, a restart awaited or not (R8, R9, R11). -/
theorem State.receive_heard (listens : (s.setRestart .clear).Listens src) (len : p.length ≤ 12) (run : State → State) :
    (s.elapse dt).receive ((s.elapse dt).orderFrame src p) run = run (s.heard dt) := by
  have address : ((s.elapse dt).orderFrame src p).addressOk = true :=
    decide_eq_true ⟨listens.station.1, listens.station.2, listens.own.1, Nat.le_succ_of_le listens.own.2⟩
  have check : ((s.elapse dt).orderFrame src p).checkOk = true := Frame.make_checkOk ..
  have stranger : ¬ (s.elapse dt).stripped ((s.elapse dt).orderFrame src p) = true := by
    rw [State.stripped_iff]
    rintro (own | ⟨e, transit, same⟩)
    · exact listens.stranger.1 own
    · exact listens.stranger.2 e transit same
  by_cases search : s.loop.state = .search
  · rw [State.receive_locking (s := s.elapse dt) listens.hears len check address search, if_neg stranger, State.heard_locking search]
    exact State.route_orderFrame rfl ..
  · rw [State.receive_routed (s := s.elapse dt) listens.hears len check address search, if_neg stranger, State.heard_arrived search]
    exact State.route_orderFrame rfl ..

/-- While the wait is set every order is judged and answered, RESTART among them (R190). -/
theorem takeOrder_set (set : s.orders.restart ≠ .clear) (o : Order) : takeOrder src o s = answerOrder src o.code (judgeOrder o) s := by
  cases o with
  | restart => exact takeRestart_again set src
  | _ => rfl

end Sys2Proof.Machine
end

section
/-! SUPPORT. The restart wait (R190): the orders taken while it lasts, and its end in a start. -/

namespace Sys2Proof.Machine

variable {s t u b : State} {c : Instr} {dt : Nat} {f : State → State} {src : Byte} {p : List Byte}

/-! ### Orders taken while a restart is awaited (R182, R190) -/

/-- A command run on a state ends in the start that a state requests, or in the stop that is prolonged. -/
def State.StartsIn (s : State) (c : Instr) (u : State) : Prop :=
  ∃ t, exec c s = .next t ∧ (s.StartsAlone → u.WarmStarted t .order) ∧ (¬ s.StartsAlone → u.RestartHalted t)

theorem State.startsIn_of (pending : u.pending = s.pending) (ends : ∃ t, exec c s = .next t ∧ u.Restarts t) : s.StartsIn c u := by
  obtain ⟨t, run, restarts⟩ := ends
  unfold State.Restarts State.StartsAlone at restarts
  rw [pending] at restarts
  exact ⟨t, run, restarts⟩

/-- A command that queues the ANSWER to an order whose judgement made a state and a reply. -/
structure State.Hears (s : State) (c : Instr) (dt : Nat) (src code : Byte) (u : State) (r : Reply) : Prop where
  kept : s.StoreKept
  pending : u.pending = s.pending
  run : exec c s = .next ((u.enqueue (.answer src (answerPayload code r) false)).conclude (s.elapse dt))

/-- An order that arrives while a restart is awaited is judged in the state `heard`. -/
theorem State.hears_of (kept : s.StoreKept) (waits : s.orders.restart = .waiting) (listens : (s.setRestart .clear).Listens src) {o : Order}
    (row : exec c s = event dt (fun t => t.receive (t.orderFrame src p) (takeOrder src o)) s) (len : p.length ≤ 12) :
    s.Hears c dt src o.code (judgeOrder o (s.heard dt)).1 (judgeOrder o (s.heard dt)).2 where
  kept := kept
  pending := (judgeOrder_clock o (s.heard dt)).2
  run := by
    rw [row, event_awake _ _ s listens.awake, State.receive_heard listens len, takeOrder_set]
    · rfl
    · rw [State.heard_orders, waits]; nofun

section
variable {code : Byte} {r : Reply} (h : s.Hears c dt src code u r)
include h

/-- An order judged that requests no start, whose ANSWER makes no named one go (R21, R190). -/
theorem State.Hears.performs (unrequested : u.orders.restart ≠ .requested)
    (queued : (u.enqueue (.answer src (answerPayload code r) false)).orders.restart = u.orders.restart) :
    s.Performs c src code r.result r.data u := by
  obtain ⟨settles, answers⟩ := State.conclude_keeps (by rw [queued]; exact unrequested)
    (State.enqueue_mem u (.answer src (answerPayload code r) false)) (s.elapse dt)
  have run := h.run
  generalize (u.enqueue _).conclude _ = t at run settles answers
  have orders : t.orders = (u.enqueue (.answer src (answerPayload code r) false)).orders := (congrArg State.orders settles.rest :)
  rw [← orders] at answers
  refine ⟨t, run, ⟨settles.rest.trans (State.enqueue_settled_of queued), fun d => ?_⟩, answers⟩
  have times := settles.times d
  rw [State.entry, State.entry, State.enqueue_drive] at times
  exact times

/-- An order judged whose ANSWER leaves the start requested (R190). -/
theorem State.Hears.startsIn (requested : (u.enqueue (.answer src (answerPayload code r) false)).orders.restart = .requested) :
    s.StartsIn c u :=
  State.startsIn_of h.pending
    ⟨_, h.run, (State.conclude_restarts (b := s.elapse dt) h.kept requested).of_carried (State.enqueue_carried ..)⟩

/-- With room in the FIFO the ANSWER makes none go (R21). -/
theorem State.Hears.performs_room (unrequested : u.orders.restart ≠ .requested) (room : u.loop.fifo.length < 4) :
    s.Performs c src code r.result r.data u :=
  h.performs unrequested (by rw [State.enqueue_room _ _ room]; rfl)

/-- An order taken while a restart is awaited: it is answered, unless its judgement requested the start or its ANSWER makes the named one
go (R21, R190). -/
theorem State.Hears.taken :
    (u.orders.restart = .waiting →
      (u.loop.fifo.length < 4 → s.Performs c src code r.result r.data u) ∧
      (∀ before dst p named after, u.loop.fifo = before ++ .answer dst p named :: after → u.loop.fifo.length = 4 →
        (∀ w ∈ before, w.isNotice = true) →
        (named = false → s.Performs c src code r.result r.data u) ∧ (named = true → s.StartsIn c u))) ∧
    (u.orders.restart = .requested → s.StartsIn c u) := by
  refine ⟨fun waits => ⟨h.performs_room (by rw [waits]; nofun), fun before dst p named after fifo full notices => ⟨?_, ?_⟩⟩,
    fun requested => ?_⟩
  · rintro rfl
    refine h.performs (by rw [waits]; nofun) ?_
    rw [State.enqueue_full full fifo notices]
    dsimp only
    rw [if_neg fun both => Bool.false_ne_true both.1]
  · rintro rfl
    refine h.startsIn ?_
    rw [State.enqueue_full full fifo notices]
    exact if_pos ⟨rfl, waits⟩
  · refine h.startsIn ?_
    rw [State.enqueue_orders _ _ (by rw [requested]; nofun), requested]

end

/-! ### The ways the wait ends (R12, R14, R190) -/

/-- A command that carries out the start a restart waited for. -/
theorem ends_of (kept : s.StoreKept) (awake : s.starter.stopped = false) (row : exec c s = event dt f s)
    (requested : (f (s.elapse dt)).orders.restart = .requested) (same : (f (s.elapse dt)).carried = s.carried) :
    ∃ t, exec c s = .next t ∧ (s.StartsAlone → s.WarmStarted t .order) ∧
      (¬ s.StartsAlone → s.RestartHalted t ∧ t.checkSum = s.checkSum) := by
  obtain ⟨t, run, alone, together⟩ := event_restarts kept awake row requested same
  exact ⟨t, run, alone, fun falls => ⟨together falls, (together falls).checkSum kept⟩⟩

theorem State.moveToListen_carried (s : State) : s.moveToListen.carried = s.carried := (State.requestStart_carried _).trans rfl

theorem State.sendingDone_carried (s : State) (x : Sending) : (s.sendingDone x).carried = s.carried := by
  cases x with
  | repeated f => rfl
  | notice f c => rfl
  | answer f named =>
    cases named with
    | false => rfl
    | true => exact s.requestStart_carried
  | drive f d cls since => exact State.carried_of_settled (State.setEntry_settled _ _ _ rfl)

theorem State.lastByteSent_sending {x : Sending} (sends : s.loop.out = .sending x) :
    s.lastByteSent =
      if ((s.setLoop (s.loop.lastByte s.ms)).sendingDone x).loop.leaveAwaiting then
        ((s.setLoop (s.loop.lastByte s.ms)).sendingDone x).moveToListen
      else (s.setLoop (s.loop.lastByte s.ms)).sendingDone x := by
  unfold State.lastByteSent
  rw [sends]

theorem State.lastByteSent_carried (s : State) : s.lastByteSent.carried = s.carried := by
  unfold State.lastByteSent
  split
  · have done : ∀ x, ((s.setLoop (s.loop.lastByte s.ms)).sendingDone x).carried = s.carried := fun x =>
      (State.sendingDone_carried _ x).trans rfl
    dsimp only
    split
    · exact (State.moveToListen_carried _).trans (done _)
    · exact done _
  · rfl

theorem State.guardExpiry_carried (s : State) : s.guardExpiry.carried = s.carried := by
  unfold State.guardExpiry
  split
  · exact (State.raise_carried ..).trans s.enterSearch_carried
  · rfl

theorem State.returnExpiry_carried (s : State) : s.returnExpiry.carried = s.carried := by
  have counted : ∀ l k g, ((s.setLoop { s.loop with transit := l, losses := k }).countLoop g).carried = s.carried := fun _ _ g =>
    (State.countLoop_carried _ g).trans rfl
  unfold State.returnExpiry
  dsimp only
  split
  · exact (State.raise_carried ..).trans ((State.enterSearch_carried _).trans (counted ..))
  · exact counted ..

/-- SEARCH entered with a restart awaited, and LOOP raised, leaves the start requested (R12, R190). -/
theorem State.searchEntered_requested (waits : s.orders.restart = .waiting) (code : Code) :
    (s.enterSearch.raise .loop .none (some code)).orders.restart = .requested := by
  have requested : s.enterSearch.orders.restart = .requested := by rw [State.enterSearch_restart, waits]; rfl
  rw [State.raise_orders _ _ _ _ (by rw [requested]; nofun), requested]

end Sys2Proof.Machine
end

section
/-! SUPPORT. A RESTART from its order to the start that ends its wait (R190). -/

namespace Sys2Proof.Machine

variable {s t u : State} {c : Instr} {dt : Nat} {src : Byte} {p : List Byte}

/-! ### A RESTART taken (R190) -/

theorem encodeOrder_short {o : Order} (fits : Order.Fits o) : (encodeOrder o).length ≤ 12 := by
  cases o with
  | curveData k bs => exact Nat.succ_le_succ (fits k bs rfl).2
  | trim h n => cases n <;> exact Nat.le_of_ble_eq_true rfl
  | showFn fn x start => cases start <;> exact Nat.le_of_ble_eq_true rfl
  | _ => exact Nat.le_of_ble_eq_true rfl

/-- The ANSWER to a RESTART. -/
def restartAnswer (src : Byte) (named : Bool) : Waiting := .answer src [0x15, 0] named

theorem execRestart_run (listens : s.Listens src) :
    exec (.restart dt src) s = .next ((takeRestart src (s.heard dt)).conclude (s.elapse dt)) := by
  show event dt (fun t => t.receive (t.orderFrame src (encodeOrder .restart)) (takeRestart src)) s = _
  rw [event_awake _ _ s listens.awake, State.receive_order s dt src _ _ listens (Nat.le_of_ble_eq_true rfl)]

theorem takeRestart_held (calm : s.orders.restart = .clear) (held : s.loop.state = .held) :
    takeRestart src s = (s.enqueue (restartAnswer src true)).setRestart .waiting := by
  unfold takeRestart
  rw [calm, held]
  rfl

theorem takeRestart_listen (calm : s.orders.restart = .clear) (listen : s.loop.state = .listen) :
    takeRestart src s = (s.enqueue (restartAnswer src false)).setRestart .requested := by
  unfold takeRestart
  rw [calm, listen]
  rfl

/-- A RESTART in HELD sets the wait, which names its ANSWER (R190). -/
theorem restart_held (listens : s.Listens src) (held : (s.heard dt).loop.state = .held) :
    ∃ t, exec (.restart dt src) s = .next t ∧ t.Settles { s.heard dt with orders := { s.orders with restart := .waiting } } ∧
      (Waiting.answer src [0x15, 0] true ∈ t.loop.fifo ∨
        t.loop.out = .sending (.answer (Frame.make src s.orders.own 0x21 [0x15, 0]) true)) := by
  have quiet : (s.heard dt).orders.restart ≠ .waiting := by rw [State.heard_orders, listens.calm]; nofun
  have own := (congrArg OrderUnit.own (State.enqueue_orders _ (restartAnswer src true) quiet) :)
  have settled := State.enqueue_settled _ (restartAnswer src true) quiet
  have drive := State.enqueue_drive (s.heard dt) (restartAnswer src true)
  have mem := State.enqueue_mem (s.heard dt) (restartAnswer src true)
  have run := execRestart_run (dt := dt) listens
  rw [takeRestart_held (s := s.heard dt) listens.calm held] at run
  generalize (s.heard dt).enqueue (restartAnswer src true) = e at own settled drive mem run
  obtain ⟨settles, answers⟩ := State.conclude_keeps (s := e.setRestart .waiting) nofun mem (s.elapse dt)
  refine ⟨_, run, ⟨settles.rest.trans (congrArg (fun x => x.setRestart .waiting) settled :), fun d => ?_⟩, ?_⟩
  · have times := settles.times d
    rw [show (e.setRestart .waiting).entry d = (s.heard dt).entry d from congrArg (fun x => x.entries.get (driveIndex d)) drive] at times
    exact times
  · rw [show (e.setRestart .waiting).orders.own = s.orders.own from own] at answers
    exact answers

/-- A RESTART in LISTEN starts the part at once (R190). -/
theorem restart_listen (kept : s.StoreKept) (listens : s.Listens src) (listen : (s.heard dt).loop.state = .listen) :
    ∃ t, exec (.restart dt src) s = .next t ∧ (s.StartsAlone → s.WarmStarted t .order) ∧
      (¬ s.StartsAlone → s.RestartHalted t ∧ t.checkSum = s.checkSum) := by
  refine ends_of (f := fun t => t.receive (t.orderFrame src (encodeOrder .restart)) (takeRestart src)) kept listens.awake rfl ?_ ?_
  all_goals
    rw [State.receive_order s dt src _ _ listens (Nat.le_of_ble_eq_true rfl), takeRestart_listen (s := s.heard dt) listens.calm listen]
  · rfl
  · rw [State.setRestart_carried, State.enqueue_carried, State.heard_carried]

/-! ### The ways the wait ends -/

/-- The third loss (R20). -/
theorem State.returnExpiry_third (lost : 3 ≤ (expireTransit s.ms s.loop.transit s.loop.losses).2.1) (locked : s.loop.state ≠ .search) :
    ∃ v : State, v.orders = s.orders ∧ s.returnExpiry = v.enterSearch.raise .loop .none (some .loss) := by
  unfold State.returnExpiry
  dsimp only
  rw [if_pos ⟨lost, locked⟩]
  refine ⟨_, ?_, rfl⟩
  exact State.countLoop_orders ..

section
variable (kept : s.StoreKept) (awake : s.starter.stopped = false) (waits : s.orders.restart = .waiting)
include kept awake waits

/-- The last byte of the named ANSWER ends the wait (R23, R190). -/
theorem ends_by_answer {f : Frame} (sends : s.loop.out = .sending (.answer f true)) :
    ∃ t, exec (.lastByteSent dt) s = .next t ∧ (s.StartsAlone → s.WarmStarted t .order) ∧
      (¬ s.StartsAlone → s.RestartHalted t ∧ t.checkSum = s.checkSum) := by
  refine ends_of (f := State.lastByteSent) kept awake rfl ?_ (State.lastByteSent_carried _)
  have done : (((s.elapse dt).setLoop ((s.elapse dt).loop.lastByte (s.elapse dt).ms)).requestStart).orders.restart = .requested := by
    rw [State.requestStart_eq]
    exact if_pos waits
  rw [State.lastByteSent_sending (s := s.elapse dt) sends]
  split
  · exact (State.moveToListen_restart _).trans ((if_neg (by rw [State.sendingDone, if_pos rfl, done]; nofun)).trans done)
  · exact done

/-- The move to LISTEN that a LEAVE awaits ends the wait (R14, R190). -/
theorem ends_by_leave {x : Sending} (sends : s.loop.out = .sending x) (leaves : s.loop.leaveAwaiting = true) :
    ∃ t, exec (.lastByteSent dt) s = .next t ∧ (s.StartsAlone → s.WarmStarted t .order) ∧
      (¬ s.StartsAlone → s.RestartHalted t ∧ t.checkSum = s.checkSum) := by
  refine ends_of (f := State.lastByteSent) kept awake rfl ?_ (State.lastByteSent_carried _)
  have done : ∀ v : State, v.orders.restart = .waiting → v.loop.leaveAwaiting = true →
      (v.sendingDone x).loop.leaveAwaiting = true ∧
        ((v.sendingDone x).orders.restart = .waiting ∨ (v.sendingDone x).orders.restart = .requested) := fun v waits leaves => by
    cases x with
    | answer f named =>
      cases named with
      | false => exact ⟨leaves, .inl waits⟩
      | true =>
        show v.requestStart.loop.leaveAwaiting = true ∧ (_ ∨ v.requestStart.orders.restart = .requested)
        rw [State.requestStart_eq, waits]
        exact ⟨leaves, .inr rfl⟩
    | _ => exact ⟨leaves, .inl waits⟩
  obtain ⟨leaving, set⟩ := done ((s.elapse dt).setLoop ((s.elapse dt).loop.lastByte (s.elapse dt).ms)) waits leaves
  rw [State.lastByteSent_sending (s := s.elapse dt) sends, if_pos leaving, State.moveToListen_restart]
  obtain set | set := set <;> rw [set] <;> rfl

/-- The loop guard's entry to SEARCH ends the wait (R13, R190). -/
theorem ends_by_guard {d : Nat} (locked : s.loop.state ≠ .search) (guard : s.loop.guard = some d) (reached : d ≤ (s.elapse dt).ms) :
    ∃ t, exec (.loopGuardExpiry dt) s = .next t ∧ (s.StartsAlone → s.WarmStarted t .order) ∧
      (¬ s.StartsAlone → s.RestartHalted t ∧ t.checkSum = s.checkSum) := by
  refine ends_of (f := State.guardExpiry) kept awake rfl ?_ (State.guardExpiry_carried _)
  have expires : due s.loop.guard (s.elapse dt).ms = true := by
    rw [guard]
    exact decide_eq_true reached
  have enters : (s.elapse dt).guardExpiry = (s.elapse dt).enterSearch.raise .loop .none (some .guard) := if_pos ⟨locked, expires⟩
  rw [enters]
  exact State.searchEntered_requested (s := s.elapse dt) waits .guard

/-- The third loss's entry to SEARCH ends the wait (R20, R190). -/
theorem ends_by_loss (locked : s.loop.state ≠ .search) (few : s.loop.losses ≤ 2)
    (third : 3 ≤ s.loop.losses +
      (s.loop.transit.takeWhile fun e => e.deadline.any fun d => decide (d ≤ (s.elapse dt).ms)).length) :
    ∃ t, exec (.returnDeadlineExpiry dt) s = .next t ∧ (s.StartsAlone → s.WarmStarted t .order) ∧
      (¬ s.StartsAlone → s.RestartHalted t ∧ t.checkSum = s.checkSum) := by
  refine ends_of (f := State.returnExpiry) kept awake rfl ?_ (State.returnExpiry_carried _)
  have lost : 3 ≤ (expireTransit (s.elapse dt).ms (s.elapse dt).loop.transit (s.elapse dt).loop.losses).2.1 := by
    rw [expireTransit_eq, State.elapse_loop]
    dsimp only
    omega
  obtain ⟨v, orders, enters⟩ := State.returnExpiry_third lost locked
  rw [enters]
  exact State.searchEntered_requested (by rw [orders]; exact waits) .loss

end

/-! ### A part that has restarted -/

/-- What is read of the state a RESTART's start leaves. -/
theorem State.WarmStarted.restarted (a : s.WarmStarted t .order) :
    t.orders.restart = .clear ∧ (s.starter.stopped = false → t.starter.stopped = false) ∧ t.loop.state = .search ∧
      (∀ h, t.slot h = { role := .empty, held := none } ∧ (t.lamp h).state = .dark ∧ (t.mon h).motion = .stopped) ∧
      t.notices.isPending .restarted = true ∧ (t.notices.causes.get Event.restarted.num).code = some .order := by
  obtain ⟨-, -, -, -, pending⟩ := a.notices
  refine ⟨(congrArg OrderUnit.restart a.orders :), fun _ => (congrArg StartUnit.stopped a.starter :), (congrArg LoopUnit.state a.loop :),
    fun h => ⟨a.slots h, (congrArg Lamp.state (a.lamps h) :), (congrArg Monitor.motion (a.monitors h) :)⟩,
    (pending .restarted).trans (decide_eq_true (.inl rfl)), (congrArg CauseRecord.code a.causes.1 :)⟩

end Sys2Proof.Machine
end

section
/-! SUPPORT. What the restart wait brings, command by command (R190), and what an entry to SEARCH leaves of the answer/notice FIFO (R23). -/

namespace Sys2Proof.Machine

variable {s t u : State} {c : Instr} {dt : Nat} {src : Byte} {p : List Byte}

/-! ### Any command while a restart is awaited -/

theorem State.withLines_restart (s : State) (c : Instr) :
    (s.withLines c).orders = s.orders ∧ (s.withLines c).starter.stopped = s.starter.stopped := by
  cases c <;> exact ⟨rfl, rfl⟩

theorem State.endStop_awake (awake : s.starter.stopped = false) : s.endStop = s :=
  if_neg fun ends => by
    rw [awake] at ends
    cases ends

/-- While a restart is awaited a command leaves the wait set or ends it in the start (R190). -/
theorem exec_waiting (kept : s.StoreKept) (alone : s.StartsAlone) (awake : s.starter.stopped = false) (waits : s.orders.restart = .waiting)
    (run : exec c s = .next t) : t.orders.restart = .waiting ∨ ∃ u : State, u.starter.stopped = false ∧ u.WarmStarted t .order := by
  obtain ⟨dt, f, effect, e⟩ | ⟨dt, ⟨rfl, e⟩ | ⟨rfl, e⟩⟩ | ⟨dt, clear, ⟨rfl, e⟩ | ⟨rfl, e⟩⟩ := exec_cases c s
  · obtain ⟨orders, stopped⟩ := s.withLines_restart c
    obtain ⟨asleep, -⟩ | ⟨-, rfl⟩ := event_cases (e.symm.trans run)
    · rw [stopped, awake] at asleep
      cases asleep
    have set : (f ((s.withLines c).elapse dt)).orders.restart ≠ .clear := effect_set effect (by rw [State.elapse_orders, orders, waits]; nofun)
    cases wait : (f ((s.withLines c).elapse dt)).orders.restart with
    | clear => exact absurd wait set
    | waiting =>
      have settles := State.conclude_settles (f ((s.withLines c).elapse dt)) ((s.withLines c).elapse dt) (by rw [wait]; nofun)
      exact .inl ((congrArg (fun t : State => t.orders.restart) settles.rest :).trans wait)
    | requested =>
      have restarts := State.conclude_restarts (b := (s.withLines c).elapse dt) (State.withLines_kept c kept) wait
      have pending : (f ((s.withLines c).elapse dt)).pending = s.pending := (effect_clock effect _).2.trans (s.withLines_clock c).2
      refine .inr ⟨_, ?_, restarts.1 fun rest => by rw [pending]; exact alone rest⟩
      rw [effect_starter effect]
      exact stopped.trans awake
  · cases e.symm.trans run
    rw [State.supplyFail_awake (s := s.elapse dt) awake]
    exact .inl waits
  · cases e.symm.trans run
    rw [State.resetAssert_awake (s := s.elapse dt) awake]
    exact .inl waits
  · cases e.symm.trans run
    exact .inl ((congrArg (fun t : State => t.orders.restart)
      (State.endStop_awake (s := { s.elapse dt with starter := { s.starter with supply := true, clear := clear } }) awake)).trans waits)
  · cases e.symm.trans run
    exact .inl ((congrArg (fun t : State => t.orders.restart)
      (State.endStop_awake (s := { s.elapse dt with starter := { s.starter with reset := false, clear := clear } }) awake)).trans waits)

/-! ### The answer/notice FIFO at an entry to SEARCH (R23) -/

/-- A list that holds no NOTICE holds ANSWERs alone. -/
theorem Waiting.answer_of_none {w : Waiting} {rest : List Waiting} (none : (w :: rest).any Waiting.isNotice = false) :
    ∃ dst p named, w = .answer dst p named := by
  cases w with
  | answer dst p named => exact ⟨dst, p, named, rfl⟩
  | notice c => cases none

theorem State.enterSearch_loop {x : Sending} (sends : s.loop.out = .sending x) :
    s.enterSearch.loop = ((s.setLoop (s.loop.searching s.ms)).abandon x).loop := by
  unfold State.enterSearch
  rw [sends]
  exact State.requestStart_loop _

theorem State.putBackNotice_joins {n : NoticeContents} (none : s.loop.fifo.any Waiting.isNotice = false) :
    s.putBackNotice n = s.makeRoom.setLoop { s.makeRoom.loop with fifo := .notice n :: s.makeRoom.loop.fifo } :=
  if_neg fun any => Bool.false_ne_true (none.symm.trans any)

/-- A NOTICE abandoned goes back to the head of the FIFO, unless another waits there; the room it needs is made uncounted in SEARCH. -/
theorem State.putBackNotice_fifo (s : State) (n : NoticeContents) (search : s.loop.state = .search) :
    (s.loop.fifo.any Waiting.isNotice = true → (s.putBackNotice n).loop.fifo = s.loop.fifo) ∧
    (s.loop.fifo.any Waiting.isNotice = false → s.loop.fifo.length < 4 → (s.putBackNotice n).loop.fifo = .notice n :: s.loop.fifo) ∧
    (s.loop.fifo.any Waiting.isNotice = false → s.loop.fifo.length = 4 →
      (s.putBackNotice n).loop.fifo = .notice n :: s.loop.fifo.tail ∧ (s.putBackNotice n).loop.counters = s.loop.counters) := by
  refine ⟨fun waits => ?_, fun none room => ?_, fun none full => ?_⟩
  · have stays : s.putBackNotice n = s := if_pos waits
    rw [stays]
  · have roomy : s.makeRoom = s := if_pos room
    rw [State.putBackNotice_joins none, roomy]
    rfl
  · rw [State.putBackNotice_joins none]
    cases fifo : s.loop.fifo with
    | nil => rw [fifo] at full; cases full
    | cons w rest =>
      rw [fifo] at none
      obtain ⟨dst, p, named, rfl⟩ := Waiting.answer_of_none none
      rw [State.makeRoom_full (before := []) full fifo fun _ mem => absurd mem List.not_mem_nil]
      exact ⟨rfl, if_pos search⟩

/-! ### LEAVE while a restart is awaited (R14) -/

theorem State.heard_fifo (s : State) (dt : Nat) : (s.heard dt).loop.fifo = s.loop.fifo := LoopUnit.heard_fifo ..

theorem State.heard_out (s : State) (dt : Nat) : (s.heard dt).loop.out = s.loop.out := by
  unfold State.heard LoopUnit.heard
  dsimp only
  split <;> rfl

theorem State.leaveRing_moves (held : s.loop.state = .held) (silent : ∀ x, s.loop.out ≠ .sending x) :
    s.leaveRing = (s.setLoop { s.loop with latch := true }).moveToListen := by
  unfold State.leaveRing
  rw [held]
  cases out : s.loop.out with
  | sending x => exact absurd out (silent x)
  | free => rfl
  | gap => rfl

theorem State.leaveRing_awaits {x : Sending} (held : s.loop.state = .held) (sends : s.loop.out = .sending x) :
    s.leaveRing = s.setLoop { s.loop with latch := true, leaveAwaiting := true } := by
  unfold State.leaveRing
  rw [held, sends]
  rfl

theorem State.StartsIn.of_carried (same : u.carried = t.carried) (a : s.StartsIn c u) : s.StartsIn c t := by
  obtain ⟨v, run, alone, together⟩ := a
  exact ⟨v, run, fun starts => .of_carried same (alone starts), fun falls => .of_carried same (together falls)⟩

end Sys2Proof.Machine
end

section
/-! SUPPORT. The restart wait from its order to its end. -/

namespace Sys2Proof.Machine

/-- Settles O51: the RESTART taken and the ways its wait ends, the orders taken meanwhile, the start carried out at the end of an event, the
commands that go on as usual, and the FIFO that drops or puts back what the wait names. -/
theorem restartWaitsForAnswer : Obligations.RestartWaitsForAnswer := by
  refine ⟨fun s dt src kept => ⟨fun listens held => restart_held listens held, fun listens listen => restart_listen kept listens listen,
      fun awake waits => ⟨fun f sends => ends_by_answer kept awake waits sends,
        fun x sends leaves => ends_by_leave kept awake waits sends leaves,
        fun d locked guard reached => ends_by_guard kept awake waits locked guard reached,
        fun locked few third => ends_by_loss kept awake waits locked few third⟩⟩,
    fun s dt src kept waits listens => ?_, fun s before kept requested => State.conclude_restarts kept requested,
    fun c s t kept alone awake waits run => ?_, fun c s t u waits restart telegram unknown run calm waits' => ?_,
    fun s w before after dst p named full fifo notices => State.enqueue_full full fifo notices w, fun s => ?_⟩
  · have hears : ∀ {o : Order} {c : Instr}, commandEffect c = some (dt, State.hearOrder src o) → s.withLines c = s → Order.Fits o →
        s.Hears c dt src o.code (judgeOrder o (s.heard dt)).1 (judgeOrder o (s.heard dt)).2 := fun {o c} effect lines fits =>
      State.hears_of (p := encodeOrder o) kept waits listens ((exec_eq_event effect s).trans (by rw [lines]; rfl)) (encodeOrder_short fits)
    have unrequested : (s.heard dt).orders.restart ≠ .requested := by rw [State.heard_orders, waits]; nofun
    have roomy : s.loop.fifo.length < 4 → (s.heard dt).loop.fifo.length < 4 := fun room => (s.heard_fifo dt).symm ▸ room
    have leave := hears (c := .leave dt src) (o := .leave) rfl rfl nofun
    refine ⟨fun o c row fits => ?_, fun p bad => ?_, fun room => ?_, fun ring silent => ?_, fun room x ring sends => ?_⟩
    · obtain ⟨effect, lines⟩ := row_effect row
      exact (hears effect (lines s) fits).taken
    · obtain ⟨decodes, short⟩ := decodeOrder_bad bad
      exact (State.hears_of (p := p) (o := .bad (p.headD 0)) kept waits listens (by rw [← decodes]; rfl) short).taken
    · exact (hears (c := .restart dt src) (o := .restart) rfl rfl nofun).performs_room unrequested (roomy room)
    · have out : ∀ x, (s.heard dt).loop.out ≠ .sending x := fun x => by rw [State.heard_out]; exact silent x
      have moves := State.leaveRing_moves ring out
      refine (leave.taken.2 ?_).of_carried ?_
      · show (s.heard dt).leaveRing.orders.restart = .requested
        rw [moves, State.moveToListen_restart]
        exact if_pos waits
      · show (s.heard dt).leaveRing.carried = _
        rw [moves]
        exact State.moveToListen_carried _
    · have made : (judgeOrder .leave (s.heard dt)).1 = _ := State.leaveRing_awaits ring ((s.heard_out dt).trans sends)
      rw [made] at leave
      exact leave.performs_room unrequested (roomy room)
  · obtain still | ⟨u, awake', started⟩ := exec_waiting kept alone awake waits run
    · exact .inl still
    · obtain ⟨restart, stopped, rest⟩ := started.restarted
      exact .inr ⟨restart, stopped awake', rest⟩
  · have other : ¬ BringsRestart c := by
      cases c with
      | restart dt src => exact absurd rfl (restart dt src)
      | telegramComplete dt f => exact telegram dt f rfl
      | unknownOrder dt src p => exact unknown dt src p rfl
      | _ => exact id
    rw [← exec_uncleared other run waits' calm]
    show t = t.setRestart .waiting
    rw [← waits']
    rfl
  · refine ⟨s.enterSearch_restart, fun f n sends => ?_, fun f named sends => ?_⟩
    · rw [State.enterSearch_loop sends]
      exact State.putBackNotice_fifo (s.setLoop (s.loop.searching s.ms)) n rfl
    · rw [State.enterSearch_loop sends]
      refine ⟨rfl, ?_⟩
      show (match s.loop.out with | .sending _ => LoopOut.free | o => o) = .free
      rw [sends]

end Sys2Proof.Machine
end
